-- ==== Sys2Proof/Word.lean ====
section
/-! DEFINITION. The byte and two-byte values of the CM8's ports and links, the head and copy numbers, and a
bank of eight like things. -/

namespace Sys2Proof

/-- A byte as it travels on the Command Port (R160) or on a head link (R147). -/
abbrev Byte := BitVec 8

/-- A two-byte value of a head-link frame (spec 00, "Multi-byte values"). -/
abbrev Word := BitVec 16

/-- A head number, 0 to 7. -/
abbrev HeadNo := Fin 8

/-- A copy number, 0 to 7. -/
abbrev CopyNo := Fin 8

/-- Eight like things, one for each head or each copy. -/
abbrev Bank (α : Type) := Vector α 8

end Sys2Proof
end

