-- ==== Sys2Proof/Syntax.lean ====
section
/-! DEFINITION. The commands of the block: one constructor for each row of spec/opcode_table.json, with the
row's operands. The table's rows are the part's steps (spec 95). -/

namespace Sys2Proof

/-- The C/D value of a byte at the Command Port (R160): low marks a command byte, high a parameter or
reply byte. -/
inductive PortLine where
  | command
  | parameter
  deriving DecidableEq, Repr

/-- One constructor per row of the table. A decoder step of the port carries no operand: the byte it takes
stands at the front of the intake queue (R162), and a store unit of the port finds its operands where the
decoder left them (log entry 1). -/
inductive Instr where
  /-- R173: RESET# held low, or power-up. -/
  | hardwareReset
  /-- R160: a byte completes at the port; `begunEarly` says that it was begun before the reply it might
  have read was latched (R168). -/
  | cpByte (line : PortLine) (value : Byte) (begunEarly : Bool)
  /-- R161: CS# rises after `bits` bits of a byte. -/
  | chipSelectBreak (bits : Nat)
  /-- R162: the decoder takes a parameter byte. -/
  | parameterByte
  /-- R162: the decoder takes a command byte whose code is in no row of R170. -/
  | unknownCommand
  /-- R169 -/
  | resultRead
  /-- R171 -/
  | statusRead
  /-- R179 -/
  | ack
  /-- R176 -/
  | attnSetup
  /-- R39 -/
  | clearWork
  /-- R135 -/
  | timebase
  /-- R5 -/
  | copySetup
  /-- R10 -/
  | bandBounds
  /-- R12 -/
  | bandSet
  /-- R15 -/
  | copyQuery
  /-- R120 -/
  | headBind
  /-- R121 -/
  | headUnbind
  /-- R123 -/
  | toolSet
  /-- R144 -/
  | spindleSet
  /-- R125 -/
  | headHalt
  /-- R126 -/
  | headResume
  /-- R127 -/
  | stepMode
  /-- R128 -/
  | headStep
  /-- R134 -/
  | headQuery
  /-- R27 -/
  | tileOpen
  /-- R17: the store unit of TILE OPEN. -/
  | tileOpenUnit
  /-- R43 -/
  | window
  /-- R46 -/
  | targetWrite
  /-- R46: the store unit of one target value. -/
  | targetWriteValue
  /-- R47 -/
  | cutWrite
  /-- R47: the store unit of one cut value. -/
  | cutWriteValue
  /-- R49 -/
  | fill
  /-- R49: the store unit of FILL. -/
  | fillUnit
  /-- R28 -/
  | tileSeal
  /-- R28: the store unit of TILE SEAL. -/
  | tileSealUnit
  /-- R50 -/
  | fenceWrite
  /-- R51: the store unit of FENCE WRITE. -/
  | fenceWriteUnit
  /-- R52 -/
  | tileEdit
  /-- R53: the store unit of TILE EDIT. -/
  | tileEditUnit
  /-- R36 -/
  | tileRetire
  /-- R57 -/
  | tileDuplicate
  /-- R109 -/
  | claimBreak
  /-- R38 -/
  | tileQuery
  /-- R54 -/
  | tileRead
  /-- R55: the store unit of TILE READ. -/
  | tileReadUnit
  /-- R35 -/
  | nextDone
  /-- R95 -/
  | violationRead
  /-- R96 -/
  | violationClear
  /-- R131: a good PROBE frame arrives. -/
  | probe (head : HeadNo) (tag : Byte) (row col : Word)
  /-- R132: a good REPORT frame arrives. -/
  | report (head : HeadNo) (tag : Byte) (row col depth : Word)
  /-- R108: a good RELEASE frame arrives. -/
  | release (head : HeadNo) (tag : Byte) (row col : Word)
  /-- R157: a good LINK RESET frame arrives. -/
  | linkReset (head : HeadNo)
  /-- R65: the store unit of the head's PROBE. -/
  | probeUnit (head : HeadNo)
  /-- R86: the store unit of the head's REPORT. -/
  | reportUnit (head : HeadNo)
  /-- R112: the tick that ends the head's hold timer. -/
  | holdTimerExpiry (head : HeadNo)
  /-- R59: one transfer of the Copy Engine. -/
  | copyTransfer
  /-- R141: an index pulse of the head's spindle. -/
  | indexPulse (head : HeadNo)
  /-- R139: the tick that brings the head's window counter to 65535. -/
  | stallEntry (head : HeadNo)
  /-- R148: a byte with a low stop bit on the head's link. -/
  | framingError (head : HeadNo)
  /-- R149: a KIND byte that is none of the four. -/
  | unknownKind (head : HeadNo) (kind : Byte)
  /-- R150: a complete frame whose byte sum is not 0. -/
  | badFrame (head : HeadNo)
  /-- R151: 320 REFCLK cycles without a start bit inside a frame. -/
  | gapTimerExpiry (head : HeadNo)
  /-- R156: the last stop bit of the answer in transmission ends. -/
  | answerTransmitted (head : HeadNo)
  /-- R139, R112: one time-base tick. -/
  | timeBaseTick
  /-- R148: a byte with a good stop bit completes on the head's link. -/
  | headLinkByte (head : HeadNo) (value : Byte)
  deriving DecidableEq, Repr

end Sys2Proof
end

