-- ==== Sys2Proof/Config.lean ====
section
/-! DEFINITION. The sizes and limits the spec fixes for the CM8. The spec leaves no result value open, so
there is no free value here. -/

namespace Sys2Proof.Config

/-- Slots of the Tile Store (R24). -/
def slots : Nat := 128

/-- Cells of a tile (R17). -/
def cellsPerTile : Nat := 64

/-- The deepest target or cut depth (R1). -/
def maxDepth : Nat := 16383

/-- Where the wear accumulator saturates (R87). -/
def maxWear : Nat := 262143

/-- The largest wear limit (R117). -/
def maxWearLimit : Nat := 1023

/-- The longest step limit of a band (R8). -/
def maxStep : Nat := 1023

/-- The largest finish tolerance (R4). -/
def maxFinishTol : Nat := 63

/-- The last cell row or column (R2). -/
def lastCellLine : Nat := 4095

/-- Revolutions of the longest load window (R137). -/
def maxWindow : Nat := 64

/-- Where a window counter saturates (R139). -/
def counterTop : Nat := 65535

/-- Time-base ticks of one hold unit (R112). -/
def holdUnit : Nat := 4096

/-- Bytes the intake queue holds (R162). -/
def intakeDepth : Nat := 16

/-- The highest count of the Violation Hold (R93). -/
def maxViolations : Nat := 255

/-- The largest time-base exponent (R135). -/
def maxTimebase : Nat := 7

/-- The SYNC byte of every frame (spec 09, section 9.2). -/
def sync : Byte := 0xC3

end Sys2Proof.Config
end

