-- ==== Sys2Proof/Machine/State.lean ====
section
/-! DEFINITION. The state of the CM8, block by block (spec 00, "Blocks"), the reasons a step could stop, and
the state after hardware reset. -/

namespace Sys2Proof.Machine

/-- Why the machine could stop with a fault. The spec describes no event that stops the block, so there is
no constructor and no meaning faults (safe: nothing is stopped that the hardware would carry on; log
entry 17). -/
inductive Fault where
  deriving DecidableEq, Repr

/-- Why a command could be refused by the model. -/
inductive Refusal where
  /-- Raised only by an arm of `exec` whose command has no meaning yet; no arm does so now (safe). -/
  | notModelled (mnemonic : String)
  deriving DecidableEq, Repr

/-! ## Surface model (spec 01 and 02) -/

/-- A tile key (R2, R3): an out-of-range key is no `TileKey`. -/
structure TileKey where
  copy : CopyNo
  row : Fin 512
  col : Fin 512
  deriving DecidableEq, Repr

/-- One copy record (R4). -/
structure CopyRecord where
  roughAllow : Nat
  fenceAllow : Nat
  finishTol : Nat
  overTol : Nat
  shared : Bool
  deriving DecidableEq, Repr

/-- How the dwell of a cut answer is chosen (R78). -/
inductive DwellMode where
  | none
  | fixed
  | load
  deriving DecidableEq, Repr

/-- One band record (R8). -/
structure BandRecord where
  start : Nat
  stepMax : Nat
  wearRate : Nat
  dwellMode : DwellMode
  dwell : Nat
  deriving DecidableEq, Repr

/-- One cell of a slot (R17). -/
structure Cell where
  target : Nat
  cut : Nat
  fence : Bool
  overcut : Bool
  deriving DecidableEq, Repr

/-- The cells of the Tile Store by their addresses (slot × 64 + cell index), addresses strictly rising, and
no blank cell listed. -/
abbrev Memory := List (Nat × Cell)

/-- The state of a resident tile (R22); a key without an entry is FREE. -/
inductive TileState where
  | filling
  | live
  | done
  | copying
  deriving DecidableEq, Repr

/-- One directory entry (R22). `ret` is the return state, present only on the source of a duplication
(R33). -/
structure Entry where
  key : TileKey
  slot : Nat
  state : TileState
  ret : Option TileState
  owner : Option HeadNo
  waiters : List HeadNo
  remaining : Nat
  overcut : Nat
  deriving DecidableEq, Repr

/-- The requesters of the store arbiter (R19). -/
inductive Requester where
  | hu (head : HeadNo)
  | cp
  | ce
  deriving DecidableEq, Repr

/-- The store arbiter (R19): the requester of the last grant, and the one whose unit holds the store. -/
structure Arbiter where
  last : Requester
  granted : Option Requester
  deriving DecidableEq, Repr

/-! ## Loading and duplication (spec 03) -/

/-- The Load Unit (R41). -/
structure LoadUnit where
  openTile : Option TileKey
  firstRow : Nat
  lastRow : Nat
  firstCol : Nat
  lastCol : Nat
  ptrRow : Nat
  ptrCol : Nat
  deriving DecidableEq, Repr

/-- The two entries of a duplication in progress (R56). -/
structure CopyJob where
  source : TileKey
  dest : TileKey
  deriving DecidableEq, Repr

/-- The Copy Engine (R56): busy while it has a job. -/
structure CopyEngine where
  job : Option CopyJob
  next : Nat
  waiting : List HeadNo
  deriving DecidableEq, Repr

/-! ## Violations (spec 05) -/

/-- The kind of a violation (R91). -/
inductive ViolationKind where
  | surface
  | allowance
  deriving DecidableEq, Repr

/-- The record of a captured violation (R93). -/
structure Violation where
  head : HeadNo
  tile : TileKey
  cell : Nat
  reached : Nat
  limit : Nat
  kind : ViolationKind
  deriving DecidableEq, Repr

/-- The Violation Hold (R93): full while it has a record. -/
structure ViolationHold where
  record : Option Violation
  count : Nat
  deriving DecidableEq, Repr

/-! ## Claims and heads (spec 06 and 07) -/

/-- A head's claim slots, oldest first, and its hold timer, which holds a count only while it runs (R99,
R112). -/
structure ClaimUnit where
  slots : List TileKey
  timer : Option Nat
  deriving DecidableEq, Repr

/-- R117 -/
inductive HeadState where
  | unbound
  | active
  | halted
  deriving DecidableEq, Repr

/-- R117 -/
inductive ToolClass where
  | rough
  | finish
  deriving DecidableEq, Repr

/-- The kinds of a head's request (R152). -/
inductive RequestKind where
  | probe
  | report
  | release
  deriving DecidableEq, Repr

/-- A request as the head unit holds it (R129): a REPORT's depth after clamping (R83), 0 for the others. -/
structure Request where
  kind : RequestKind
  tag : Byte
  row : Nat
  col : Nat
  depth : Nat
  deriving DecidableEq, Repr

/-- R129 -/
inductive WaitKind where
  | inService
  | step
  | claim
  | copy
  deriving DecidableEq, Repr

/-- The outstanding request (R129). Beside it: the key it presented at the directory step (R25), whether
that entry has been removed since (R26), and whether it is carried on without an answer (R158). -/
structure Outstanding where
  req : Request
  wait : WaitKind
  key : Option TileKey
  orphaned : Bool
  silent : Bool
  deriving DecidableEq, Repr

/-- A head unit: the head record (R117), the outstanding slot and the input buffer (R129). -/
structure HeadUnit where
  state : HeadState
  stepMode : Bool
  boundCopy : Option CopyNo
  toolClass : ToolClass
  wear : Nat
  wearLimit : Nat
  worn : Bool
  holdTimeout : Nat
  outstanding : Option Outstanding
  buffer : Option Request
  deriving DecidableEq, Repr

/-! ## Load monitors (spec 08) -/

/-- R137 -/
inductive MeasureState where
  | arming
  | none
  | valid
  | stalled
  deriving DecidableEq, Repr

/-- A load monitor (R137). -/
structure LoadMonitor where
  running : Bool
  state : MeasureState
  opened : Bool
  counter : Nat
  index : Nat
  lastP : Nat
  curN : Nat
  curP0 : Nat
  pendN : Nat
  pendP0 : Nat
  pendFlag : Bool
  deriving DecidableEq, Repr

/-! ## Head links (spec 09) -/

/-- R154 -/
inductive Status where
  | cut
  | atLimit
  | done
  | recorded
  | kept
  | overcut
  | released
  | notHeld
  | notLoaded
  | notReady
  | worn
  | stall
  | halted
  | unbound
  | contested
  | cancelled
  | outOfRange
  | overrun
  | badFrame
  deriving DecidableEq, Repr

/-- The payload of an ANSWER frame (R154). -/
structure Answer where
  tag : Byte
  status : Status
  value : Nat
  dwell : Nat
  deriving DecidableEq, Repr

/-- R148 -/
inductive FrameState where
  | hunt
  | kind
  | body
  deriving DecidableEq, Repr

/-- The receiver of a head link (R148). -/
structure Receiver where
  state : FrameState
  kind : Byte
  expected : Nat
  sum : Byte
  payload : List Byte
  gapRunning : Bool
  deriving DecidableEq, Repr

/-- A head link: its receiver, its transmit queue, whose front answer is in transmission (R155, R156), and
the model's record of the last frame that left on the transmit line (log entry 15). -/
structure Link where
  rx : Receiver
  tx : List Answer
  line : List Byte
  deriving DecidableEq, Repr

/-! ## Command Port (spec 10) -/

/-- The host commands (R170). -/
inductive Command where
  | resultRead
  | statusRead
  | ack
  | attnSetup
  | clearWork
  | timebase
  | copySetup
  | bandBounds
  | bandSet
  | copyQuery
  | headBind
  | headUnbind
  | toolSet
  | spindleSet
  | headHalt
  | headResume
  | stepMode
  | headStep
  | headQuery
  | tileOpen
  | window
  | targetWrite
  | cutWrite
  | fill
  | tileSeal
  | fenceWrite
  | tileEdit
  | tileRetire
  | tileDuplicate
  | claimBreak
  | tileQuery
  | tileRead
  | nextDone
  | violationRead
  | violationClear
  deriving DecidableEq, Repr

/-- The current command of the decoder (R162). -/
inductive Current where
  | none
  | unknown
  | known (c : Command)
  deriving DecidableEq, Repr

/-- How far the current command has come: its bytes are still taken in, a refusal has been decided under its
own rule, or it has acted or stored its last parameter. In the last two its further bytes are discarded
(R162). -/
inductive Phase where
  | receiving
  | refused
  | complete
  deriving DecidableEq, Repr

/-- RESULT codes (R169). -/
inductive ResultCode where
  | ok
  | busy
  | notFound
  | duplicateKey
  | full
  | claimed
  | belowCut
  | badArgument
  | truncated
  | unknownCommand
  | notOpen
  | copyTaken
  | notDone
  | notBound
  | notWaiting
  deriving DecidableEq, Repr

/-- A completed byte in the intake queue (R162). `followed` says that a command byte has completed on the
wire after it (R167; log entry 11). -/
structure IntakeByte where
  line : PortLine
  value : Byte
  followed : Bool
  deriving DecidableEq, Repr

/-- The store unit that the Command Port presents (R20), with its operands. -/
inductive PortUnit where
  | tileOpen (key : TileKey)
  | targetValue (depth : Nat)
  | cutValue (depth : Nat)
  | fill (depth : Nat)
  | tileSeal
  | fenceWrite (key : TileKey) (rows : List Nat)
  | tileEdit (key : TileKey) (cell depth : Nat)
  | tileRead (key : TileKey) (field : Nat)
  deriving DecidableEq, Repr

/-- The Command Port (R161 to R169). The parameter index is the length of `values`, and `half` is the
two-byte assembler (R166). -/
structure Port where
  bitCount : Nat
  intake : List IntakeByte
  overrun : Bool
  current : Current
  phase : Phase
  followed : Bool
  values : List Nat
  half : Option Byte
  unit : Option PortUnit
  reply : List Byte
  readIndex : Nat
  readable : Bool
  result : ResultCode
  sdo : Option Byte
  deriving DecidableEq, Repr

/-! ## Attention (spec 11) -/

/-- The Attention Unit's flags, masks and snapshot, in the bit order of R174. -/
structure Attention where
  flags : Byte
  enable : Byte
  level : Byte
  snapshot : Byte
  deriving DecidableEq, Repr

/-! ## The whole -/

/-- The state of the CM8. `pending` is the queue of the commands that wait, first in, first out; it is the
row's instrument and no part of the hardware (log entry 3). -/
structure State where
  copies : Bank CopyRecord
  bands : Bank (Bank BandRecord)
  dir : List Entry
  freeSlots : List Nat
  done : List TileKey
  store : Memory
  arb : Arbiter
  load : LoadUnit
  engine : CopyEngine
  hold : ViolationHold
  claims : Bank ClaimUnit
  heads : Bank HeadUnit
  monitors : Bank LoadMonitor
  timebase : Nat
  links : Bank Link
  port : Port
  attn : Attention
  pending : List Instr
  deriving DecidableEq, Repr

/-- What an address of the Tile Store that is not listed reads as (log entry 7). -/
def Cell.blank : Cell := { target := 0, cut := 0, fence := false, overcut := false }

/-- R4 -/
def CopyRecord.reset : CopyRecord :=
  { roughAllow := 0, fenceAllow := 0, finishTol := 0, overTol := 0, shared := false }

/-- R8 -/
def BandRecord.reset : BandRecord :=
  { start := 0, stepMax := 16, wearRate := 0, dwellMode := .none, dwell := 0 }

/-- R41 -/
def LoadUnit.reset : LoadUnit :=
  { openTile := none, firstRow := 0, lastRow := 7, firstCol := 0, lastCol := 7, ptrRow := 0, ptrCol := 0 }

/-- R117, R129 -/
def HeadUnit.reset : HeadUnit :=
  { state := .unbound, stepMode := false, boundCopy := none, toolClass := .rough, wear := 0, wearLimit := 0,
    worn := false, holdTimeout := 0, outstanding := none, buffer := none }

/-- R137 -/
def LoadMonitor.reset : LoadMonitor :=
  { running := false, state := .arming, opened := false, counter := 0, index := 0, lastP := 0, curN := 1,
    curP0 := 0, pendN := 1, pendP0 := 0, pendFlag := false }

/-- R148: in HUNT with no bytes held and the gap timer stopped. -/
def Receiver.reset : Receiver :=
  { state := .hunt, kind := 0, expected := 0, sum := 0, payload := [], gapRunning := false }

/-- R148, R155 -/
def Link.reset : Link := { rx := Receiver.reset, tx := [], line := [] }

/-- R173 -/
def Port.reset : Port :=
  { bitCount := 0, intake := [], overrun := false, current := .none, phase := .complete, followed := false,
    values := [], half := none, unit := none, reply := [], readIndex := 0, readable := false, result := .ok,
    sdo := none }

/-- R175, R176, R178 -/
def Attention.reset : Attention := { flags := 0x00, enable := 0xFF, level := 0x0A, snapshot := 0x00 }

/-- The block right after hardware reset (R173 and the reset rule of each block). -/
def State.reset : State :=
  { copies := Vector.replicate 8 CopyRecord.reset
    bands := Vector.replicate 8 (Vector.replicate 8 BandRecord.reset)
    dir := []
    freeSlots := List.range Config.slots
    done := []
    store := []
    arb := { last := .ce, granted := none }
    load := LoadUnit.reset
    engine := { job := none, next := 0, waiting := [] }
    hold := { record := none, count := 0 }
    claims := Vector.replicate 8 { slots := [], timer := none }
    heads := Vector.replicate 8 HeadUnit.reset
    monitors := Vector.replicate 8 LoadMonitor.reset
    timebase := 0
    links := Vector.replicate 8 Link.reset
    port := Port.reset
    attn := Attention.reset
    pending := [] }

end Sys2Proof.Machine
end

