-- ==== Sys2Proof/Machine/Flags.lean ====
section
/-! DEFINITION. The event flags of the Attention Unit: setting, acknowledging, the snapshot, and the two
attention outputs (spec 11). -/

namespace Sys2Proof.Machine

/-- The event flags (R174). -/
inductive EventFlag where
  | doneReady
  | violation
  | worn
  | stall
  | contested
  | copyDone
  | cmdRefused
  | linkFault
  deriving DecidableEq, Repr

/-- R174: the byte that holds the flag's bit alone. -/
def EventFlag.mask (f : EventFlag) : Byte :=
  match f with
  | .doneReady => 0x01
  | .violation => 0x02
  | .worn => 0x04
  | .stall => 0x08
  | .contested => 0x10
  | .copyDone => 0x20
  | .cmdRefused => 0x40
  | .linkFault => 0x80

/-- Whether a flag is pending (R175). -/
def Attention.isPending (a : Attention) (f : EventFlag) : Bool := a.flags &&& f.mask != 0

/-- R175, R178: a setting event makes a clear flag pending and takes its bit out of the snapshot; on a
pending flag it has no effect. -/
def Attention.raise (a : Attention) (f : EventFlag) : Attention :=
  if a.isPending f then a
  else { a with flags := a.flags ||| f.mask, snapshot := a.snapshot &&& ~~~f.mask }

/-- R179: every flag that is named in the mask, in the snapshot and pending is cleared. -/
def Attention.acknowledge (a : Attention) (mask : Byte) : Attention :=
  { a with flags := a.flags &&& ~~~(mask &&& a.snapshot) }

/-- R178: the snapshot becomes the pending flags. -/
def Attention.takeSnapshot (a : Attention) : Attention := { a with snapshot := a.flags }

/-- R180: CLEAR WORK clears DONE_READY, VIOLATION, CONTESTED and COPY_DONE and leaves the snapshot. -/
def Attention.clearWork (a : Attention) : Attention :=
  { a with
    flags := a.flags &&& ~~~(EventFlag.doneReady.mask ||| EventFlag.violation.mask |||
      EventFlag.contested.mask ||| EventFlag.copyDone.mask) }

/-- R177: ATTN_HI# is low while a flag is pending, enabled and of level 1. -/
def Attention.hiLow (a : Attention) : Bool := a.flags &&& a.enable &&& a.level != 0

/-- R177: ATTN_LO# is low while a flag is pending, enabled and of level 0. -/
def Attention.loLow (a : Attention) : Bool := a.flags &&& a.enable &&& ~~~a.level != 0

/-- A setting event of a flag, on the whole state (R175). -/
def State.raise (s : State) (f : EventFlag) : State := { s with attn := s.attn.raise f }

end Sys2Proof.Machine
end

