-- ==== Sys2Proof/Machine/Operands.lean ====
section
/-! DEFINITION. The operands of commands and requests: byte order, clamps, tile keys, cell indices, and the
codes that the replies use. -/

namespace Sys2Proof.Machine

/-! ## Bytes and two-byte values -/

/-- The low eight bits of a number, as a byte of a reply or frame. -/
def byteOf (n : Nat) : Byte := BitVec.ofNat 8 n

/-- A two-byte value, high byte first (spec 00, "Multi-byte values"). -/
def twoBytes (n : Nat) : List Byte := [byteOf (n / 256), byteOf n]

/-- A three-byte value, high byte first (R172, the wear accumulator). -/
def threeBytes (n : Nat) : List Byte := [byteOf (n / 65536), byteOf (n / 256), byteOf n]

/-- The value of two bytes received, high byte first. -/
def joinBytes (hi lo : Byte) : Nat := hi.toNat * 256 + lo.toNat

/-- Presence and flag bytes (R172). -/
def boolByte (b : Bool) : Byte := if b then 0x01 else 0x00

/-- Eight flags as a byte, the flag of index 0 in bit 0 (R51, R55). -/
def packBits (bits : List Bool) : Nat :=
  match bits with
  | [] => 0
  | b :: rest => (if b then 1 else 0) + 2 * packBits rest

/-- Bit `i` of a byte value (R51). -/
def bitOf (n i : Nat) : Bool := n / 2 ^ i % 2 == 1

/-! ## Clamps and choices -/

/-- R1: a depth offered for storage. -/
def clampDepth (d : Nat) : Nat := min d Config.maxDepth

/-- R13: 1 if 0, 1023 if above 1023. -/
def clampStep (d : Nat) : Nat := max 1 (min d Config.maxStep)

/-- R120, R144: N clamped to 1-64. -/
def clampWindow (n : Nat) : Nat := max 1 (min n Config.maxWindow)

/-- R120, R123: the wear limit. -/
def clampWearLimit (n : Nat) : Nat := min n Config.maxWearLimit

/-- R43: a window edge. -/
def clampEdge (n : Nat) : Nat := min n 7

/-- R120, R123: ROUGH for a class byte of 0, FINISH for any other value. -/
def toolClassOf (n : Nat) : ToolClass := if n = 0 then .rough else .finish

/-- R13: NONE for 0, FIXED for 1, LOAD for 2, NONE for any code above 2. -/
def dwellModeOf (n : Nat) : DwellMode := if n = 1 then .fixed else if n = 2 then .load else .none

/-- A head number of a host command, if it is one (R119). -/
def headOf (n : Nat) : Option HeadNo := if h : n < 8 then some ⟨n, h⟩ else none

/-- A copy number of a host command, if it is one (R3, R5). -/
def copyOf (n : Nat) : Option CopyNo := if h : n < 8 then some ⟨n, h⟩ else none

/-! ## Keys and cells -/

/-- R3: the key that a host command carries, unless its copy exceeds 7 or its row or column 511. -/
def keyOf (copy row col : Nat) : Option TileKey :=
  if h : copy < 8 ∧ row < 512 ∧ col < 512 then
    some { copy := ⟨copy, h.1⟩, row := ⟨row, h.2.1⟩, col := ⟨col, h.2.2⟩ }
  else none

/-- R2: the tile key of a cell that a head names, on the copy the head is bound to. -/
def cellKey (copy : CopyNo) (row col : Nat) : TileKey :=
  { copy := copy, row := Fin.ofNat 512 (row / 8), col := Fin.ofNat 512 (col / 8) }

/-- R2: the cell index within the tile. -/
def cellIndex (row col : Nat) : Nat := row % 8 * 8 + col % 8

/-- R2: a cell row or column of 4096 or more has no tile key. -/
def outOfRange (r : Request) : Bool :=
  decide (Config.lastCellLine < r.row) || decide (Config.lastCellLine < r.col)

/-- R9, R66: the cell row of cell `c` of a tile. -/
def cellRow (k : TileKey) (c : Nat) : Nat := 8 * k.row.val + c / 8

/-- The five bytes of a key in a reply (R172). -/
def keyBytes (k : TileKey) : List Byte :=
  byteOf k.copy.val :: (twoBytes k.row.val ++ twoBytes k.col.val)

/-! ## Codes of the replies (R169, R172) -/

/-- R169 -/
def ResultCode.code (r : ResultCode) : Byte :=
  match r with
  | .ok => 0
  | .busy => 1
  | .notFound => 2
  | .duplicateKey => 3
  | .full => 4
  | .claimed => 5
  | .belowCut => 6
  | .badArgument => 7
  | .truncated => 8
  | .unknownCommand => 9
  | .notOpen => 10
  | .copyTaken => 11
  | .notDone => 12
  | .notBound => 13
  | .notWaiting => 14

/-- R172 -/
def TileState.code (t : TileState) : Byte :=
  match t with
  | .filling => 1
  | .live => 2
  | .done => 3
  | .copying => 4

/-- R171, R172 -/
def HeadState.code (t : HeadState) : Nat :=
  match t with
  | .unbound => 0
  | .active => 1
  | .halted => 2

/-- R172 -/
def ToolClass.code (t : ToolClass) : Byte :=
  match t with
  | .rough => 0
  | .finish => 1

/-- R172 -/
def MeasureState.code (t : MeasureState) : Byte :=
  match t with
  | .arming => 0
  | .none => 1
  | .valid => 2
  | .stalled => 3

/-- R172 -/
def RequestKind.code (t : RequestKind) : Byte :=
  match t with
  | .probe => 1
  | .report => 2
  | .release => 3

/-- R172 -/
def WaitKind.code (t : WaitKind) : Byte :=
  match t with
  | .inService => 0
  | .step => 1
  | .claim => 2
  | .copy => 3

/-- R172 -/
def DwellMode.code (t : DwellMode) : Byte :=
  match t with
  | .none => 0
  | .fixed => 1
  | .load => 2

/-- R172 -/
def ViolationKind.code (t : ViolationKind) : Byte :=
  match t with
  | .surface => 1
  | .allowance => 2

/-- A head, owner or bound copy number, 0xFF where absent (R172). -/
def numberOrNone (n : Option (Fin 8)) : Byte :=
  match n with
  | none => 0xFF
  | some i => byteOf i.val

/-- R154 -/
def Status.code (t : Status) : Byte :=
  match t with
  | .cut => 0
  | .atLimit => 1
  | .done => 2
  | .recorded => 3
  | .kept => 4
  | .overcut => 5
  | .released => 6
  | .notHeld => 7
  | .notLoaded => 8
  | .notReady => 9
  | .worn => 10
  | .stall => 11
  | .halted => 12
  | .unbound => 13
  | .contested => 14
  | .cancelled => 15
  | .outOfRange => 16
  | .overrun => 17
  | .badFrame => 18

end Sys2Proof.Machine
end

