-- ==== Sys2Proof/Machine/Ops.lean ====
section
/-! DEFINITION. The named operations over the state that the meanings share: the Tile Store, the directory,
the per-head banks, the store arbiter, the answers of a head unit, and the results of a host command. -/

namespace Sys2Proof.Machine

/-! ## The Tile Store (R17) -/

/-- The address of cell `c` of a slot. -/
def cellAddr (slot c : Nat) : Nat := slot * Config.cellsPerTile + c

/-- The cell at an address; an unlisted address holds a blank cell (log entry 7). -/
def Memory.read (m : Memory) (a : Nat) : Cell :=
  match m with
  | [] => Cell.blank
  | (b, c) :: rest => if b = a then c else Memory.read rest a

/-- The list without any entry at the address. -/
def Memory.erase (m : Memory) (a : Nat) : Memory :=
  match m with
  | [] => []
  | (b, c) :: rest => if b = a then Memory.erase rest a else (b, c) :: Memory.erase rest a

/-- The list with an entry put before the first greater address. -/
def Memory.insert (m : Memory) (a : Nat) (c : Cell) : Memory :=
  match m with
  | [] => [(a, c)]
  | (b, d) :: rest => if a < b then (a, c) :: (b, d) :: rest else (b, d) :: Memory.insert rest a c

/-- Writes the cell at an address, keeping the canonical form: a blank cell is not listed. -/
def Memory.write (m : Memory) (a : Nat) (c : Cell) : Memory :=
  if c = Cell.blank then Memory.erase m a else Memory.insert (Memory.erase m a) a c

/-- Every listed address lies above `low`, addresses rise strictly, and no listed cell is blank. -/
def Memory.risesFrom (low : Option Nat) (m : Memory) : Bool :=
  match m with
  | [] => true
  | (a, c) :: rest =>
    (match low with | none => true | some b => decide (b < a)) && decide (c ≠ Cell.blank) &&
      Memory.risesFrom (some a) rest

/-- The canonical form of the Tile Store. -/
def Memory.wf (m : Memory) : Bool := Memory.risesFrom none m

/-- The cell indices of a tile in order (R2). -/
def cellIndices : List Nat := List.range Config.cellsPerTile

/-- Writes `f i old` to every cell `i` of the list, in the given slot. -/
def Memory.updateCells (m : Memory) (slot : Nat) (cells : List Nat) (f : Nat → Cell → Cell) : Memory :=
  cells.foldl (fun acc i => acc.write (cellAddr slot i) (f i (acc.read (cellAddr slot i)))) m

/-- How many of a slot's 64 cells satisfy a test. -/
def Memory.countCells (m : Memory) (slot : Nat) (p : Cell → Bool) : Nat :=
  (cellIndices.filter (fun i => p (m.read (cellAddr slot i)))).length

/-! ## The banks of eight -/

/-- Replaces one of eight. -/
def Bank.put {α : Type} (b : Bank α) (i : Fin 8) (x : α) : Bank α := b.set i.val x i.isLt

/-- One of eight. -/
def Bank.at {α : Type} (b : Bank α) (i : Fin 8) : α := b[i.val]

/-- The head numbers, ascending. -/
def allHeads : List HeadNo := [0, 1, 2, 3, 4, 5, 6, 7]

/-- The head unit of a head. -/
def State.head (s : State) (h : HeadNo) : HeadUnit := Bank.at s.heads h

/-- Changes the head unit of a head. -/
def State.onHead (s : State) (h : HeadNo) (f : HeadUnit → HeadUnit) : State :=
  { s with heads := Bank.put s.heads h (f (s.head h)) }

/-- The claim slots and hold timer of a head. -/
def State.claim (s : State) (h : HeadNo) : ClaimUnit := Bank.at s.claims h

/-- Changes the claim slots or hold timer of a head. -/
def State.onClaim (s : State) (h : HeadNo) (f : ClaimUnit → ClaimUnit) : State :=
  { s with claims := Bank.put s.claims h (f (s.claim h)) }

/-- The load monitor of a head. -/
def State.monitor (s : State) (h : HeadNo) : LoadMonitor := Bank.at s.monitors h

/-- Changes the load monitor of a head. -/
def State.onMonitor (s : State) (h : HeadNo) (f : LoadMonitor → LoadMonitor) : State :=
  { s with monitors := Bank.put s.monitors h (f (s.monitor h)) }

/-- The link of a head. -/
def State.link (s : State) (h : HeadNo) : Link := Bank.at s.links h

/-- Changes the link of a head. -/
def State.onLink (s : State) (h : HeadNo) (f : Link → Link) : State :=
  { s with links := Bank.put s.links h (f (s.link h)) }

/-- The copy record of a copy (R4). -/
def State.copy (s : State) (y : CopyNo) : CopyRecord := Bank.at s.copies y

/-- Changes the copy record of a copy. -/
def State.onCopy (s : State) (y : CopyNo) (f : CopyRecord → CopyRecord) : State :=
  { s with copies := Bank.put s.copies y (f (s.copy y)) }

/-- The record of a band of a copy (R8). -/
def State.band (s : State) (y : CopyNo) (b : Fin 8) : BandRecord := Bank.at (Bank.at s.bands y) b

/-- Changes the record of a band of a copy. -/
def State.onBand (s : State) (y : CopyNo) (b : Fin 8) (f : BandRecord → BandRecord) : State :=
  { s with bands := Bank.put s.bands y (Bank.put (Bank.at s.bands y) b (f (s.band y b))) }

/-- Changes the Command Port. -/
def State.onPort (s : State) (f : Port → Port) : State := { s with port := f s.port }

/-- Changes the Load Unit. -/
def State.onLoad (s : State) (f : LoadUnit → LoadUnit) : State := { s with load := f s.load }

/-- Changes the Copy Engine. -/
def State.onEngine (s : State) (f : CopyEngine → CopyEngine) : State := { s with engine := f s.engine }

/-! ## Directory entries (R22 to R24) -/

/-- The entry with a key, if one is resident (R23). -/
def State.entry (s : State) (k : TileKey) : Option Entry := s.dir.find? (fun e => decide (e.key = k))

/-- Changes the entry with a key. -/
def State.onEntry (s : State) (k : TileKey) (f : Entry → Entry) : State :=
  { s with dir := s.dir.map (fun e => if e.key = k then f e else e) }

/-- Whether the copy has an entry in any state (R5). -/
def State.hasTiles (s : State) (y : CopyNo) : Bool := s.dir.any (fun e => decide (e.key.copy = y))

/-- The entry that TILE OPEN or the acceptance of TILE DUPLICATE creates (R22). -/
def Entry.fresh (k : TileKey) (slot : Nat) (state : TileState) : Entry :=
  { key := k, slot := slot, state := state, ret := none, owner := none, waiters := [], remaining := 0,
    overcut := 0 }

/-- R24: creates an entry with a slot from the pool; without a free slot nothing happens. -/
def State.createEntry (s : State) (k : TileKey) (state : TileState) : State :=
  match s.freeSlots with
  | [] => s
  | slot :: rest => { s with dir := s.dir ++ [Entry.fresh k slot state], freeSlots := rest }

/-- R26: a request on its way to the store remembers that its entry has been removed. -/
def HeadUnit.orphan (hu : HeadUnit) (gone : TileKey → Bool) : HeadUnit :=
  match hu.outstanding with
  | none => hu
  | some o =>
    match o.key with
    | none => hu
    | some k => if gone k then { hu with outstanding := some { o with orphaned := true } } else hu

/-- R24, R26: removes the entry with a key, returns its slot to the pool, and marks the requests on it. -/
def State.removeEntry (s : State) (k : TileKey) : State :=
  match s.entry k with
  | none => s
  | some e =>
    { s with
      dir := s.dir.eraseP (fun x => decide (x.key = k))
      freeSlots := e.slot :: s.freeSlots
      heads := s.heads.map (fun hu => hu.orphan (fun x => decide (x = k))) }

/-- The cell of an entry's slot. -/
def State.cell (s : State) (e : Entry) (c : Nat) : Cell := s.store.read (cellAddr e.slot c)

/-- Changes one cell of an entry's slot. -/
def State.onCell (s : State) (e : Entry) (c : Nat) (f : Cell → Cell) : State :=
  { s with store := s.store.write (cellAddr e.slot c) (f (s.cell e c)) }

/-- Changes the listed cells of an entry's slot; `f` has the cell index. -/
def State.onCells (s : State) (e : Entry) (cells : List Nat) (f : Nat → Cell → Cell) : State :=
  { s with store := s.store.updateCells e.slot cells f }

/-- A cell is finished where its target minus its cut is at most T_f (R29, R69). -/
def Cell.finished (c : Cell) (finishTol : Nat) : Bool := decide (c.target ≤ c.cut + finishTol)

/-- A cell is overcut where its cut exceeds its target plus T_o (R28, R89). -/
def Cell.isOvercut (c : Cell) (overTol : Nat) : Bool := decide (c.target + overTol < c.cut)

/-! ## The store arbiter (R19) -/

/-- The place of a requester in the ring HU0 to HU7, CP, CE. -/
def Requester.ringIndex (r : Requester) : Nat :=
  match r with
  | .hu h => h.val
  | .cp => 8
  | .ce => 9

/-- The requester at a place of the ring. -/
def requesterAt (i : Nat) : Requester :=
  if i < 8 then .hu (Fin.ofNat 8 i) else if i = 8 then .cp else .ce

/-- The ring from the requester after `r` round to `r` itself. -/
def Requester.ringAfter (r : Requester) : List Requester :=
  (List.range 10).map (fun i => requesterAt ((r.ringIndex + 1 + i) % 10))

/-- Whether a head's outstanding request is in service, which in the model is between its claim step and its
unit: it presents an access. -/
def HeadUnit.inService (hu : HeadUnit) : Bool :=
  match hu.outstanding with
  | none => false
  | some o => decide (o.wait = .inService)

/-- Whether a requester presents an access to the arbiter (R19). -/
def State.presents (s : State) (r : Requester) : Bool :=
  match r with
  | .hu h => (s.head h).inService
  | .cp => s.port.unit.isSome
  | .ce => s.engine.job.isSome

/-- R19: the first waiting requester after `last` in ring order. -/
def State.nextGrant (s : State) (last : Requester) : Option Requester :=
  last.ringAfter.find? (fun r => s.presents r)

/-- R19: a requester presents an access; on a free store it is granted at once. -/
def State.present (s : State) (r : Requester) : State :=
  match s.arb.granted with
  | none => { s with arb := { s.arb with granted := some r } }
  | some _ => s

/-- R19: an access is withdrawn before its unit; the rotation is unaffected. Call it when the requester no
longer presents. -/
def State.withdraw (s : State) (r : Requester) : State :=
  if s.arb.granted = some r then { s with arb := { s.arb with granted := s.nextGrant s.arb.last } } else s

/-- R19, R20: the unit of `r` ends, and the grant goes to the next that waits. -/
def State.endUnit (s : State) (r : Requester) : State :=
  { s with arb := { last := r, granted := s.nextGrant r } }

/-! ## Answers and the outstanding slot (R129, R155) -/

/-- R155: a BAD_FRAME answer already waits in the queue behind the answer in transmission. -/
def badFrameWaits (tx : List Answer) : Bool := tx.tail.any (fun a => decide (a.status = .badFrame))

/-- R155: places an answer in the head's transmit queue. -/
def State.queueAnswer (s : State) (h : HeadNo) (a : Answer) : State :=
  s.onLink h (fun l => { l with tx := l.tx ++ [a] })

/-- R155: places a BAD_FRAME answer, tag 0, unless one already waits. -/
def State.queueBadFrame (s : State) (h : HeadNo) : State :=
  if badFrameWaits (s.link h).tx then s
  else s.queueAnswer h { tag := 0, status := .badFrame, value := 0, dwell := 0 }

/-- Changes the head's outstanding request. -/
def State.setOutstanding (s : State) (h : HeadNo) (o : Option Outstanding) : State :=
  s.onHead h (fun hu => { hu with outstanding := o })

/-- Sets the wait kind of the head's outstanding request. -/
def State.setWait (s : State) (h : HeadNo) (w : WaitKind) : State :=
  s.onHead h (fun hu => { hu with outstanding := hu.outstanding.map (fun o => { o with wait := w }) })

/-- R129, R133: ends the head's outstanding request with an answer that carries its tag, and frees the slot;
a request carried on after LINK RESET ends without one (R158). -/
def State.endRequest (s : State) (h : HeadNo) (status : Status) (value dwell : Nat) : State :=
  match (s.head h).outstanding with
  | none => s
  | some o =>
    let s' := s.setOutstanding h none
    if o.silent then s'
    else s'.queueAnswer h { tag := o.req.tag, status := status, value := value, dwell := dwell }

/-- The outcome of a head's request to the Command Port's unit and to a head's unit alike: the access is
presented (R19). -/
def State.proceed (s : State) (h : HeadNo) : State := (s.setWait h .inService).present (.hu h)

/-! ## Results of a host command (R169) -/

/-- Writes RESULT. -/
def State.setResult (s : State) (r : ResultCode) : State := s.onPort (fun p => { p with result := r })

/-- R169: RESULT becomes OK. -/
def State.accept (s : State) : State := s.setResult .ok

/-- R169, R175: a refusal writes its code to RESULT and sets CMD_REFUSED. -/
def State.refuse (s : State) (r : ResultCode) : State := (s.setResult r).raise .cmdRefused

/-- R165: a setting command refused under its own rule; its further bytes are discarded. -/
def State.refuseSetting (s : State) (r : ResultCode) : State :=
  (s.refuse r).onPort (fun p => { p with phase := .refused })

/-- R167: writes a reply into the latch; it is readable if no command byte has completed on the wire since
the read's own. -/
def State.latch (s : State) (reply : List Byte) : State :=
  s.onPort (fun p => { p with reply := reply, readIndex := 0, readable := !p.followed })

/-- R167: a read that is answered. -/
def State.answerRead (s : State) (reply : List Byte) : State := (s.latch reply).accept

/-- R167: a read refused under its own rule empties the latch. -/
def State.refuseRead (s : State) (r : ResultCode) : State := (s.latch []).refuse r

/-- R21, R162: the Command Port presents a store unit; the decoder is not free until it ends. -/
def State.requestUnit (s : State) (u : PortUnit) : State :=
  (s.onPort (fun p => { p with unit := some u })).present .cp

/-- R21: the Command Port's unit ends. -/
def State.endPortUnit (s : State) : State := (s.onPort (fun p => { p with unit := none })).endUnit .cp

end Sys2Proof.Machine
end

