-- ==== Sys2Proof/Machine/Claims.lean ====
section
/-! DEFINITION. The Claim Unit: taking, releasing and handing on claims, the wait-cycle check, claim waits,
and what follows when a tile enters DONE (spec 06, and R31 of spec 02). -/

namespace Sys2Proof.Machine

/-- The claim owner of a tile, if it is resident and claimed (R99). -/
def State.ownerOf (s : State) (k : TileKey) : Option HeadNo := (s.entry k).bind (fun e => e.owner)

/-- The wait list of a tile (R99). -/
def State.waitersOf (s : State) (k : TileKey) : List HeadNo := ((s.entry k).map (fun e => e.waiters)).getD []

/-- The hold timer of a head stops; a stopped timer holds no count (R112). -/
def State.stopTimer (s : State) (h : HeadNo) : State := s.onClaim h (fun c => { c with timer := none })

/-- R105: the tile's claim owner becomes none and its key leaves the claim slots of head `g`. -/
def State.dropClaim (s : State) (g : HeadNo) (k : TileKey) : State :=
  (s.onEntry k (fun e => { e with owner := none })).onClaim g
    (fun c => { c with slots := c.slots.filter (fun x => decide (x ≠ k)) })

/-- R102, R106: the key becomes the head's youngest claim, and the head the tile's owner. -/
def State.giveClaim (s : State) (h : HeadNo) (k : TileKey) : State :=
  (s.onEntry k (fun e => { e with owner := some h })).onClaim h (fun c => { c with slots := c.slots ++ [k] })

/-- The oldest claim of a head that already holds two (R102, R106). -/
def State.surplusClaim (s : State) (h : HeadNo) : Option TileKey :=
  match (s.claim h).slots with
  | oldest :: _ :: _ => some oldest
  | _ => none

/-- R105, R106: releases head `g`'s claim on a tile and hands it to the first waiter, whose own oldest claim
is released first if it holds two, and so on. `fuel` bounds the handoffs; R106 says that eight suffice. -/
def State.releaseFrom (fuel : Nat) (s : State) (g : HeadNo) (k : TileKey) : State :=
  match fuel with
  | 0 => s.dropClaim g k
  | n + 1 =>
    let s1 := s.dropClaim g k
    match s1.waitersOf k with
    | [] => s1
    | w :: rest =>
      let s2 := (s1.onEntry k (fun e => { e with waiters := rest })).stopTimer w
      let s3 :=
        match s2.surplusClaim w with
        | some oldest => State.releaseFrom n s2 w oldest
        | none => s2
      (s3.giveClaim w k).proceed w

/-- R105: releases head `g`'s claim on a tile, with every handoff it causes. -/
def State.release (s : State) (g : HeadNo) (k : TileKey) : State := State.releaseFrom 8 s g k

/-- R110, R111: releases the claims of a head that are on the list, in its order. -/
def State.releaseAll (s : State) (g : HeadNo) (keys : List TileKey) : State :=
  keys.foldl (fun acc k => acc.release g k) s

/-- R102: the head takes the claim on an unclaimed tile; a head that holds two releases its oldest first. -/
def State.takeClaim (s : State) (h : HeadNo) (k : TileKey) : State :=
  let s1 :=
    match s.surplusClaim h with
    | some oldest => s.release h oldest
    | none => s
  s1.giveClaim h k

/-- R103: follows the chain of claim waits from head `g` for at most `steps` heads; whether it leads to
`h`. -/
def State.chainReaches (steps : Nat) (s : State) (g h : HeadNo) : Bool :=
  match steps with
  | 0 => false
  | n + 1 =>
    match (s.head g).outstanding with
    | none => false
    | some o =>
      if o.wait = .claim then
        match o.key.bind (fun k => s.ownerOf k) with
        | none => false
        | some next => if next = h then true else State.chainReaches n s next h
      else false

/-- R103: parking head `h` behind head `g` would close a cycle of claim waits. -/
def State.waitCycle (s : State) (h g : HeadNo) : Bool := State.chainReaches 8 s g h

/-- R104: the head joins the end of the tile's wait list, and its hold timer starts from 0 if it has a hold
timeout. -/
def State.parkClaim (s : State) (h : HeadNo) (k : TileKey) : State :=
  let s1 := (s.onEntry k (fun e => { e with waiters := e.waiters ++ [h] })).setWait h .claim
  if 0 < (s.head h).holdTimeout then s1.onClaim h (fun c => { c with timer := some 0 }) else s1

/-- R101: the claim step of head `h`'s outstanding request on tile `k`. A request carried on after LINK RESET
is never parked (R111, R158). -/
def State.claimStep (s : State) (h : HeadNo) (k : TileKey) : State :=
  if (s.head h).state = .unbound then s.endRequest h .unbound 0 0
  else
    match s.ownerOf k with
    | none => (s.takeClaim h k).proceed h
    | some g =>
      if g = h then s.proceed h
      else if ((s.head h).outstanding.map (fun o => o.silent)).getD false then s.endRequest h .contested 0 0
      else if s.waitCycle h g then (s.raise .contested).endRequest h .contested 0 0
      else s.parkClaim h k

/-- R107: the waiters of a tile that has entered DONE leave claim wait in list order and proceed without a
claim. -/
def State.serveWaiters (s : State) (waiters : List HeadNo) : State :=
  waiters.foldl (fun acc w => (acc.stopTimer w).proceed w) s

/-- R31: what follows when the entry with the key has entered DONE: its key joins the Done Queue, DONE_READY
is set, and its claim and its waiters are let go (R107). -/
def State.enterDone (s : State) (k : TileKey) : State :=
  let s1 := { s with done := s.done ++ [k] }.raise .doneReady
  let s2 :=
    match s1.ownerOf k with
    | some g => s1.dropClaim g k
    | none => s1
  (s2.onEntry k (fun e => { e with waiters := [] })).serveWaiters (s2.waitersOf k)

/-- R32: the key leaves the Done Queue wherever it stands. -/
def State.leaveDoneQueue (s : State) (k : TileKey) : State :=
  { s with done := s.done.filter (fun x => decide (x ≠ k)) }

end Sys2Proof.Machine
end

