-- ==== Sys2Proof/Machine/Requests.lean ====
section
/-! DEFINITION. A head's request on its way: intake, the head unit's checks, the directory step, the waits
and their ends (R25, R60, R61, R114, R129 to R132). -/

namespace Sys2Proof.Machine

/-- R60: the request joins the end of the copy-wait list. -/
def State.parkCopy (s : State) (h : HeadNo) : State :=
  (s.onEngine (fun e => { e with waiting := e.waiting ++ [h] })).setWait h .copy

/-- R61, R114: the head's outstanding request leaves the list on which it is parked, the others keeping their
order, and its hold timer stops. -/
def State.leaveWait (s : State) (h : HeadNo) : State :=
  match (s.head h).outstanding with
  | none => s
  | some o =>
    match o.wait with
    | .inService => s
    | .step => s
    | .copy => s.onEngine (fun e => { e with waiting := e.waiting.filter (fun x => decide (x ≠ h)) })
    | .claim =>
      match o.key with
      | none => s.stopTimer h
      | some k =>
        (s.onEntry k (fun e => { e with waiters := e.waiters.filter (fun x => decide (x ≠ h)) })).stopTimer h

/-- Whether the head's outstanding request is parked (R129). -/
def HeadUnit.parked (hu : HeadUnit) : Bool :=
  match hu.outstanding with
  | none => false
  | some o => decide (o.wait ≠ .inService)

/-- Ends a parked request with an answer (R61, R114, R121, R125, R128); on any other head nothing happens. -/
def State.endParked (s : State) (h : HeadNo) (status : Status) : State :=
  if (s.head h).parked then (s.leaveWait h).endRequest h status 0 0 else s

/-- R25: the outstanding request presents its key to the directory. -/
def State.directoryStep (s : State) (h : HeadNo) : State :=
  match (s.head h).outstanding, (s.head h).boundCopy with
  | none, _ => s
  | some _, none => s.endRequest h .unbound 0 0
  | some o, some y =>
    let k := cellKey y o.req.row o.req.col
    let s1 := s.setOutstanding h (some { o with wait := .inService, key := some k, orphaned := false })
    match s1.entry k with
    | none => s1.endRequest h .notLoaded 0 0
    | some e =>
      match e.state with
      | .filling => s1.endRequest h .notReady 0 0
      | .copying => s1.parkCopy h
      | .live => if (s1.copy y).shared then s1.claimStep h k else s1.proceed h
      | .done => s1.proceed h

/-- R131: the checks of a PROBE that becomes outstanding. -/
def State.checkProbe (s : State) (h : HeadNo) (r : Request) : State :=
  if (s.head h).state = .unbound then s.endRequest h .unbound 0 0
  else if outOfRange r then s.endRequest h .outOfRange 0 0
  else if (s.head h).state = .halted then s.endRequest h .halted 0 0
  else if (s.head h).worn then s.endRequest h .worn 0 0
  else if (s.monitor h).state = .stalled then s.endRequest h .stall 0 0
  else if (s.head h).stepMode then s.setWait h .step
  else s.directoryStep h

/-- R132: the checks of a REPORT that becomes outstanding. -/
def State.checkReport (s : State) (h : HeadNo) (r : Request) : State :=
  if (s.head h).state = .unbound then s.endRequest h .unbound 0 0
  else if outOfRange r then s.endRequest h .outOfRange 0 0
  else if (s.head h).stepMode && decide ((s.head h).state = .active) then s.setWait h .step
  else s.directoryStep h

/-- R108: the Claim Unit serves a RELEASE that has passed its checks. -/
def State.serveRelease (s : State) (h : HeadNo) (r : Request) : State :=
  match (s.head h).boundCopy with
  | none => s.endRequest h .notHeld 0 0
  | some y =>
    let k := cellKey y r.row r.col
    if (s.claim h).slots.contains k then (s.release h k).endRequest h .released 0 0
    else s.endRequest h .notHeld 0 0

/-- R132: the checks of a RELEASE that becomes outstanding. -/
def State.checkRelease (s : State) (h : HeadNo) (r : Request) : State :=
  if (s.head h).state = .unbound then s.endRequest h .unbound 0 0
  else if outOfRange r then s.endRequest h .outOfRange 0 0
  else s.serveRelease h r

/-- R129: a request becomes outstanding, in service, and is checked from the first check of its kind. -/
def State.becomeOutstanding (s : State) (h : HeadNo) (r : Request) : State :=
  let s1 := s.setOutstanding h
    (some { req := r, wait := .inService, key := none, orphaned := false, silent := false })
  match r.kind with
  | .probe => s1.checkProbe h r
  | .report => s1.checkReport h r
  | .release => s1.checkRelease h r

/-- R129, R130: after the outstanding request of a head has ended or been parked, a buffered request becomes
outstanding; a parked one is superseded by it. -/
def State.settle (s : State) (h : HeadNo) : State :=
  match (s.head h).buffer with
  | none => s
  | some r =>
    if (s.head h).inService then s
    else ((s.endParked h .cancelled).onHead h (fun hu => { hu with buffer := none })).becomeOutstanding h r

/-- R129: a request arrives from the link. -/
def State.requestArrives (s : State) (h : HeadNo) (r : Request) : State :=
  if (s.head h).inService then
    match (s.head h).buffer with
    | none => s.onHead h (fun hu => { hu with buffer := some r })
    | some _ =>
      (s.queueAnswer h { tag := r.tag, status := .overrun, value := 0, dwell := 0 }).raise .linkFault
  else (s.endParked h .cancelled).becomeOutstanding h r

/-- R127, R128: a request that stands in step wait leaves it and continues at the directory step. -/
def State.leaveStepWait (s : State) (h : HeadNo) : State := (s.directoryStep h).settle h

/-- Whether a request of the head stands in step wait (R128). -/
def HeadUnit.inStepWait (hu : HeadUnit) : Bool :=
  match hu.outstanding with
  | none => false
  | some o => decide (o.wait = .step)

end Sys2Proof.Machine
end

