-- ==== Sys2Proof/Machine/Copying.lean ====
section
/-! DEFINITION. The Copy Engine: TILE DUPLICATE, the transfers, and the completion of a duplication
(spec 03, sections 3.7 to 3.9). -/

namespace Sys2Proof.Machine

/-- R58: the acceptance of TILE DUPLICATE, taken together. -/
def State.acceptDuplicate (s : State) (src dst : TileKey) : State :=
  let s1 := s.onEntry src (fun e => { e with state := .copying, ret := some e.state })
  let s2 := s1.createEntry dst .copying
  ((s2.onEngine (fun g => { g with job := some { source := src, dest := dst }, next := 0 })).present .ce).accept

/-- R57: TILE DUPLICATE at its sixth byte. -/
def State.tileDuplicate (s : State) (copy row col destCopy : Nat) : State :=
  match keyOf copy row col, copyOf destCopy with
  | some src, some y =>
    match s.entry src with
    | none => s.refuse .notFound
    | some e =>
      if e.state = .filling ∨ e.state = .copying then s.refuse .busy
      else if s.engine.job.isSome then s.refuse .busy
      else if (s.entry { src with copy := y }).isSome then s.refuse .duplicateKey
      else if s.freeSlots.isEmpty then s.refuse .full
      else s.acceptDuplicate src { src with copy := y }
  | _, _ => s.refuse .badArgument

/-- R59: what a transfer writes into the destination's cell. -/
def Cell.duplicate (c : Cell) : Cell := { target := c.target, cut := 0, fence := c.fence, overcut := false }

/-- R63, item 1: the source returns to its return state. -/
def Entry.returnFromCopy (e : Entry) : Entry := { e with state := e.ret.getD e.state, ret := none }

/-- R63, item 6: a request of the copy-wait list continues at the directory step. -/
def State.resumeCopyWait (s : State) (h : HeadNo) : State := (s.directoryStep h).settle h

/-- R63, items 2 and 3: the destination's counts and state, with the effects of entering DONE. -/
def State.completeDest (s : State) (dst : TileKey) : State :=
  match s.entry dst with
  | none => s
  | some e =>
    let remaining := s.store.countCells e.slot
      (fun c => decide ((s.copy dst.copy).finishTol < c.target))
    let state := if remaining = 0 then TileState.done else TileState.live
    let s1 := s.onEntry dst (fun x => { x with state := state, remaining := remaining, overcut := 0 })
    if remaining = 0 then s1.enterDone dst else s1

/-- R63: the completion of a duplication. -/
def State.completeCopy (s : State) (job : CopyJob) : State :=
  let s1 := (s.onEntry job.source Entry.returnFromCopy).completeDest job.dest
  let waiting := s1.engine.waiting
  let s2 := (s1.raise .copyDone).onEngine (fun _ => { job := none, next := 0, waiting := [] })
  waiting.foldl State.resumeCopyWait s2

/-- R59: the transfer of the next cell. -/
def State.transferCell (s : State) (job : CopyJob) : State :=
  match s.entry job.source, s.entry job.dest with
  | some src, some dst => s.onCell dst s.engine.next (fun _ => (s.cell src s.engine.next).duplicate)
  | _, _ => s

/-- R59, R63: one grant of the Copy Engine, up to the next grant; the 64th also completes. -/
def State.copyUnit (s : State) (job : CopyJob) : State :=
  let s1 := s.transferCell job
  let s2 :=
    if s.engine.next + 1 < Config.cellsPerTile then s1.onEngine (fun g => { g with next := g.next + 1 })
    else s1.completeCopy job
  s2.endUnit .ce

end Sys2Proof.Machine
end

