-- ==== Sys2Proof/Machine/Directory.lean ====
section
/-! DEFINITION. The Tile Directory's commands: TILE OPEN, TILE SEAL, TILE RETIRE, TILE QUERY, NEXT DONE and
CLEAR WORK, with the store units of the first two (spec 02). -/

namespace Sys2Proof.Machine

/-- R27: TILE OPEN at the step that takes its last byte. -/
def State.tileOpen (s : State) (copy row col : Nat) : State :=
  match keyOf copy row col with
  | none => s.refuse .badArgument
  | some k =>
    if s.load.openTile.isSome then s.refuse .busy
    else if (s.entry k).isSome then s.refuse .duplicateKey
    else if s.freeSlots.isEmpty then s.refuse .full
    else
      ((s.createEntry k .filling).onLoad (fun _ => { LoadUnit.reset with openTile := some k })).requestUnit
        (.tileOpen k)

/-- R17, R27: the store unit of TILE OPEN blanks the 64 cells of the new slot. -/
def State.tileOpenUnit (s : State) (k : TileKey) : State :=
  match s.entry k with
  | none => s
  | some e => (s.onCells e cellIndices (fun _ _ => Cell.blank)).accept

/-- R28: TILE SEAL at its command byte. -/
def State.tileSeal (s : State) : State :=
  if s.load.openTile.isNone then s.refuse .notOpen else s.requestUnit .tileSeal

/-- R42: the Load Unit has no open tile any more; its window and pointer stay. -/
def State.closeTile (s : State) : State := s.onLoad (fun l => { l with openTile := none })

/-- R28: a cell as the seal leaves it. -/
def Cell.sealed (c : Cell) (overTol : Nat) : Cell := { c with overcut := c.isOvercut overTol }

/-- R28: the store unit of TILE SEAL. -/
def State.tileSealUnit (s : State) : State :=
  match s.load.openTile with
  | none => s
  | some k =>
    match s.entry k with
    | none => s
    | some e =>
      let cr := s.copy k.copy
      let s1 := s.onCells e cellIndices (fun _ c => c.sealed cr.overTol)
      let remaining := s1.store.countCells e.slot (fun c => !c.finished cr.finishTol)
      let overcut := s1.store.countCells e.slot (fun c => c.overcut)
      let state := if remaining = 0 then TileState.done else TileState.live
      let s2 := (s1.onEntry k
        (fun x => { x with state := state, remaining := remaining, overcut := overcut })).closeTile
      (if remaining = 0 then s2.enterDone k else s2).accept

/-- R36: TILE RETIRE at its abandon byte. -/
def State.tileRetire (s : State) (copy row col abandon : Nat) : State :=
  match keyOf copy row col with
  | none => s.refuse .badArgument
  | some k =>
    match s.entry k with
    | none => s.refuse .notFound
    | some e =>
      match e.state with
      | .copying => s.refuse .busy
      | .filling => (s.removeEntry k).closeTile.accept
      | .live =>
        if abandon = 0 then s.refuse .notDone
        else if e.owner.isSome then s.refuse .claimed
        else (s.removeEntry k).accept
      | .done => ((s.removeEntry k).leaveDoneQueue k).accept

/-- R38, R172: the five bytes of the TILE QUERY reply. -/
def Entry.queryReply (e : Entry) : List Byte :=
  [e.state.code, numberOrNone e.owner, byteOf e.waiters.length, byteOf e.remaining, byteOf e.overcut]

/-- R38: TILE QUERY at its last byte. -/
def State.tileQuery (s : State) (copy row col : Nat) : State :=
  match keyOf copy row col with
  | none => s.refuseRead .badArgument
  | some k =>
    match s.entry k with
    | none => s.refuseRead .notFound
    | some e => s.answerRead e.queryReply

/-- R35, R172: the seven bytes of the NEXT DONE reply for a key. -/
def State.nextDoneReply (s : State) (k : TileKey) : List Byte :=
  0x01 :: (keyBytes k ++ [((s.entry k).map (fun e => e.state.code)).getD 0])

/-- R35: NEXT DONE at its command byte. -/
def State.nextDone (s : State) : State :=
  match s.done with
  | [] => s.answerRead (List.replicate 7 0)
  | k :: rest => { s with done := rest }.answerRead (s.nextDoneReply k)

/-- R39: the claim and copy waits of a head end CANCELLED, and a buffered request becomes outstanding. -/
def State.cancelWaits (s : State) (h : HeadNo) : State :=
  match (s.head h).outstanding with
  | none => s
  | some o =>
    if o.wait = .claim ∨ o.wait = .copy then ((s.leaveWait h).endRequest h .cancelled 0 0).settle h else s

/-- R39, R64: CLEAR WORK at its command byte. -/
def State.clearWork (s : State) : State :=
  let s1 := { s with
    dir := []
    freeSlots := List.range Config.slots
    done := []
    load := { s.load with openTile := none }
    engine := { job := none, next := 0, waiting := [] }
    hold := { record := none, count := 0 }
    claims := s.claims.map (fun _ => { slots := [], timer := none })
    heads := s.heads.map (fun hu : HeadUnit => hu.orphan (fun _ => true))
    attn := s.attn.clearWork }
  (allHeads.foldl State.cancelWaits (s1.withdraw .ce)).accept

end Sys2Proof.Machine
end

