-- ==== Sys2Proof/Machine/Spindle.lean ====
section
/-! DEFINITION. The Time Base, the load monitors and the hold timers: TIMEBASE, SPINDLE SET, ticks, stall
entry, index pulses and hold-timer expiry (spec 08; R112 of spec 06). -/

namespace Sys2Proof.Machine

/-- R138: the monitor as HEAD BIND starts it. -/
def LoadMonitor.started (n p0 : Nat) : LoadMonitor :=
  { running := true, state := .arming, opened := false, counter := 0, index := 0, lastP := 0, curN := n,
    curP0 := p0, pendN := n, pendP0 := p0, pendFlag := false }

/-- R138: the monitor as HEAD UNBIND stops it. -/
def LoadMonitor.stopped (m : LoadMonitor) : LoadMonitor := { m with running := false, pendFlag := false }

/-- R136: the monitor as TIMEBASE restarts it; a stopped one is left unchanged. -/
def LoadMonitor.restarted (m : LoadMonitor) : LoadMonitor :=
  if m.running then { m with state := .arming, opened := false, counter := 0, index := 0 } else m

/-- R135, R136: TIMEBASE stores p. -/
def State.storeTimebase (s : State) (vals : List Nat) : State :=
  match vals with
  | [p] =>
    { s with
      timebase := min p Config.maxTimebase
      monitors := s.monitors.map (fun m : LoadMonitor => m.restarted) }
  | _ => s

/-- R139: whether the monitor adds 1 at a tick. -/
def LoadMonitor.counts (m : LoadMonitor) : Bool := m.running && (decide (m.state ≠ .stalled) || m.opened)

/-- R139: the tick that brings the counter to 65535. -/
def LoadMonitor.saturate (m : LoadMonitor) : LoadMonitor :=
  { m with state := .stalled, opened := false, index := 0, counter := Config.counterTop }

/-- R139: the next tick of a counting monitor brings its counter to 65535. -/
def LoadMonitor.atBrink (m : LoadMonitor) : Bool := m.counts && decide (Config.counterTop ≤ m.counter + 1)

/-- R139: the saturating tick of a head's monitor; only an entry into STALLED sets the STALL flag. -/
def State.stallEntry (s : State) (h : HeadNo) : State :=
  let s1 := s.onMonitor h LoadMonitor.saturate
  if (s.monitor h).state = .stalled then s1 else s1.raise .stall

/-- R139: one tick at a head's monitor. -/
def State.monitorTick (s : State) (h : HeadNo) : State :=
  if (s.monitor h).atBrink then s.stallEntry h
  else if (s.monitor h).counts then s.onMonitor h (fun m => { m with counter := m.counter + 1 })
  else s

/-- R112: the next tick brings the head's running hold timer to its timeout. -/
def State.holdAtBrink (s : State) (h : HeadNo) : Bool :=
  match (s.claim h).timer with
  | none => false
  | some n => decide ((s.head h).holdTimeout * Config.holdUnit ≤ n + 1)

/-- R112: the expiry of a head's hold timer. -/
def State.holdExpiry (s : State) (h : HeadNo) : State :=
  ((((s.leaveWait h).stopTimer h).raise .contested).endRequest h .contested 0 0).settle h

/-- R112: one tick at a head's hold timer. -/
def State.holdTick (s : State) (h : HeadNo) : State :=
  if s.holdAtBrink h then s.holdExpiry h
  else s.onClaim h (fun c => { c with timer := c.timer.map (fun n => n + 1) })

/-- R135, R139, R112: a time-base tick at every load monitor and every hold timer (log entry 6). -/
def State.tick (s : State) : State := allHeads.foldl State.holdTick (allHeads.foldl State.monitorTick s)

/-- R143: the pending values are applied at a window start. -/
def LoadMonitor.applyPending (m : LoadMonitor) : LoadMonitor :=
  if m.pendFlag then
    { m with
      curN := m.pendN
      curP0 := m.pendP0
      pendFlag := false
      state := if m.state = .valid then .none else m.state }
  else m

/-- R140: a pulse on a closed window opens one. -/
def LoadMonitor.openWindow (m : LoadMonitor) : LoadMonitor :=
  LoadMonitor.applyPending { m with counter := 0, index := 0, opened := true }

/-- R141: the N-th pulse completes the window and opens the next. -/
def LoadMonitor.completeWindow (m : LoadMonitor) : LoadMonitor :=
  LoadMonitor.openWindow { m with lastP := max m.counter 1, state := .valid }

/-- R140, R141: an index pulse at a monitor. -/
def LoadMonitor.pulse (m : LoadMonitor) : LoadMonitor :=
  if !m.running then m
  else if !m.opened then m.openWindow
  else if m.index + 1 < m.curN then { m with index := m.index + 1 }
  else m.completeWindow

/-- R144: SPINDLE SET at its fourth byte. -/
def State.spindleSet (s : State) (head n p0 : Nat) : State :=
  match headOf head with
  | none => s.refuse .badArgument
  | some h =>
    if (s.head h).state = .unbound then s.refuse .notBound
    else
      (s.onMonitor h (fun m => { m with pendN := clampWindow n, pendP0 := p0, pendFlag := true })).accept

end Sys2Proof.Machine
end

