-- ==== Sys2Proof/Machine/HeadCommands.lean ====
section
/-! DEFINITION. The host's head commands: HEAD BIND, HEAD UNBIND, TOOL SET, HEAD HALT, HEAD RESUME, STEP MODE,
HEAD STEP, HEAD QUERY, and CLAIM BREAK (spec 07; R109 of spec 06). -/

namespace Sys2Proof.Machine

/-- R119: a head command that needs a bound head. -/
def State.onBoundHead (s : State) (head : Nat) (f : State → HeadNo → State) : State :=
  match headOf head with
  | none => s.refuse .badArgument
  | some h => if (s.head h).state = .unbound then s.refuse .notBound else f s h

/-- R120, check 3: the copy is unshared and another head is bound to it. -/
def State.copyTaken (s : State) (h : HeadNo) (y : CopyNo) : Bool :=
  !(s.copy y).shared && allHeads.any (fun g => decide (g ≠ h ∧ (s.head g).boundCopy = some y))

/-- R120: the head record that HEAD BIND sets; the outstanding slot and the buffer are no part of it. -/
def HeadUnit.bind (hu : HeadUnit) (y : CopyNo) (cls limit hold : Nat) : HeadUnit :=
  { hu with
    state := .active
    stepMode := false
    boundCopy := some y
    toolClass := toolClassOf cls
    wear := 0
    worn := false
    wearLimit := clampWearLimit limit
    holdTimeout := hold }

/-- R120: HEAD BIND at its ninth byte. -/
def State.headBind (s : State) (head copy cls limit n p0 hold : Nat) : State :=
  match headOf head, copyOf copy with
  | some h, some y =>
    if (s.head h).state ≠ .unbound ∨ (s.head h).outstanding.isSome = true then s.refuse .busy
    else if s.copyTaken h y then s.refuse .copyTaken
    else
      ((s.onHead h (fun hu => hu.bind y cls limit hold)).onMonitor h
        (fun _ => LoadMonitor.started (clampWindow n) p0)).accept
  | _, _ => s.refuse .badArgument

/-- R121: a buffered request is answered UNBOUND, and the buffer is emptied. -/
def State.unbindBuffer (s : State) (h : HeadNo) : State :=
  match (s.head h).buffer with
  | none => s
  | some r =>
    (s.queueAnswer h { tag := r.tag, status := .unbound, value := 0, dwell := 0 }).onHead h
      (fun hu => { hu with buffer := none })

/-- R121: the unbinding of an ACTIVE or HALTED head, its parts in the order of the rule. -/
def State.unbind (s : State) (h : HeadNo) : State :=
  let s1 := (s.endParked h .unbound).unbindBuffer h
  let s2 := (s1.releaseAll h (s1.claim h).slots).stopTimer h
  (s2.onMonitor h LoadMonitor.stopped).onHead h (fun hu => { hu with state := .unbound, boundCopy := none })

/-- R121: HEAD UNBIND. -/
def State.headUnbind (s : State) (head : Nat) : State :=
  match headOf head with
  | none => s.refuse .badArgument
  | some h => if (s.head h).state = .unbound then s.accept else (s.unbind h).accept

/-- R123: TOOL SET. -/
def State.toolSet (s : State) (head cls limit : Nat) : State :=
  s.onBoundHead head (fun s h =>
    (s.onHead h (fun hu => { hu with
      toolClass := toolClassOf cls
      wearLimit := clampWearLimit limit
      wear := 0
      worn := false })).accept)

/-- R125: HEAD HALT. -/
def State.headHalt (s : State) (head : Nat) : State :=
  s.onBoundHead head (fun s h =>
    ((s.onHead h (fun hu => { hu with state := .halted })).endParked h .halted).accept)

/-- R126: HEAD RESUME. -/
def State.headResume (s : State) (head : Nat) : State :=
  s.onBoundHead head (fun s h => (s.onHead h (fun hu => { hu with state := .active })).accept)

/-- R127: the setting byte of STEP MODE. -/
def State.setStepMode (s : State) (h : HeadNo) (on : Bool) : State :=
  let s1 := s.onHead h (fun hu => { hu with stepMode := on })
  if (s.head h).stepMode && !on && (s.head h).inStepWait then s1.leaveStepWait h else s1

/-- R119, R127: one parameter of STEP MODE. -/
def State.storeStepMode (s : State) (vals : List Nat) : State :=
  match vals with
  | [head] =>
    match headOf head with
    | none => s.refuseSetting .badArgument
    | some h => if (s.head h).state = .unbound then s.refuseSetting .notBound else s
  | [head, v] =>
    match headOf head with
    | none => s
    | some h => s.setStepMode h (decide (v ≠ 0))
  | _ => s

/-- R128: HEAD STEP. -/
def State.headStep (s : State) (head : Nat) : State :=
  s.onBoundHead head (fun s h =>
    if (s.head h).inStepWait then (s.leaveStepWait h).accept else s.refuse .notWaiting)

/-- R109: CLAIM BREAK at its fifth byte. -/
def State.claimBreak (s : State) (copy row col : Nat) : State :=
  match keyOf copy row col with
  | none => s.refuse .badArgument
  | some k =>
    match s.entry k with
    | none => s.refuse .notFound
    | some e =>
      match e.owner with
      | none => s.accept
      | some g => (s.release g k).accept

/-- R172: a claim slot of the HEAD QUERY reply, zeros where none is held. -/
def claimBytes (slots : List TileKey) (i : Nat) : List Byte :=
  match slots[i]? with
  | some k => keyBytes k
  | none => List.replicate 5 0

/-- R172: bytes 29 to 36 of the HEAD QUERY reply. -/
def outstandingBytes (o : Option Outstanding) : List Byte :=
  match o with
  | none => List.replicate 8 0
  | some o =>
    [0x01, o.req.kind.code, o.req.tag] ++ twoBytes o.req.row ++ twoBytes o.req.col ++ [o.wait.code]

/-- R134, R172: the 38 bytes of the HEAD QUERY reply. -/
def State.headReply (s : State) (h : HeadNo) : List Byte :=
  let hu := s.head h
  let m := s.monitor h
  let slots := (s.claim h).slots
  [byteOf hu.state.code, boolByte hu.stepMode, numberOrNone hu.boundCopy, hu.toolClass.code] ++
    threeBytes hu.wear ++ twoBytes hu.wearLimit ++ [boolByte hu.worn, byteOf hu.holdTimeout, m.state.code] ++
    twoBytes m.lastP ++ [byteOf m.curN] ++ twoBytes m.curP0 ++ [boolByte m.pendFlag, byteOf slots.length] ++
    claimBytes slots 0 ++ claimBytes slots 1 ++ outstandingBytes hu.outstanding ++
    [boolByte hu.buffer.isSome]

/-- R134: HEAD QUERY at its head byte. -/
def State.headQuery (s : State) (head : Nat) : State :=
  match headOf head with
  | none => s.refuseRead .badArgument
  | some h => s.answerRead (s.headReply h)

end Sys2Proof.Machine
end

