-- ==== Sys2Proof/Machine/Loading.lean ====
section
/-! DEFINITION. The Load Unit's window and streams, FILL, FENCE WRITE, TILE EDIT and TILE READ, with their
store units (spec 03, sections 3.1 to 3.6). -/

namespace Sys2Proof.Machine

/-! ## The window and the write pointer -/

/-- R44: the pointer moves to the window's first cell. -/
def LoadUnit.homePointer (l : LoadUnit) : LoadUnit := { l with ptrRow := l.firstRow, ptrCol := l.firstCol }

/-- R44: a first row is stored. -/
def LoadUnit.setFirstRow (l : LoadUnit) (v : Nat) : LoadUnit :=
  LoadUnit.homePointer { l with firstRow := v, lastRow := max l.lastRow v }

/-- R44: a last row is stored. -/
def LoadUnit.setLastRow (l : LoadUnit) (v : Nat) : LoadUnit :=
  LoadUnit.homePointer { l with lastRow := max v l.firstRow }

/-- R44: a first column is stored. -/
def LoadUnit.setFirstCol (l : LoadUnit) (v : Nat) : LoadUnit :=
  LoadUnit.homePointer { l with firstCol := v, lastCol := max l.lastCol v }

/-- R44: a last column is stored. -/
def LoadUnit.setLastCol (l : LoadUnit) (v : Nat) : LoadUnit :=
  LoadUnit.homePointer { l with lastCol := max v l.firstCol }

/-- R45: the pointer moves to the next cell of the window. -/
def LoadUnit.advance (l : LoadUnit) : LoadUnit :=
  if l.ptrCol < l.lastCol then { l with ptrCol := l.ptrCol + 1 }
  else if l.ptrRow < l.lastRow then { l with ptrCol := l.firstCol, ptrRow := l.ptrRow + 1 }
  else l.homePointer

/-- R41: the cell index of the write pointer. -/
def LoadUnit.pointer (l : LoadUnit) : Nat := l.ptrRow * 8 + l.ptrCol

/-- R49: whether a cell index lies in the window. -/
def LoadUnit.inWindow (l : LoadUnit) (c : Nat) : Bool :=
  decide (l.firstRow ≤ c / 8) && decide (c / 8 ≤ l.lastRow) && decide (l.firstCol ≤ c % 8) &&
    decide (c % 8 ≤ l.lastCol)

/-- R43, R44: one parameter of WINDOW is stored; the open tile is looked for at the first. -/
def State.storeWindow (s : State) (vals : List Nat) : State :=
  match vals with
  | [v] =>
    if s.load.openTile.isNone then s.refuseSetting .notOpen
    else s.onLoad (fun l => l.setFirstRow (clampEdge v))
  | [_, v] => s.onLoad (fun l => l.setLastRow (clampEdge v))
  | [_, _, v] => s.onLoad (fun l => l.setFirstCol (clampEdge v))
  | [_, _, _, v] => s.onLoad (fun l => l.setLastCol (clampEdge v))
  | _ => s

/-! ## Streams and FILL -/

/-- R46, R47: a stream at its command byte. -/
def State.startStream (s : State) : State :=
  if s.load.openTile.isNone then s.refuseSetting .notOpen else s.accept

/-- The entry of the open tile (R41). -/
def State.openEntry (s : State) : Option Entry := s.load.openTile.bind (fun k => s.entry k)

/-- R46, R47: the store unit of one stream value: `f` writes the cell at the pointer, which advances. -/
def State.streamUnit (s : State) (f : Cell → Cell) : State :=
  match s.openEntry with
  | none => s
  | some e => (s.onCell e s.load.pointer f).onLoad LoadUnit.advance

/-- R49: FILL at its last byte. -/
def State.fill (s : State) (depth : Nat) : State :=
  if s.load.openTile.isNone then s.refuse .notOpen else s.requestUnit (.fill (clampDepth depth))

/-- R49: the store unit of FILL. -/
def State.fillUnit (s : State) (depth : Nat) : State :=
  match s.openEntry with
  | none => s
  | some e =>
    ((s.onCells e (cellIndices.filter s.load.inWindow) (fun _ c => { c with target := depth })).onLoad
      LoadUnit.homePointer).accept

/-! ## Fences, edits and read-back -/

/-- R50: FENCE WRITE at its thirteenth byte. -/
def State.fenceWrite (s : State) (copy row col : Nat) (rows : List Nat) : State :=
  match keyOf copy row col with
  | none => s.refuse .badArgument
  | some k => if (s.entry k).isNone then s.refuse .notFound else s.requestUnit (.fenceWrite k rows)

/-- R51: the fence bit that the row bytes give cell `c`. -/
def fenceBit (rows : List Nat) (c : Nat) : Bool := bitOf (rows.getD (c / 8) 0) (c % 8)

/-- R50, R51: the store unit of FENCE WRITE. -/
def State.fenceWriteUnit (s : State) (k : TileKey) (rows : List Nat) : State :=
  match s.entry k with
  | none => s.refuse .notFound
  | some e =>
    if e.state = .copying then s.refuse .busy
    else (s.onCells e cellIndices (fun i c => { c with fence := fenceBit rows i })).accept

/-- R52: TILE EDIT at its eighth byte: the new target is clamped, and checks 1 and 2 are made. -/
def State.tileEdit (s : State) (copy row col cell depth : Nat) : State :=
  match keyOf copy row col with
  | none => s.refuse .badArgument
  | some k =>
    if Config.cellsPerTile ≤ cell then s.refuse .badArgument
    else if (s.entry k).isNone then s.refuse .notFound
    else s.requestUnit (.tileEdit k cell (clampDepth depth))

/-- R53: the entry's counts after an edit that turned cell `old` into `new`. -/
def Entry.countEdit (e : Entry) (old new : Cell) (finishTol : Nat) : Entry :=
  { e with
    overcut := if old.overcut then e.overcut - 1 else e.overcut
    remaining :=
      if old.finished finishTol && !new.finished finishTol then e.remaining + 1
      else if !old.finished finishTol && new.finished finishTol then e.remaining - 1
      else e.remaining }

/-- R30 to R32: the state that an entry takes by its remaining count, with what follows. -/
def State.followCount (s : State) (k : TileKey) : State :=
  match s.entry k with
  | none => s
  | some e =>
    if e.state = .live ∧ e.remaining = 0 then (s.onEntry k (fun x => { x with state := .done })).enterDone k
    else if e.state = .done ∧ 0 < e.remaining then
      (s.onEntry k (fun x => { x with state := .live })).leaveDoneQueue k
    else s

/-- R52, R53: the store unit of TILE EDIT: checks 3 and 4, then the edit. -/
def State.tileEditUnit (s : State) (k : TileKey) (cell depth : Nat) : State :=
  match s.entry k with
  | none => s.refuse .notFound
  | some e =>
    if e.state = .filling ∨ e.state = .copying then s.refuse .busy
    else
      let old := s.cell e cell
      let cr := s.copy k.copy
      if depth + cr.overTol < old.cut then s.refuse .belowCut
      else
        let new := { old with target := depth, overcut := false }
        (((s.onCell e cell (fun _ => new)).onEntry k
          (fun x => x.countEdit old new cr.finishTol)).followCount k).accept

/-- R54: TILE READ at its field byte: checks 1 and 2. -/
def State.tileRead (s : State) (copy row col field : Nat) : State :=
  match keyOf copy row col with
  | none => s.refuseRead .badArgument
  | some k =>
    if 2 < field then s.refuseRead .badArgument
    else if (s.entry k).isNone then s.refuseRead .notFound
    else s.requestUnit (.tileRead k field)

/-- R55: eight row bytes of one flag of a slot's cells. -/
def flagRows (cells : List Cell) (flag : Cell → Bool) : List Byte :=
  (List.range 8).map (fun r => byteOf (packBits (((cells.drop (8 * r)).take 8).map flag)))

/-- R55: the reply of TILE READ for a field. -/
def State.tileReadReply (s : State) (e : Entry) (field : Nat) : List Byte :=
  let cells := cellIndices.map (fun c => s.cell e c)
  match field with
  | 0 => (cells.map (fun c => twoBytes c.target)).flatten
  | 1 => (cells.map (fun c => twoBytes c.cut)).flatten
  | _ => flagRows cells (fun c => c.fence) ++ flagRows cells (fun c => c.overcut)

/-- R54: the store unit of TILE READ. -/
def State.tileReadUnit (s : State) (k : TileKey) (field : Nat) : State :=
  match s.entry k with
  | none => s.refuseRead .notFound
  | some e => if e.state = .copying then s.refuseRead .busy else s.answerRead (s.tileReadReply e field)

end Sys2Proof.Machine
end

