-- ==== Sys2Proof/Machine/Status.lean ====
section
/-! DEFINITION. RESULT READ, STATUS READ, ACK, ATTN SETUP, VIOLATION READ and VIOLATION CLEAR (R95, R96 of
spec 05, R169 to R172 of spec 10, R176 to R179 of spec 11). -/

namespace Sys2Proof.Machine

/-- R169: RESULT READ latches the code as it stands and leaves it. -/
def State.resultRead (s : State) : State := s.latch [s.port.result.code]

/-- R171: the unit byte of the STATUS READ reply. -/
def State.unitByte (s : State) : Byte :=
  byteOf (packBits [s.load.openTile.isSome, s.engine.job.isSome, s.hold.record.isSome])

/-- R171: the head byte of a head. -/
def State.headByte (s : State) (h : HeadNo) : Byte :=
  let hu := s.head h
  byteOf (hu.state.code +
    4 * packBits [hu.stepMode, hu.inStepWait, hu.worn, decide ((s.monitor h).state = .stalled)])

/-- R171: the 13 bytes of the STATUS READ reply. -/
def State.statusReply (s : State) : List Byte :=
  [s.attn.flags, s.port.result.code, byteOf s.freeSlots.length, byteOf s.done.length, s.unitByte] ++
    allHeads.map (fun h => s.headByte h)

/-- R171, R178: STATUS READ latches its reply and takes the snapshot; RESULT is left (R169). -/
def State.statusRead (s : State) : State :=
  let s1 := s.latch s.statusReply
  { s1 with attn := s1.attn.takeSnapshot }

/-- R179: ACK at its mask byte. -/
def State.ack (s : State) (mask : Nat) : State :=
  { s with attn := s.attn.acknowledge (byteOf mask) }.accept

/-- R176: one mask of ATTN SETUP is stored. -/
def State.storeAttnSetup (s : State) (vals : List Nat) : State :=
  match vals with
  | [v] => { s with attn := { s.attn with enable := byteOf v } }
  | [_, v] => { s with attn := { s.attn with level := byteOf v } }
  | _ => s

/-- R95, R172: the 14 bytes of the VIOLATION READ reply. -/
def ViolationHold.reply (v : ViolationHold) : List Byte :=
  match v.record with
  | none => List.replicate 14 0
  | some r =>
    [0x01, byteOf r.head.val] ++ keyBytes r.tile ++ [byteOf r.cell] ++ twoBytes r.reached ++
      twoBytes r.limit ++ [r.kind.code, byteOf v.count]

/-- R95: VIOLATION READ. -/
def State.violationRead (s : State) : State := s.answerRead s.hold.reply

/-- R96: VIOLATION CLEAR. -/
def State.violationClear (s : State) : State := { s with hold := { record := none, count := 0 } }.accept

end Sys2Proof.Machine
end

