-- ==== Sys2Proof/Machine/Tables.lean ====
section
/-! DEFINITION. The Copy Table and the Band Table: COPY SETUP, BAND BOUNDS, BAND SET, COPY QUERY (spec 01).
Each setting takes the parameters stored so far, the last of them just completed. -/

namespace Sys2Proof.Machine

/-- How many heads are bound to a copy (R6). -/
def State.boundHeads (s : State) (y : CopyNo) : Nat :=
  (allHeads.filter (fun h => decide ((s.head h).boundCopy = some y))).length

/-- R5: the check of COPY SETUP at its copy byte. -/
def State.copySetupSelect (s : State) (copy : Nat) : State :=
  match copyOf copy with
  | none => s.refuseSetting .badArgument
  | some y => if s.hasTiles y then s.refuseSetting .busy else s

/-- R6: the shared byte of COPY SETUP. -/
def State.copySetupShared (s : State) (y : CopyNo) (v : Nat) : State :=
  if v = 0 ∧ (s.copy y).shared = true ∧ 2 ≤ s.boundHeads y then s.refuseSetting .copyTaken
  else s.onCopy y (fun c => { c with shared := decide (v ≠ 0) })

/-- R5, R6: one parameter of COPY SETUP is stored. -/
def State.storeCopySetup (s : State) (vals : List Nat) : State :=
  match vals with
  | [copy] => s.copySetupSelect copy
  | copy :: rest =>
    match copyOf copy with
    | none => s
    | some y =>
      match rest with
      | [v] => s.onCopy y (fun c => { c with roughAllow := v })
      | [_, v] => s.onCopy y (fun c => { c with fenceAllow := v })
      | [_, _, v] => s.onCopy y (fun c => { c with finishTol := min v Config.maxFinishTol })
      | [_, _, _, v] => s.onCopy y (fun c => { c with overTol := v })
      | [_, _, _, _, v] => s.copySetupShared y v
      | _ => s
  | [] => s

/-- R11: a start row as BAND BOUNDS stores it: clamped, then raised to the start row of the band before. -/
def State.boundedStart (s : State) (y : CopyNo) (before : Fin 8) (v : Nat) : Nat :=
  max (min v Config.lastCellLine) (s.band y before).start

/-- R10, R11: one parameter of BAND BOUNDS is stored; the i-th start row is that of band i. -/
def State.storeBandBounds (s : State) (vals : List Nat) : State :=
  match vals with
  | [copy] => if (copyOf copy).isNone then s.refuseSetting .badArgument else s
  | copy :: rest =>
    match copyOf copy with
    | none => s
    | some y =>
      let band : Fin 8 := Fin.ofNat 8 rest.length
      let before : Fin 8 := Fin.ofNat 8 (rest.length - 1)
      let v := s.boundedStart y before (rest.getLastD 0)
      s.onBand y band (fun b => { b with start := v })
  | [] => s

/-- R12, R13: one parameter of BAND SET is stored. -/
def State.storeBandSet (s : State) (vals : List Nat) : State :=
  match vals with
  | [copy] => if (copyOf copy).isNone then s.refuseSetting .badArgument else s
  | [_, band] => if (copyOf band).isNone then s.refuseSetting .badArgument else s
  | copy :: band :: rest =>
    match copyOf copy, copyOf band with
    | some y, some b =>
      match rest with
      | [v] => s.onBand y b (fun r => { r with stepMax := clampStep v })
      | [_, v] => s.onBand y b (fun r => { r with wearRate := v })
      | [_, _, v] => s.onBand y b (fun r => { r with dwellMode := dwellModeOf v })
      | [_, _, _, v] => s.onBand y b (fun r => { r with dwell := v })
      | _ => s
    | _, _ => s
  | [] => s

/-- One band record of the COPY QUERY reply (R172). -/
def BandRecord.bytes (b : BandRecord) : List Byte :=
  twoBytes b.start ++ twoBytes b.stepMax ++ [byteOf b.wearRate, b.dwellMode.code, byteOf b.dwell]

/-- R15, R172: the 61 bytes of the COPY QUERY reply. -/
def State.copyReply (s : State) (y : CopyNo) : List Byte :=
  let c := s.copy y
  [byteOf c.roughAllow, byteOf c.fenceAllow, byteOf c.finishTol, byteOf c.overTol, boolByte c.shared] ++
    (allHeads.map (fun b => (s.band y b).bytes)).flatten

/-- R15: COPY QUERY at its copy byte. -/
def State.copyQuery (s : State) (copy : Nat) : State :=
  match copyOf copy with
  | none => s.refuseRead .badArgument
  | some y => s.answerRead (s.copyReply y)

end Sys2Proof.Machine
end

