-- ==== Sys2Proof/Machine/Decoder.lean ====
section
/-! DEFINITION. The Command Port: bytes on the wire, the intake queue, the decoder's step, and the command
table (spec 10). -/

namespace Sys2Proof.Machine

/-! ## The command table (R170) -/

/-- R165 to R167 -/
inductive CommandClass where
  | setting
  | action
  | stream
  | read
  deriving DecidableEq, Repr

/-- A row of the command table: code, class, and the widths in bytes of its parameters. -/
structure CommandRow where
  code : Byte
  cls : CommandClass
  widths : List Nat
  deriving DecidableEq, Repr

/-- R170. A key is three parameters, of one, two and two bytes. -/
def Command.row (c : Command) : CommandRow :=
  match c with
  | .resultRead => { code := 0x01, cls := .read, widths := [] }
  | .statusRead => { code := 0x02, cls := .read, widths := [] }
  | .ack => { code := 0x03, cls := .action, widths := [1] }
  | .attnSetup => { code := 0x04, cls := .setting, widths := [1, 1] }
  | .clearWork => { code := 0x05, cls := .action, widths := [] }
  | .timebase => { code := 0x06, cls := .setting, widths := [1] }
  | .copySetup => { code := 0x10, cls := .setting, widths := [1, 1, 1, 1, 1, 1] }
  | .bandBounds => { code := 0x11, cls := .setting, widths := [1, 2, 2, 2, 2, 2, 2, 2] }
  | .bandSet => { code := 0x12, cls := .setting, widths := [1, 1, 2, 1, 1, 1] }
  | .copyQuery => { code := 0x13, cls := .read, widths := [1] }
  | .headBind => { code := 0x20, cls := .action, widths := [1, 1, 1, 2, 1, 2, 1] }
  | .headUnbind => { code := 0x21, cls := .action, widths := [1] }
  | .toolSet => { code := 0x22, cls := .action, widths := [1, 1, 2] }
  | .spindleSet => { code := 0x23, cls := .action, widths := [1, 1, 2] }
  | .headHalt => { code := 0x24, cls := .action, widths := [1] }
  | .headResume => { code := 0x25, cls := .action, widths := [1] }
  | .stepMode => { code := 0x26, cls := .setting, widths := [1, 1] }
  | .headStep => { code := 0x27, cls := .action, widths := [1] }
  | .headQuery => { code := 0x28, cls := .read, widths := [1] }
  | .tileOpen => { code := 0x30, cls := .action, widths := [1, 2, 2] }
  | .window => { code := 0x31, cls := .setting, widths := [1, 1, 1, 1] }
  | .targetWrite => { code := 0x32, cls := .stream, widths := [2] }
  | .cutWrite => { code := 0x33, cls := .stream, widths := [2] }
  | .fill => { code := 0x34, cls := .action, widths := [2] }
  | .tileSeal => { code := 0x35, cls := .action, widths := [] }
  | .fenceWrite => { code := 0x36, cls := .action, widths := [1, 2, 2, 1, 1, 1, 1, 1, 1, 1, 1] }
  | .tileEdit => { code := 0x37, cls := .action, widths := [1, 2, 2, 1, 2] }
  | .tileRetire => { code := 0x38, cls := .action, widths := [1, 2, 2, 1] }
  | .tileDuplicate => { code := 0x39, cls := .action, widths := [1, 2, 2, 1] }
  | .claimBreak => { code := 0x3A, cls := .action, widths := [1, 2, 2] }
  | .tileQuery => { code := 0x3B, cls := .read, widths := [1, 2, 2] }
  | .tileRead => { code := 0x3C, cls := .read, widths := [1, 2, 2, 1] }
  | .nextDone => { code := 0x3D, cls := .read, widths := [] }
  | .violationRead => { code := 0x40, cls := .read, widths := [] }
  | .violationClear => { code := 0x41, cls := .action, widths := [] }

/-- All host commands, in the order of R170. -/
def allCommands : List Command :=
  [.resultRead, .statusRead, .ack, .attnSetup, .clearWork, .timebase, .copySetup, .bandBounds, .bandSet,
    .copyQuery, .headBind, .headUnbind, .toolSet, .spindleSet, .headHalt, .headResume, .stepMode, .headStep,
    .headQuery, .tileOpen, .window, .targetWrite, .cutWrite, .fill, .tileSeal, .fenceWrite, .tileEdit,
    .tileRetire, .tileDuplicate, .claimBreak, .tileQuery, .tileRead, .nextDone, .violationRead,
    .violationClear]

/-- The host command of a code, if the table has it (R162, R170). -/
def commandOf (code : Byte) : Option Command := allCommands.find? (fun c => decide (c.row.code = code))

/-! ## What the steps of the commands do -/

/-- R165: a setting command stores the parameter that has just completed, the last of `vals`. -/
def State.storeSetting (s : State) (c : Command) (vals : List Nat) : State :=
  match c with
  | .timebase => s.storeTimebase vals
  | .attnSetup => s.storeAttnSetup vals
  | .copySetup => s.storeCopySetup vals
  | .bandBounds => s.storeBandBounds vals
  | .bandSet => s.storeBandSet vals
  | .window => s.storeWindow vals
  | .stepMode => s.storeStepMode vals
  | _ => s

/-- R165, R167: an action command acts, or a read latches its reply, with all its parameters `vals`. -/
def State.act (s : State) (c : Command) (vals : List Nat) : State :=
  match c, vals with
  | .resultRead, [] => s.resultRead
  | .statusRead, [] => s.statusRead
  | .ack, [m] => s.ack m
  | .clearWork, [] => s.clearWork
  | .copyQuery, [y] => s.copyQuery y
  | .headBind, [h, y, cls, lim, n, p0, hold] => s.headBind h y cls lim n p0 hold
  | .headUnbind, [h] => s.headUnbind h
  | .toolSet, [h, cls, lim] => s.toolSet h cls lim
  | .spindleSet, [h, n, p0] => s.spindleSet h n p0
  | .headHalt, [h] => s.headHalt h
  | .headResume, [h] => s.headResume h
  | .headStep, [h] => s.headStep h
  | .headQuery, [h] => s.headQuery h
  | .tileOpen, [y, t, u] => s.tileOpen y t u
  | .fill, [d] => s.fill d
  | .tileSeal, [] => s.tileSeal
  | .fenceWrite, y :: t :: u :: rows => s.fenceWrite y t u rows
  | .tileEdit, [y, t, u, c, d] => s.tileEdit y t u c d
  | .tileRetire, [y, t, u, a] => s.tileRetire y t u a
  | .tileDuplicate, [y, t, u, d] => s.tileDuplicate y t u d
  | .claimBreak, [y, t, u] => s.claimBreak y t u
  | .tileQuery, [y, t, u] => s.tileQuery y t u
  | .tileRead, [y, t, u, f] => s.tileRead y t u f
  | .nextDone, [] => s.nextDone
  | .violationRead, [] => s.violationRead
  | .violationClear, [] => s.violationClear
  | _, _ => s

/-- R46, R47: a completed stream value, clamped (R1), asks for its store unit. -/
def State.streamValue (s : State) (c : Command) (v : Nat) : State :=
  match c with
  | .targetWrite => s.requestUnit (.targetValue (clampDepth v))
  | .cutWrite => s.requestUnit (.cutValue (clampDepth v))
  | _ => s

/-! ## The wire -/

/-- R168: the byte of the latch at the read index, 0x00 past the reply's end. -/
def Port.replyByte (p : Port) : Byte := p.reply.getD p.readIndex 0x00

/-- R160, R168: SDO presents a reply byte in a byte period that was begun while the latch was readable. -/
def Port.presentsReply (p : Port) (begunEarly : Bool) : Bool := p.readable && !begunEarly

/-- R168: a parameter byte that read a reply byte consumes it. -/
def Port.consume (p : Port) (line : PortLine) (begunEarly : Bool) : Port :=
  if p.presentsReply begunEarly && decide (line = .parameter) then
    { p with readIndex := min (p.readIndex + 1) p.reply.length }
  else p

/-- R167: a command byte that completes on the wire ends the readability of the reply, at once and for every
read whose own command byte came before it. -/
def Port.noteCommandByte (p : Port) : Port :=
  { p with
    readable := false
    followed := true
    intake := p.intake.map (fun b => { b with followed := true }) }

/-- R162, R163: a completed byte joins the intake queue, or is lost if 16 wait there. -/
def Port.enqueue (p : Port) (line : PortLine) (value : Byte) : Port :=
  if p.intake.length < Config.intakeDepth then
    { p with intake := p.intake ++ [{ line := line, value := value, followed := false }] }
  else { p with overrun := true }

/-- R160: a byte completes at its eighth edge. -/
def Port.takeByte (p : Port) (line : PortLine) (value : Byte) (begunEarly : Bool) : Port :=
  let out := if p.presentsReply begunEarly then p.replyByte else 0x00
  let p1 := p.consume line begunEarly
  let p2 := if line = .command then p1.noteCommandByte else p1
  { p2.enqueue line value with sdo := some out, bitCount := 0 }

/-- R164: SDO is high between bytes. -/
def Port.ready (p : Port) : Bool := p.intake.isEmpty && p.unit.isNone

/-! ## The decoder -/

/-- R165 to R167: a command byte ends the current command. -/
def State.endCommand (s : State) : State :=
  match s.port.current, s.port.phase with
  | .known c, .receiving =>
    match c.row.cls with
    | .setting => s.accept
    | .stream => s
    | .action => s.refuse .truncated
    | .read => s.refuse .truncated
  | _, _ => s

/-- R162: the command becomes the current one: parameter index 0, the assembler empty. -/
def State.beginCommand (s : State) (cur : Current) (phase : Phase) (followed : Bool) : State :=
  s.onPort (fun p =>
    { p with current := cur, phase := phase, followed := followed, values := [], half := none })

/-- R162: a command byte is taken. -/
def State.takeCommand (s : State) (code : Byte) (followed : Bool) : State :=
  let s1 := s.endCommand
  match commandOf code with
  | none => (s1.beginCommand .unknown .refused followed).refuse .unknownCommand
  | some c =>
    if c.row.cls = .stream then (s1.beginCommand (.known c) .receiving followed).startStream
    else if c.row.widths = [] then (s1.beginCommand (.known c) .complete followed).act c []
    else s1.beginCommand (.known c) .receiving followed

/-- R165: the setting command has stored its last parameter, unless it has been refused. -/
def State.completeSetting (s : State) : State :=
  if s.port.phase = .receiving then s.accept.onPort (fun p => { p with phase := .complete }) else s

/-- R162: a parameter of the current command completes with value `v`. -/
def State.takeValue (s : State) (c : Command) (v : Nat) : State :=
  let vals := s.port.values ++ [v]
  let last := decide (vals.length = c.row.widths.length)
  match c.row.cls with
  | .stream => (s.onPort (fun p => { p with half := none })).streamValue c v
  | .setting =>
    let s1 := (s.onPort (fun p => { p with half := none, values := vals })).storeSetting c vals
    if last then s1.completeSetting else s1
  | .action =>
    if last then (s.onPort (fun p => { p with half := none, values := vals, phase := .complete })).act c vals
    else s.onPort (fun p => { p with half := none, values := vals })
  | .read =>
    if last then (s.onPort (fun p => { p with half := none, values := vals, phase := .complete })).act c vals
    else s.onPort (fun p => { p with half := none, values := vals })

/-- The width of the parameter that the current command takes next; a stream takes two-byte values without
end (R166). -/
def Command.nextWidth (c : Command) (taken : Nat) : Nat :=
  if c.row.cls = .stream then 2 else c.row.widths.getD taken 1

/-- R162: a parameter byte is taken: a half value, the next parameter, or discarded. -/
def State.takeParameter (s : State) (b : Byte) : State :=
  match s.port.current, s.port.phase with
  | .known c, .receiving =>
    if c.nextWidth s.port.values.length = 2 then
      match s.port.half with
      | none => s.onPort (fun p => { p with half := some b })
      | some hi => s.takeValue c (joinBytes hi b)
    else s.takeValue c b.toNat
  | _, _ => s

/-- R163: the decoder treats a recorded overrun: the current command ends, TRUNCATED whatever its class, and
parameter bytes are discarded until a command byte is taken. -/
def State.treatOverrun (s : State) : State :=
  if s.port.overrun then
    ((s.beginCommand .none .complete false).onPort (fun p => { p with overrun := false })).refuse .truncated
  else s

/-- R162: the decoder, free, takes the byte at the front of the intake queue. -/
def State.decodeByte (s : State) (b : IntakeByte) (rest : List IntakeByte) : State :=
  let s1 := (s.onPort (fun p => { p with intake := rest })).treatOverrun
  match b.line with
  | .command => s1.takeCommand b.value b.followed
  | .parameter => s1.takeParameter b.value

/-- The step of the decoder, for the rows whose bytes satisfy `own`: nothing happens while a store unit of
the port is waiting, while the queue is empty, or where the byte at the front is another row's (log entries
1 and 2). -/
def State.decoderStep (s : State) (own : IntakeByte → Bool) : State :=
  match s.port.unit, s.port.intake with
  | none, b :: rest => if own b then s.decodeByte b rest else s
  | _, _ => s

/-- The bytes of a host command's row: its command byte, or a parameter byte while it is current. -/
def State.ownByte (s : State) (c : Command) (b : IntakeByte) : Bool :=
  match b.line with
  | .command => decide (b.value = c.row.code)
  | .parameter => decide (s.port.current = .known c)

/-- A decoder step that takes a byte of host command `c` (R162; log entry 1). -/
def State.commandStep (s : State) (c : Command) : State := s.decoderStep (s.ownByte c)

/-- Runs a store unit of the Command Port if it holds the grant and `run` is its unit (R20, R21). -/
def State.portUnitStep (s : State) (run : PortUnit → Option State) : State :=
  match s.arb.granted, s.port.unit with
  | some .cp, some u =>
    match run u with
    | some s' => s'.endPortUnit
    | none => s
  | _, _ => s

end Sys2Proof.Machine
end

