-- ==== Sys2Proof/Machine/PortRows.lean ====
section
/-! DEFINITION. The meanings of the rows at the wires of the Command Port and of the decoder's rows without a
command of their own: HARDWARE_RESET, CP_BYTE, CHIP_SELECT_BREAK, PARAMETER_BYTE, UNKNOWN_COMMAND. -/

namespace Sys2Proof.Machine

/-- The outcome of a step (Host/Core.lean). -/
abbrev Result := Host.Outcome State Fault Refusal

/-- R173: every block takes its reset values; the queue of waiting commands is no part of the hardware (log
entry 3). -/
def execHardwareReset (s : State) : Result := .next { State.reset with pending := s.pending }

/-- R160, R163, R167, R168. -/
def execCpByte (line : PortLine) (value : Byte) (begunEarly : Bool) (s : State) : Result :=
  .next (s.onPort (fun p => p.takeByte line value begunEarly))

/-- R161: the partial byte is discarded; all else in the port stands as it was. -/
def execChipSelectBreak (_bits : Nat) (s : State) : Result := .next (s.onPort (fun p => { p with bitCount := 0 }))

/-- R162, R165, R166. -/
def execParameterByte (s : State) : Result := .next (s.decoderStep (fun b => decide (b.line = .parameter)))

/-- R162: a command byte whose code is in no row of R170. -/
def execUnknownCommand (s : State) : Result :=
  .next (s.decoderStep (fun b => decide (b.line = .command) && (commandOf b.value).isNone))

end Sys2Proof.Machine
end

