-- ==== Sys2Proof/Machine/HostRows.lean ====
section
/-! DEFINITION. The meanings of the host commands' rows: each is a decoder step that takes a byte of its own
command, its command byte or one of its parameter bytes, and carries out whatever the byte completes (R162;
log entry 1). What the commands do stands in Tables, Directory, Loading, Copying, HeadCommands, Spindle and
Status; `State.act`, `State.storeSetting` and `State.startStream` lead there. -/

namespace Sys2Proof.Machine

/-- R169. -/
def execResultRead (s : State) : Result := .next (s.commandStep .resultRead)

/-- R171, R178. -/
def execStatusRead (s : State) : Result := .next (s.commandStep .statusRead)

/-- R179. -/
def execAck (s : State) : Result := .next (s.commandStep .ack)

/-- R176. -/
def execAttnSetup (s : State) : Result := .next (s.commandStep .attnSetup)

/-- R39, R64, R180. -/
def execClearWork (s : State) : Result := .next (s.commandStep .clearWork)

/-- R135, R136. -/
def execTimebase (s : State) : Result := .next (s.commandStep .timebase)

/-- R5, R6. -/
def execCopySetup (s : State) : Result := .next (s.commandStep .copySetup)

/-- R10, R11. -/
def execBandBounds (s : State) : Result := .next (s.commandStep .bandBounds)

/-- R12, R13. -/
def execBandSet (s : State) : Result := .next (s.commandStep .bandSet)

/-- R15. -/
def execCopyQuery (s : State) : Result := .next (s.commandStep .copyQuery)

/-- R120, R138. -/
def execHeadBind (s : State) : Result := .next (s.commandStep .headBind)

/-- R121, R110. -/
def execHeadUnbind (s : State) : Result := .next (s.commandStep .headUnbind)

/-- R123. -/
def execToolSet (s : State) : Result := .next (s.commandStep .toolSet)

/-- R144. -/
def execSpindleSet (s : State) : Result := .next (s.commandStep .spindleSet)

/-- R125. -/
def execHeadHalt (s : State) : Result := .next (s.commandStep .headHalt)

/-- R126. -/
def execHeadResume (s : State) : Result := .next (s.commandStep .headResume)

/-- R127. -/
def execStepMode (s : State) : Result := .next (s.commandStep .stepMode)

/-- R128. -/
def execHeadStep (s : State) : Result := .next (s.commandStep .headStep)

/-- R134. -/
def execHeadQuery (s : State) : Result := .next (s.commandStep .headQuery)

/-- R27. -/
def execTileOpen (s : State) : Result := .next (s.commandStep .tileOpen)

/-- R43, R44. -/
def execWindow (s : State) : Result := .next (s.commandStep .window)

/-- R46. -/
def execTargetWrite (s : State) : Result := .next (s.commandStep .targetWrite)

/-- R47. -/
def execCutWrite (s : State) : Result := .next (s.commandStep .cutWrite)

/-- R49. -/
def execFill (s : State) : Result := .next (s.commandStep .fill)

/-- R28. -/
def execTileSeal (s : State) : Result := .next (s.commandStep .tileSeal)

/-- R50. -/
def execFenceWrite (s : State) : Result := .next (s.commandStep .fenceWrite)

/-- R52. -/
def execTileEdit (s : State) : Result := .next (s.commandStep .tileEdit)

/-- R36. -/
def execTileRetire (s : State) : Result := .next (s.commandStep .tileRetire)

/-- R57, R58. -/
def execTileDuplicate (s : State) : Result := .next (s.commandStep .tileDuplicate)

/-- R109. -/
def execClaimBreak (s : State) : Result := .next (s.commandStep .claimBreak)

/-- R38. -/
def execTileQuery (s : State) : Result := .next (s.commandStep .tileQuery)

/-- R54. -/
def execTileRead (s : State) : Result := .next (s.commandStep .tileRead)

/-- R35. -/
def execNextDone (s : State) : Result := .next (s.commandStep .nextDone)

/-- R95. -/
def execViolationRead (s : State) : Result := .next (s.commandStep .violationRead)

/-- R96. -/
def execViolationClear (s : State) : Result := .next (s.commandStep .violationClear)

end Sys2Proof.Machine
end

