-- ==== Sys2Proof/WellFormed.lean ====
section
/-! DEFINITION. Which commands have operands the spec allows. Head numbers, bytes and two-byte values are
right by their types; the two checks below are what the types leave. -/

namespace Sys2Proof

/-- The KIND bytes of the request frames (R149). -/
def knownKinds : List Byte := [0x01, 0x02, 0x03, 0x0F]

/-- A chip-select break discards a partial byte only after 1 to 7 of its bits (R161); UNKNOWN_KIND names a
KIND byte that is none of the four (R149); every other command is well formed. -/
def Instr.wellFormed (i : Instr) : Bool :=
  match i with
  | .chipSelectBreak bits => decide (1 ≤ bits) && decide (bits ≤ 7)
  | .unknownKind _ kind => !(knownKinds.contains kind)
  | _ => true

end Sys2Proof
end

