-- ==== Sys2Proof/Machine/LinkOps.lean ====
section
/-! DEFINITION. The head links: the receiver and its frames, the transmitter, and LINK RESET (spec 09). -/

namespace Sys2Proof.Machine

/-- The byte sum of a frame from its KIND on, modulo 256 (R150). -/
def byteSum (bytes : List Byte) : Byte := bytes.foldl (fun acc b => acc + b) 0

/-- R154, and the frame layouts of spec 09: the eight bytes of an ANSWER frame, its CHECK last. -/
def Answer.frame (a : Answer) : List Byte :=
  let body := [0x80, a.tag, a.status.code] ++ twoBytes a.value ++ [byteOf a.dwell]
  Config.sync :: (body ++ [0 - byteSum body])

/-- R149: the bytes that follow a KIND byte, the CHECK byte included. -/
def bytesAfterKind (kind : Byte) : Option Nat :=
  if kind = 0x01 then some 6
  else if kind = 0x02 then some 8
  else if kind = 0x03 then some 6
  else if kind = 0x0F then some 1
  else none

/-- The receiver returns to HUNT: no partial frame is held and the gap timer stops (R148, R150, R151). -/
def State.huntAgain (s : State) (h : HeadNo) : State := s.onLink h (fun l => { l with rx := Receiver.reset })

/-- R83, R152: the request of a good frame; the head unit clamps a reached depth. -/
def requestOf (kind : RequestKind) (tag : Byte) (row col depth : Nat) : Request :=
  { kind := kind, tag := tag, row := row, col := col, depth := clampDepth depth }

/-- R149, R150: a frame that is bad or of an unknown KIND ends: a BAD_FRAME answer and LINK_FAULT. -/
def State.badFrame (s : State) (h : HeadNo) : State :=
  ((s.huntAgain h).queueBadFrame h).raise .linkFault

/-- R158: what a LINK RESET does to the head's outstanding request. -/
def State.resetOutstanding (s : State) (h : HeadNo) : State :=
  match (s.head h).outstanding with
  | none => s
  | some o =>
    if o.wait ≠ .inService then (s.leaveWait h).setOutstanding h none
    else if o.req.kind = .report then s.setOutstanding h (some { o with silent := true })
    else (s.setOutstanding h none).withdraw (.hu h)

/-- R111, R158: the claims that a LINK RESET releases: all but the claim on the tile of a report that is
carried on. -/
def State.resetClaims (s : State) (h : HeadNo) : List TileKey :=
  match (s.head h).outstanding with
  | none => (s.claim h).slots
  | some o => (s.claim h).slots.filter (fun k => decide (o.key ≠ some k))

/-- R157, R158: a good LINK RESET frame is taken. -/
def State.linkReset (s : State) (h : HeadNo) : State :=
  let s1 := (s.onHead h (fun hu => { hu with buffer := none })).resetOutstanding h
  s1.releaseAll h (s1.resetClaims h)

/-- R150, R152, R153: a good frame is taken by its KIND and its payload, the CHECK byte left out. -/
def State.takeFrame (s : State) (h : HeadNo) (kind : Byte) (payload : List Byte) : State :=
  match payload with
  | [tag, r1, r0, c1, c0] =>
    s.requestArrives h
      (requestOf (if kind = 0x01 then .probe else .release) tag (joinBytes r1 r0) (joinBytes c1 c0) 0)
  | [tag, r1, r0, c1, c0, d1, d0] =>
    s.requestArrives h (requestOf .report tag (joinBytes r1 r0) (joinBytes c1 c0) (joinBytes d1 d0))
  | [] => s.linkReset h
  | _ => s

/-- R148: a byte taken in BODY: it is added and stored, or, as the last one, the frame is judged (R150). -/
def State.bodyByte (s : State) (h : HeadNo) (b : Byte) : State :=
  let rx := (s.link h).rx
  if 1 < rx.expected then
    s.onLink h (fun l => { l with rx := { rx with
      expected := rx.expected - 1
      sum := rx.sum + b
      payload := rx.payload ++ [b]
      gapRunning := true } })
  else if rx.sum + b = 0 then (s.huntAgain h).takeFrame h rx.kind rx.payload
  else s.badFrame h

/-- R149: a byte taken in KIND. -/
def State.kindByte (s : State) (h : HeadNo) (b : Byte) : State :=
  match bytesAfterKind b with
  | none => s.badFrame h
  | some n =>
    s.onLink h (fun l => { l with rx :=
      { state := .body, kind := b, expected := n, sum := b, payload := [], gapRunning := true } })

/-- R148: a byte completes with a good stop bit. -/
def State.linkByte (s : State) (h : HeadNo) (b : Byte) : State :=
  match (s.link h).rx.state with
  | .hunt =>
    if b = Config.sync then
      s.onLink h (fun l => { l with rx := { Receiver.reset with state := .kind, gapRunning := true } })
    else s
  | .kind => s.kindByte h b
  | .body => s.bodyByte h b

/-- R148, R151: a partial frame is lost without an answer; in HUNT there is none. -/
def State.losePartial (s : State) (h : HeadNo) : State :=
  if (s.link h).rx.state = .hunt then s else (s.huntAgain h).raise .linkFault

/-- R151: the gap timer expires, if it runs. -/
def State.gapExpiry (s : State) (h : HeadNo) : State :=
  if (s.link h).rx.gapRunning then s.losePartial h else s

/-- R156: the answer in transmission leaves the queue as its last stop bit ends. -/
def State.answerSent (s : State) (h : HeadNo) : State :=
  match (s.link h).tx with
  | [] => s
  | a :: rest => s.onLink h (fun l => { l with tx := rest, line := a.frame })

end Sys2Proof.Machine
end

