-- ==== Sys2Proof/Machine/LinkRows.lean ====
section
/-! DEFINITION. The meanings of the head links' rows (spec 09). The rows of whole frames stand for the
frame's arrival, after which the receiver is in HUNT; HEAD_LINK_BYTE builds the same frames byte by byte
(log entry 4). -/

namespace Sys2Proof.Machine

/-- R131, R129, R150: a good PROBE frame arrives. -/
def execProbe (head : HeadNo) (tag : Byte) (row col : Word) (s : State) : Result :=
  .next ((s.huntAgain head).requestArrives head (requestOf .probe tag row.toNat col.toNat 0))

/-- R132, R83, R129, R150: a good REPORT frame arrives. -/
def execReport (head : HeadNo) (tag : Byte) (row col depth : Word) (s : State) : Result :=
  .next ((s.huntAgain head).requestArrives head (requestOf .report tag row.toNat col.toNat depth.toNat))

/-- R108, R132, R129, R150: a good RELEASE frame arrives. -/
def execRelease (head : HeadNo) (tag : Byte) (row col : Word) (s : State) : Result :=
  .next ((s.huntAgain head).requestArrives head (requestOf .release tag row.toNat col.toNat 0))

/-- R157, R158, R111: a good LINK RESET frame arrives. -/
def execLinkReset (head : HeadNo) (s : State) : Result := .next ((s.huntAgain head).linkReset head)

/-- R148. -/
def execFramingError (head : HeadNo) (s : State) : Result := .next (s.losePartial head)

/-- R149: only a KIND byte that is none of the four is unknown. -/
def execUnknownKind (head : HeadNo) (kind : Byte) (s : State) : Result :=
  .next (if (bytesAfterKind kind).isNone then s.badFrame head else s)

/-- R150. -/
def execBadFrame (head : HeadNo) (s : State) : Result := .next (s.badFrame head)

/-- R151. -/
def execGapTimerExpiry (head : HeadNo) (s : State) : Result := .next (s.gapExpiry head)

/-- R156. -/
def execAnswerTransmitted (head : HeadNo) (s : State) : Result := .next (s.answerSent head)

/-- R148 to R150. -/
def execHeadLinkByte (head : HeadNo) (value : Byte) (s : State) : Result := .next (s.linkByte head value)

end Sys2Proof.Machine
end

