-- ==== Sys2Proof/Machine/TimeRows.lean ====
section
/-! DEFINITION. The meanings of the rows of time: TIME_BASE_TICK, STALL_ENTRY, HOLD_TIMER_EXPIRY,
INDEX_PULSE (spec 08; R112). STALL_ENTRY and HOLD_TIMER_EXPIRY are the parts of a tick that bring one head's
counter or timer to its end; TIME_BASE_TICK makes them too (log entry 6). -/

namespace Sys2Proof.Machine

/-- R112. -/
def execHoldTimerExpiry (head : HeadNo) (s : State) : Result :=
  .next (if s.holdAtBrink head then s.holdExpiry head else s)

/-- R140 to R143. -/
def execIndexPulse (head : HeadNo) (s : State) : Result := .next (s.onMonitor head LoadMonitor.pulse)

/-- R139. -/
def execStallEntry (head : HeadNo) (s : State) : Result :=
  .next (if (s.monitor head).atBrink then s.stallEntry head else s)

/-- R135, R139, R112. -/
def execTimeBaseTick (s : State) : Result := .next s.tick

end Sys2Proof.Machine
end

