-- ==== Sys2Proof/Machine/Allowance.lean ====
section
/-! DEFINITION. The allowance computation and the store unit of a PROBE (spec 04; R26 and R122). -/

namespace Sys2Proof.Machine

/-- R9: the band of a cell row of a copy: the highest-numbered band whose start row is at or below it. -/
def State.bandOf (s : State) (y : CopyNo) (row : Nat) : Fin 8 :=
  (([7, 6, 5, 4, 3, 2, 1] : List (Fin 8)).find? (fun b => decide ((s.band y b).start ≤ row))).getD 0

/-- R124: the wear offset. -/
def HeadUnit.wearOffset (hu : HeadUnit) : Nat := hu.wear / 256

/-- R70: the class limit of a tool at a cell; natural subtraction gives the 0 of a negative result. -/
def classLimit (tool : ToolClass) (cr : CopyRecord) (c : Cell) : Nat :=
  match tool with
  | .finish => c.target
  | .rough => if c.fence then c.target - max cr.roughAllow cr.fenceAllow else c.target - cr.roughAllow

/-- R72: derating applies where P0 is above 0, the state is VALID and P exceeds P0. -/
def LoadMonitor.derates (m : LoadMonitor) : Bool :=
  decide (0 < m.curP0) && decide (m.state = .valid) && decide (m.curP0 < m.lastP)

/-- R72 to R75: the step that the spindle's load leaves of S_max, or none where the probe is answered
STALL. -/
def deratedStep (stepMax : Nat) (m : LoadMonitor) : Option Nat :=
  if m.state = .stalled then none
  else if m.derates then
    if 4 * m.curP0 ≤ m.lastP then none else some (max 1 (stepMax * m.curP0 / m.lastP))
  else some stepMax

/-- R78, R79: the dwell of a CUT answer. -/
def cutDwell (b : BandRecord) (m : LoadMonitor) : Nat :=
  match b.dwellMode with
  | .none => 0
  | .fixed => b.dwell
  | .load =>
    if m.state = .valid ∧ 0 < m.curP0 ∧ m.curP0 + m.curP0 / 8 < m.lastP then b.dwell else 0

/-- What the Allowance Unit hands to the head unit (R67). -/
structure Verdict where
  status : Status
  value : Nat
  dwell : Nat
  deriving DecidableEq, Repr

/-- R68 to R79: the answer to a probe from the inputs of R66. -/
def probeVerdict (tileDone : Bool) (c : Cell) (cr : CopyRecord) (b : BandRecord) (hu : HeadUnit)
    (m : LoadMonitor) : Verdict :=
  let w := hu.wearOffset
  if tileDone || c.finished cr.finishTol then { status := .done, value := c.cut + w, dwell := 0 }
  else
    match deratedStep b.stepMax m with
    | none => { status := .stall, value := 0, dwell := 0 }
    | some step =>
      let depth := min (c.cut + step) (classLimit hu.toolClass cr c)
      if depth ≤ c.cut then { status := .atLimit, value := c.cut + w, dwell := 0 }
      else { status := .cut, value := depth + w, dwell := cutDwell b m }

/-- The band record of cell `c` of a tile, as it stands (R9, R66). -/
def State.bandRecord (s : State) (k : TileKey) (c : Nat) : BandRecord :=
  s.band k.copy (s.bandOf k.copy (cellRow k c))

/-- R26: the entry of a request that has presented key `k`, unless it has been removed since. An entry that
is FILLING is a later one under the same key. -/
def State.requestEntry (s : State) (o : Outstanding) (k : TileKey) : Option Entry :=
  if o.orphaned then none
  else
    match s.entry k with
    | none => none
    | some e => if e.state = .filling then none else some e

/-- R65, R122: the service of a probe on an entry found LIVE or DONE, and claimed where it must be. -/
def State.serveProbe (s : State) (h : HeadNo) (o : Outstanding) (e : Entry) : State :=
  if (s.head h).state = .unbound then s.endRequest h .unbound 0 0
  else
    let c := cellIndex o.req.row o.req.col
    let v := probeVerdict (decide (e.state = .done)) (s.cell e c) (s.copy e.key.copy) (s.bandRecord e.key c)
      (s.head h) (s.monitor h)
    s.endRequest h v.status v.value v.dwell

/-- R26, R60, R122: a unit that finds its entry COPYING parks the request in copy wait, or answers it UNBOUND
if its head has been unbound; a request carried on after LINK RESET ends (R158). -/
def State.meetCopying (s : State) (h : HeadNo) (o : Outstanding) : State :=
  if o.silent || decide ((s.head h).state = .unbound) then s.endRequest h .unbound 0 0 else s.parkCopy h

/-- R26: what a unit does by the re-check of its entry; `serve` is the service of the request's kind. -/
def State.recheck (s : State) (h : HeadNo) (o : Outstanding) (k : TileKey)
    (serve : State → HeadNo → Outstanding → Entry → State) : State :=
  match s.requestEntry o k with
  | none => s.endRequest h .notLoaded 0 0
  | some e =>
    if e.state = .copying then s.meetCopying h o
    else if e.state = .live ∧ (s.copy k.copy).shared = true ∧ e.owner ≠ some h then s.claimStep h k
    else serve s h o e

/-- R65: the whole store unit of a PROBE that holds the grant, up to the next grant. DESIGN CHOICE (log entry 20):
the buffered request that follows the answer, and a head to which its claim step hands a claim, present their
accesses before the next grant is decided. -/
def State.probeUnit (s : State) (h : HeadNo) (o : Outstanding) (k : TileKey) : State :=
  ((s.recheck h o k State.serveProbe).settle h).endUnit (.hu h)

end Sys2Proof.Machine
end

