-- ==== Sys2Proof/Machine/Report.lean ====
section
/-! DEFINITION. The recording of a REPORT within its store unit, and the Violation Hold (spec 05). -/

namespace Sys2Proof.Machine

/-- R87: the wear accumulator after `removed` DU at rate `k`. -/
def grownWear (wear removed k : Nat) : Nat := min (wear + removed * k) Config.maxWear

/-- R88: the head, grown in wear, has just reached its wear limit. -/
def HeadUnit.reachesLimit (hu : HeadUnit) : Bool :=
  decide (0 < hu.wearLimit) && !hu.worn && decide (hu.wearLimit ≤ hu.wearOffset)

/-- R87, R88: the wear of a recorded report, and the worn condition after it. -/
def State.growWear (s : State) (h : HeadNo) (removed k : Nat) : State :=
  let s1 := s.onHead h (fun hu => { hu with wear := grownWear hu.wear removed k })
  if (s1.head h).reachesLimit then (s1.onHead h (fun hu => { hu with worn := true })).raise .worn else s1

/-- R91: the violation that a recorded depth makes, if any. -/
def violationOf (r limit target overTol : Nat) : Option ViolationKind :=
  if target + overTol < r then some .surface
  else if limit + overTol < r then some .allowance
  else none

/-- R94: an empty hold captures a violation; a full one counts it, up to 255. -/
def State.noteViolation (s : State) (v : Violation) : State :=
  match s.hold.record with
  | none => { s with hold := { s.hold with record := some v } }.raise .violation
  | some _ => { s with hold := { s.hold with count := min (s.hold.count + 1) Config.maxViolations } }

/-- R92, R122: a violation halts its head; an UNBOUND head stays UNBOUND. -/
def HeadUnit.haltByViolation (hu : HeadUnit) : HeadUnit :=
  if hu.state = .unbound then hu else { hu with state := .halted }

/-- R30, R31: a LIVE entry whose remaining count has reached 0 enters DONE. -/
def State.finishIfNone (s : State) (k : TileKey) : State :=
  match s.entry k with
  | none => s
  | some e =>
    if e.state = .live ∧ e.remaining = 0 then (s.onEntry k (fun x => { x with state := .done })).enterDone k
    else s

/-- The cell after a recorded report of depth `r` (R86, R89). -/
def Cell.recorded (c : Cell) (r overTol : Nat) : Cell :=
  { c with cut := r, overcut := c.overcut || decide (c.target + overTol < r) }

/-- The entry's counts after a recorded report that turned cell `old` into `new` (R89, R90). -/
def Entry.countReport (e : Entry) (old new : Cell) (finishTol : Nat) : Entry :=
  { e with
    overcut := if new.overcut && !old.overcut then e.overcut + 1 else e.overcut
    remaining := if new.finished finishTol && !old.finished finishTol then e.remaining - 1 else e.remaining }

/-- R86: the effects of a recorded report but for its answer. -/
def State.record (s : State) (h : HeadNo) (o : Outstanding) (e : Entry) : State :=
  let c := cellIndex o.req.row o.req.col
  let old := s.cell e c
  let cr := s.copy e.key.copy
  let r := o.req.depth
  let new := old.recorded r cr.overTol
  let limit := classLimit (s.head h).toolClass cr old
  let s1 := s.onCell e c (fun _ => new)
  let s2 := s1.growWear h (r - old.cut) (s.bandRecord e.key c).wearRate
  let s3 := (s2.onEntry e.key (fun x => x.countReport old new cr.finishTol)).finishIfNone e.key
  match violationOf r limit old.target cr.overTol with
  | none => s3
  | some kind =>
    (s3.noteViolation { head := h, tile := e.key, cell := c, reached := r, limit := limit, kind := kind }).onHead h
      HeadUnit.haltByViolation

/-- R85, R86: the service of a report on an entry found LIVE or DONE, and claimed where it must be. -/
def State.serveReport (s : State) (h : HeadNo) (o : Outstanding) (e : Entry) : State :=
  let c := cellIndex o.req.row o.req.col
  let old := s.cell e c
  let cr := s.copy e.key.copy
  if o.req.depth ≤ old.cut then s.endRequest h .kept old.cut 0
  else
    match violationOf o.req.depth (classLimit (s.head h).toolClass cr old) old.target cr.overTol with
    | none => (s.record h o e).endRequest h .recorded o.req.depth 0
    | some _ => (s.record h o e).endRequest h .overcut o.req.depth 0

/-- R111, R158: at the end of the unit of a report carried on after LINK RESET, the claim on its tile is
released, unless the request goes on to a later unit. -/
def State.releaseCarriedOn (s : State) (h : HeadNo) (o : Outstanding) (k : TileKey) : State :=
  if o.silent && (s.head h).outstanding.isNone && decide (s.ownerOf k = some h) then s.release h k else s

/-- R86: the whole store unit of a REPORT that holds the grant, up to the next grant. DESIGN CHOICE (log entry 20):
the claim of a report carried on is released first, then the buffered request follows, and the next grant is
decided after both. -/
def State.reportUnit (s : State) (h : HeadNo) (o : Outstanding) (k : TileKey) : State :=
  (((s.recheck h o k State.serveReport).releaseCarriedOn h o k).settle h).endUnit (.hu h)

end Sys2Proof.Machine
end

