-- ==== Sys2Proof/Machine/UnitRows.lean ====
section
/-! DEFINITION. The meanings of the store units (R20): each is one whole unit of the requester that holds the
grant, up to the next grant (R19); where another holds it, or the unit is another's, nothing happens (log
entries 2 and 5). -/

namespace Sys2Proof.Machine

/-- R17, R27. -/
def execTileOpenUnit (s : State) : Result :=
  .next (s.portUnitStep (fun u => match u with | .tileOpen k => some (s.tileOpenUnit k) | _ => none))

/-- R46, R45. -/
def execTargetWriteValue (s : State) : Result :=
  .next (s.portUnitStep (fun u =>
    match u with | .targetValue d => some (s.streamUnit (fun c => { c with target := d })) | _ => none))

/-- R47, R45. -/
def execCutWriteValue (s : State) : Result :=
  .next (s.portUnitStep (fun u =>
    match u with | .cutValue d => some (s.streamUnit (fun c => { c with cut := d })) | _ => none))

/-- R49. -/
def execFillUnit (s : State) : Result :=
  .next (s.portUnitStep (fun u => match u with | .fill d => some (s.fillUnit d) | _ => none))

/-- R28. -/
def execTileSealUnit (s : State) : Result :=
  .next (s.portUnitStep (fun u => match u with | .tileSeal => some s.tileSealUnit | _ => none))

/-- R50, R51. -/
def execFenceWriteUnit (s : State) : Result :=
  .next (s.portUnitStep (fun u =>
    match u with | .fenceWrite k rows => some (s.fenceWriteUnit k rows) | _ => none))

/-- R52, R53. -/
def execTileEditUnit (s : State) : Result :=
  .next (s.portUnitStep (fun u =>
    match u with | .tileEdit k c d => some (s.tileEditUnit k c d) | _ => none))

/-- R54, R55. -/
def execTileReadUnit (s : State) : Result :=
  .next (s.portUnitStep (fun u => match u with | .tileRead k f => some (s.tileReadUnit k f) | _ => none))

/-- A head's unit runs where the head holds the grant and its outstanding request, of the right kind, is in
service with a key presented. -/
def State.headUnitStep (s : State) (h : HeadNo) (kind : RequestKind)
    (run : State → HeadNo → Outstanding → TileKey → State) : State :=
  match (s.head h).outstanding with
  | none => s
  | some o =>
    match o.key with
    | none => s
    | some k =>
      if s.arb.granted = some (.hu h) ∧ o.wait = .inService ∧ o.req.kind = kind then run s h o k else s

/-- R65, R26. -/
def execProbeUnit (head : HeadNo) (s : State) : Result := .next (s.headUnitStep head .probe State.probeUnit)

/-- R86, R26. -/
def execReportUnit (head : HeadNo) (s : State) : Result := .next (s.headUnitStep head .report State.reportUnit)

/-- R59, R63. -/
def execCopyTransfer (s : State) : Result :=
  match s.engine.job, s.arb.granted with
  | some job, some .ce => .next (s.copyUnit job)
  | _, _ => .next s

end Sys2Proof.Machine
end

