-- ==== Sys2Proof/Machine/Dispatch.lean ====
section
/-! DEFINITION. One arm per command: each calls its meaning. -/

namespace Sys2Proof.Machine

def exec (i : Instr) (s : State) : Host.Outcome State Fault Refusal :=
  match i with
  | .hardwareReset => Sys2Proof.Machine.execHardwareReset s
  | .cpByte line value begunEarly => Sys2Proof.Machine.execCpByte line value begunEarly s
  | .chipSelectBreak bits => Sys2Proof.Machine.execChipSelectBreak bits s
  | .parameterByte => Sys2Proof.Machine.execParameterByte s
  | .unknownCommand => Sys2Proof.Machine.execUnknownCommand s
  | .resultRead => Sys2Proof.Machine.execResultRead s
  | .statusRead => Sys2Proof.Machine.execStatusRead s
  | .ack => Sys2Proof.Machine.execAck s
  | .attnSetup => Sys2Proof.Machine.execAttnSetup s
  | .clearWork => Sys2Proof.Machine.execClearWork s
  | .timebase => Sys2Proof.Machine.execTimebase s
  | .copySetup => Sys2Proof.Machine.execCopySetup s
  | .bandBounds => Sys2Proof.Machine.execBandBounds s
  | .bandSet => Sys2Proof.Machine.execBandSet s
  | .copyQuery => Sys2Proof.Machine.execCopyQuery s
  | .headBind => Sys2Proof.Machine.execHeadBind s
  | .headUnbind => Sys2Proof.Machine.execHeadUnbind s
  | .toolSet => Sys2Proof.Machine.execToolSet s
  | .spindleSet => Sys2Proof.Machine.execSpindleSet s
  | .headHalt => Sys2Proof.Machine.execHeadHalt s
  | .headResume => Sys2Proof.Machine.execHeadResume s
  | .stepMode => Sys2Proof.Machine.execStepMode s
  | .headStep => Sys2Proof.Machine.execHeadStep s
  | .headQuery => Sys2Proof.Machine.execHeadQuery s
  | .tileOpen => Sys2Proof.Machine.execTileOpen s
  | .tileOpenUnit => Sys2Proof.Machine.execTileOpenUnit s
  | .window => Sys2Proof.Machine.execWindow s
  | .targetWrite => Sys2Proof.Machine.execTargetWrite s
  | .targetWriteValue => Sys2Proof.Machine.execTargetWriteValue s
  | .cutWrite => Sys2Proof.Machine.execCutWrite s
  | .cutWriteValue => Sys2Proof.Machine.execCutWriteValue s
  | .fill => Sys2Proof.Machine.execFill s
  | .fillUnit => Sys2Proof.Machine.execFillUnit s
  | .tileSeal => Sys2Proof.Machine.execTileSeal s
  | .tileSealUnit => Sys2Proof.Machine.execTileSealUnit s
  | .fenceWrite => Sys2Proof.Machine.execFenceWrite s
  | .fenceWriteUnit => Sys2Proof.Machine.execFenceWriteUnit s
  | .tileEdit => Sys2Proof.Machine.execTileEdit s
  | .tileEditUnit => Sys2Proof.Machine.execTileEditUnit s
  | .tileRetire => Sys2Proof.Machine.execTileRetire s
  | .tileDuplicate => Sys2Proof.Machine.execTileDuplicate s
  | .claimBreak => Sys2Proof.Machine.execClaimBreak s
  | .tileQuery => Sys2Proof.Machine.execTileQuery s
  | .tileRead => Sys2Proof.Machine.execTileRead s
  | .tileReadUnit => Sys2Proof.Machine.execTileReadUnit s
  | .nextDone => Sys2Proof.Machine.execNextDone s
  | .violationRead => Sys2Proof.Machine.execViolationRead s
  | .violationClear => Sys2Proof.Machine.execViolationClear s
  | .probe head tag row col => Sys2Proof.Machine.execProbe head tag row col s
  | .report head tag row col depth => Sys2Proof.Machine.execReport head tag row col depth s
  | .release head tag row col => Sys2Proof.Machine.execRelease head tag row col s
  | .linkReset head => Sys2Proof.Machine.execLinkReset head s
  | .probeUnit head => Sys2Proof.Machine.execProbeUnit head s
  | .reportUnit head => Sys2Proof.Machine.execReportUnit head s
  | .holdTimerExpiry head => Sys2Proof.Machine.execHoldTimerExpiry head s
  | .copyTransfer => Sys2Proof.Machine.execCopyTransfer s
  | .indexPulse head => Sys2Proof.Machine.execIndexPulse head s
  | .stallEntry head => Sys2Proof.Machine.execStallEntry head s
  | .framingError head => Sys2Proof.Machine.execFramingError head s
  | .unknownKind head kind => Sys2Proof.Machine.execUnknownKind head kind s
  | .badFrame head => Sys2Proof.Machine.execBadFrame head s
  | .gapTimerExpiry head => Sys2Proof.Machine.execGapTimerExpiry head s
  | .answerTransmitted head => Sys2Proof.Machine.execAnswerTransmitted head s
  | .timeBaseTick => Sys2Proof.Machine.execTimeBaseTick s
  | .headLinkByte head value => Sys2Proof.Machine.execHeadLinkByte head value s

end Sys2Proof.Machine
end

