-- ==== Sys2Proof/Safety.lean ====
section
/-! DEFINITION. What counts as a safe step, the words in which the statements speak of a command's own step
(the decoder's step, a store unit that holds the grant), and the invariants of the CM8. -/

namespace Sys2Proof.Safety

open Sys2Proof.Machine

/-- A step that stops with neither a fault nor a refusal. -/
def SafeStep (r : Host.Outcome State Fault Refusal) : Prop := ∃ t, r = .next t

/-- A predicate of states that every command keeps. -/
def KeptByEveryStep (inv : State → Prop) : Prop :=
  ∀ s t, inv s → step s = .next t → inv t

/-! ## The decoder's step (R162) -/

/-- The row of a host command. -/
def rowOf (c : Command) : Instr :=
  match c with
  | .resultRead => .resultRead
  | .statusRead => .statusRead
  | .ack => .ack
  | .attnSetup => .attnSetup
  | .clearWork => .clearWork
  | .timebase => .timebase
  | .copySetup => .copySetup
  | .bandBounds => .bandBounds
  | .bandSet => .bandSet
  | .copyQuery => .copyQuery
  | .headBind => .headBind
  | .headUnbind => .headUnbind
  | .toolSet => .toolSet
  | .spindleSet => .spindleSet
  | .headHalt => .headHalt
  | .headResume => .headResume
  | .stepMode => .stepMode
  | .headStep => .headStep
  | .headQuery => .headQuery
  | .tileOpen => .tileOpen
  | .window => .window
  | .targetWrite => .targetWrite
  | .cutWrite => .cutWrite
  | .fill => .fill
  | .tileSeal => .tileSeal
  | .fenceWrite => .fenceWrite
  | .tileEdit => .tileEdit
  | .tileRetire => .tileRetire
  | .tileDuplicate => .tileDuplicate
  | .claimBreak => .claimBreak
  | .tileQuery => .tileQuery
  | .tileRead => .tileRead
  | .nextDone => .nextDone
  | .violationRead => .violationRead
  | .violationClear => .violationClear

/-- The decoder is free, no overrun waits to be treated, and byte `b` stands at the front of the intake
queue with `rest` behind it (R162, R163). -/
def DecoderTakes (s : State) (b : IntakeByte) (rest : List IntakeByte) : Prop :=
  s.port.unit = none ∧ s.port.overrun = false ∧ s.port.intake = b :: rest

/-- The decoder takes the command byte of `c`, and no command is still taking its bytes; `followed` says that
a later command byte has completed on the wire (R167). -/
def TakesCode (s : State) (c : Command) (followed : Bool) (rest : List IntakeByte) : Prop :=
  DecoderTakes s { line := .command, value := c.row.code, followed := followed } rest ∧
    s.port.phase ≠ .receiving

/-- The decoder takes a parameter byte of the current command `c` that completes a parameter, after which the
parameters taken are `vals`: a one-byte parameter, or the second byte of a two-byte one. -/
def TakesParameter (s : State) (c : Command) (vals : List Nat) (rest : List IntakeByte) : Prop :=
  s.port.current = .known c ∧ s.port.phase = .receiving ∧
    ∃ value followed, DecoderTakes s { line := .parameter, value := value, followed := followed } rest ∧
      ((c.nextWidth s.port.values.length ≠ 2 ∧ vals = s.port.values ++ [value.toNat]) ∨
        (c.nextWidth s.port.values.length = 2 ∧
          ∃ hi, s.port.half = some hi ∧ vals = s.port.values ++ [joinBytes hi value]))

/-- The port after a command byte of `c` has been taken (R162). -/
def tookCode (s : State) (c : Command) (phase : Phase) (followed : Bool) (rest : List IntakeByte) : State :=
  { s with port := { s.port with
      intake := rest, current := .known c, phase := phase, followed := followed, values := [], half := none } }

/-- The port after the parameters `vals` of the current command have been taken (R162). -/
def tookParameter (s : State) (phase : Phase) (vals : List Nat) (rest : List IntakeByte) : State :=
  { s with port := { s.port with intake := rest, phase := phase, values := vals, half := none } }

/-- The state with a RESULT code (R169). -/
def withResult (s : State) (r : ResultCode) : State := { s with port := { s.port with result := r } }

/-- The state after a refusal: the code in RESULT, and CMD_REFUSED set (R169, R175). -/
def refusedWith (s : State) (r : ResultCode) : State :=
  { s with port := { s.port with result := r }, attn := s.attn.raise .cmdRefused }

/-- The state with a reply latched; it is readable unless a later command byte has completed on the wire
(R167). -/
def withReply (s : State) (bytes : List Byte) : State :=
  { s with port := { s.port with reply := bytes, readIndex := 0, readable := !s.port.followed } }

/-- The state after the current command `d` has been ended by a command byte (R165 to R167). -/
def endedBy (s : State) (d : Command) : State :=
  let s1 := { s with port := { s.port with phase := .complete } }
  match d.row.cls with
  | .setting => withResult s1 .ok
  | .stream => s1
  | .action => refusedWith s1 .truncated
  | .read => refusedWith s1 .truncated

/-- The state after the decoder has treated an intake overrun (R163). -/
def overrunTreated (s : State) : State :=
  refusedWith
    { s with port := { s.port with
        overrun := false, current := .none, phase := .complete, followed := false, values := [], half := none } }
    .truncated

/-- The Command Port's unit `u` holds the store's grant (R19, R20). -/
def PortUnitGranted (s : State) (u : PortUnit) : Prop :=
  s.port.unit = some u ∧ s.arb.granted = some .cp

/-- The state after the Command Port has presented a unit: granted at once if the store is free (R19, R21). -/
def presentedUnit (s : State) (u : PortUnit) : State :=
  { s with
    port := { s.port with unit := some u }
    arb := { s.arb with granted := if s.arb.granted.isNone then some .cp else s.arb.granted } }

/-- The state after the Command Port's unit has ended: the grant goes to the next requester in the ring
(R19, R21). -/
def endedPortUnit (s : State) : State :=
  let s1 := { s with port := { s.port with unit := none } }
  { s1 with arb := { last := .cp, granted := s1.nextGrant .cp } }

/-- The head's outstanding request `o`, of key `k`, holds the store's grant (R19, R20). -/
def HeadUnitGranted (s : State) (h : HeadNo) (o : Outstanding) (k : TileKey) : Prop :=
  (s.head h).outstanding = some o ∧ o.wait = .inService ∧ o.key = some k ∧ s.arb.granted = some (.hu h)

/-- The requesters in the order in which the arbiter considers them after `r` (R19). -/
def ringFrom (r : Requester) : List Requester :=
  let ring : List Requester := [.hu 0, .hu 1, .hu 2, .hu 3, .hu 4, .hu 5, .hu 6, .hu 7, .cp, .ce]
  ring.drop (r.ringIndex + 1) ++ ring.take (r.ringIndex + 1)

/-! ## The head units -/

/-- The state after the receiver of the head's link has returned to HUNT (R150). -/
def hunting (s : State) (h : HeadNo) : State :=
  { s with links := Bank.put s.links h { s.link h with rx := Receiver.reset } }

/-- The state after answers have been placed at the end of the head's transmit queue (R155). -/
def sent (s : State) (h : HeadNo) (answers : List Answer) : State :=
  { s with links := Bank.put s.links h { s.link h with tx := (s.link h).tx ++ answers } }

/-- An answer with value 0 and dwell 0. -/
def plain (tag : Byte) (status : Status) : Answer := { tag := tag, status := status, value := 0, dwell := 0 }

/-- The state with a change made in one head unit. -/
def withHead (s : State) (h : HeadNo) (hu : HeadUnit) : State := { s with heads := Bank.put s.heads h hu }

/-- The state after the head's outstanding request `o` has ended: with an answer of its tag in the transmit
queue, or without one if it is carried on after LINK RESET (R129, R155, R158). -/
def answered (s : State) (h : HeadNo) (o : Outstanding) (status : Status) (value dwell : Nat) : State :=
  let s1 := withHead s h { s.head h with outstanding := none }
  if o.silent then s1 else sent s1 h [{ tag := o.req.tag, status := status, value := value, dwell := dwell }]

/-- The state after the head's outstanding request has gone to the store arbiter: granted at once if the store
is free (R19, R129). -/
def onItsWay (s : State) (h : HeadNo) : State :=
  { withHead s h { s.head h with
      outstanding := (s.head h).outstanding.map (fun o => { o with wait := .inService }) } with
    arb := { s.arb with granted := if s.arb.granted.isNone then some (.hu h) else s.arb.granted } }

/-- The state after the head's unit has ended: a buffered request follows (R129), and the grant goes to the
next requester in the ring (R19). That the grant is decided last is the model's choice (log entry 20). -/
def afterHeadUnit (s : State) (h : HeadNo) : State :=
  let t := s.settle h
  { t with arb := { last := .hu h, granted := t.nextGrant (.hu h) } }

/-- R103: the chain of claim waits from head `g` leads to head `h`. -/
inductive ChainLeads (s : State) (h : HeadNo) : HeadNo → Prop
  | link (g : HeadNo) (o : Outstanding) (k : TileKey) :
      (s.head g).outstanding = some o → o.wait = .claim → o.key = some k → s.ownerOf k = some h → ChainLeads s h g
  | next (g n : HeadNo) (o : Outstanding) (k : TileKey) :
      (s.head g).outstanding = some o → o.wait = .claim → o.key = some k → s.ownerOf k = some n →
      ChainLeads s h n → ChainLeads s h g

/-- R2: cell row and cell column name cell `c` of the tile `k`. -/
def NamesCell (row col : Nat) (k : TileKey) (c : Nat) : Prop :=
  row = k.row.val * 8 + c / 8 ∧ col = k.col.val * 8 + c % 8 ∧ c < 64

/-- R9: band `b` of the copy takes the cell row. -/
def BandTakes (s : State) (y : CopyNo) (row : Nat) (b : Fin 8) : Prop :=
  (s.band y b).start ≤ row ∧ ∀ b' : Fin 8, b < b' → row < (s.band y b').start

/-- R70: the class limit, Tg for a FINISH tool and Tg less the allowance, at least 0, for a ROUGH one. -/
def classBound (tool : ToolClass) (cr : CopyRecord) (c : Cell) : Nat :=
  if tool = .finish then c.target
  else if c.fence then c.target - max cr.roughAllow cr.fenceAllow
  else c.target - cr.roughAllow

/-! ## Invariants -/

/-- The Tile Store keeps its canonical form. -/
def StoreCanonical (s : State) : Prop := s.store.wf = true

/-- R1: a store unit of the Command Port carries a clamped depth. -/
def unitDepth (u : PortUnit) : Nat :=
  match u with
  | .targetValue d => d
  | .cutValue d => d
  | .fill d => d
  | .tileEdit _ _ d => d
  | .tileOpen _ => 0
  | .tileSeal => 0
  | .fenceWrite _ _ => 0
  | .tileRead _ _ => 0

/-- R1: every depth in the Tile Store, and every depth on its way there, is 0 to 16383. -/
def DepthsInRange (s : State) : Prop :=
  (∀ p ∈ s.store, p.2.target ≤ Config.maxDepth ∧ p.2.cut ≤ Config.maxDepth) ∧
  (∀ u ∈ s.port.unit, unitDepth u ≤ Config.maxDepth) ∧
  (∀ h : HeadNo, ∀ o ∈ (s.head h).outstanding, o.req.depth ≤ Config.maxDepth) ∧
  (∀ h : HeadNo, ∀ r ∈ (s.head h).buffer, r.depth ≤ Config.maxDepth)

/-- R17, R24: each of the 128 slots is named by one entry or stands once in the pool. -/
def SlotsAccounted (s : State) : Prop :=
  (s.dir.map (fun e => e.slot) ++ s.freeSlots).Perm (List.range Config.slots)

/-- R23: no two entries have the same key. -/
def KeysDistinct (s : State) : Prop := (s.dir.map (fun e => e.key)).Nodup

/-- R117, R118, R129: the bound copy is present exactly while the head is ACTIVE or HALTED, the wear record
is in range, and a buffered request stands behind one in service. -/
def HeadsInOrder (s : State) : Prop :=
  ∀ h : HeadNo,
    ((s.head h).boundCopy.isSome = true ↔ (s.head h).state ≠ .unbound) ∧
    (s.head h).wear ≤ Config.maxWear ∧ (s.head h).wearLimit ≤ Config.maxWearLimit ∧
    ((s.head h).buffer.isSome = true → (s.head h).inService = true)

/-- R93: an empty Violation Hold has a count of 0, and the count is 0 to 255. -/
def HoldInOrder (s : State) : Prop :=
  (s.hold.record = none → s.hold.count = 0) ∧ s.hold.count ≤ Config.maxViolations

/-- R41: the window is well formed and the write pointer stands inside it. -/
def WindowInOrder (s : State) : Prop :=
  s.load.firstRow ≤ s.load.ptrRow ∧ s.load.ptrRow ≤ s.load.lastRow ∧ s.load.lastRow ≤ 7 ∧
  s.load.firstCol ≤ s.load.ptrCol ∧ s.load.ptrCol ≤ s.load.lastCol ∧ s.load.lastCol ≤ 7

/-- R135, R137: the ranges of a load monitor; an open window has not saturated, and a VALID period is at
least 1. -/
def MonitorInOrder (m : LoadMonitor) : Prop :=
  m.counter ≤ 65535 ∧ (m.opened = true → m.counter ≤ 65534) ∧ m.lastP ≤ 65534 ∧
  (m.state = .valid → 1 ≤ m.lastP) ∧ 1 ≤ m.curN ∧ m.curN ≤ 64 ∧ 1 ≤ m.pendN ∧ m.pendN ≤ 64 ∧
  m.index < m.curN ∧ (m.running = false → m.pendFlag = false)

/-- R135, R137, R138: the ranges of the Time Base and of every load monitor, and a monitor runs exactly while
its head is bound. -/
def SpindlesInOrder (s : State) : Prop :=
  s.timebase ≤ 7 ∧ ∀ h : HeadNo, MonitorInOrder (s.monitor h) ∧
    ((s.monitor h).running = true ↔ (s.head h).state ≠ .unbound)

/-- R148, R149: in HUNT no bytes are held and the gap timer is stopped; in KIND the sum is 0; in BODY the
bytes held and the bytes expected make up the frame of the KIND taken, and the sum is that of the bytes. -/
def ReceiverInOrder (rx : Receiver) : Prop :=
  match rx.state with
  | .hunt => rx = Receiver.reset
  | .kind => rx = { Receiver.reset with state := .kind, gapRunning := true }
  | .body =>
    rx.gapRunning = true ∧ 1 ≤ rx.expected ∧
      bytesAfterKind rx.kind = some (rx.payload.length + rx.expected) ∧
      rx.sum = byteSum (rx.kind :: rx.payload)

/-- R148, R149. -/
def LinksInOrder (s : State) : Prop := ∀ h : HeadNo, ReceiverInOrder (s.link h).rx

/-- R162, R167, R168: the intake queue holds at most 16 bytes, the read index does not pass the reply's end,
a partial byte has at most 7 bits, and a command still taking its bytes has a parameter left, each parameter
taken being as wide as the command table gives. -/
def PortInOrder (s : State) : Prop :=
  s.port.intake.length ≤ Config.intakeDepth ∧ s.port.readIndex ≤ s.port.reply.length ∧
  s.port.bitCount ≤ 7 ∧
  ∀ c : Command, s.port.current = .known c →
    (s.port.phase = .receiving → c.row.cls ≠ .stream → s.port.values.length < c.row.widths.length) ∧
    (∀ i < s.port.values.length, s.port.values.getD i 0 < 256 ^ (c.row.widths.getD i 1))

/-- R4, R8: the fields of the Copy Table and of the Band Table are in their ranges, and band 0 starts at
row 0. -/
def TablesInRange (s : State) : Prop :=
  PortInOrder s ∧
  (∀ y : CopyNo, (s.copy y).roughAllow ≤ 255 ∧ (s.copy y).fenceAllow ≤ 255 ∧ (s.copy y).finishTol ≤ 63 ∧
    (s.copy y).overTol ≤ 255) ∧
  ∀ (y : CopyNo) (b : Fin 8), (s.band y b).start ≤ 4095 ∧ 1 ≤ (s.band y b).stepMax ∧
    (s.band y b).stepMax ≤ 1023 ∧ (s.band y b).wearRate ≤ 255 ∧ (s.band y b).dwell ≤ 255 ∧
    (s.band y 0).start = 0

/-- An entry is settled while it is LIVE or DONE, or COPYING as the source of a duplication (R29). -/
def Entry.settled (e : Entry) : Bool :=
  match e.state with
  | .live => true
  | .done => true
  | .copying => e.ret.isSome
  | .filling => false

/-- The state an entry stands for: its own, or its return state while it is a source (R33). -/
def Entry.standing (e : Entry) : TileState := e.ret.getD e.state

/-- R29: the counts of an entry are those of its cells, and it stands as DONE exactly when nothing remains. -/
def CountsExact (s : State) (e : Entry) : Prop :=
  e.remaining = s.store.countCells e.slot (fun c => !c.finished (s.copy e.key.copy).finishTol) ∧
  e.overcut = s.store.countCells e.slot (fun c => c.overcut) ∧
  (Entry.standing e = .done ↔ e.remaining = 0) ∧ (Entry.standing e = .done ∨ Entry.standing e = .live)

/-- What the entries, the Load Unit, the Copy Engine and the port say of each other: the open tile is the one
entry in FILLING (R41), the entries of a duplication are those in COPYING (R56), a unit that initialises a
slot is that of the open tile (R27), an edit names one of the 64 cells (R52), and COPY SETUP is taking values
only for a copy without tiles (R5). -/
def DirectoryAgrees (s : State) : Prop :=
  (∀ e ∈ s.dir, e.state = .filling ↔ s.load.openTile = some e.key) ∧
  (∀ k ∈ s.load.openTile, (s.entry k).isSome = true) ∧
  (∀ e ∈ s.dir, e.state = .copying ↔
    ∃ job, s.engine.job = some job ∧ (e.key = job.source ∨ e.key = job.dest)) ∧
  (∀ e ∈ s.dir, e.ret.isSome = true ↔ ∃ job, s.engine.job = some job ∧ e.key = job.source) ∧
  (∀ job ∈ s.engine.job, (s.entry job.source).isSome = true ∧ (s.entry job.dest).isSome = true ∧
    job.source ≠ job.dest ∧ s.engine.next < Config.cellsPerTile ∧
    ∀ e ∈ s.dir, e.key = job.dest → ∀ c < s.engine.next,
      (s.cell e c).cut = 0 ∧ (s.cell e c).overcut = false) ∧
  (∀ k, s.port.unit = some (.tileOpen k) → s.load.openTile = some k) ∧
  (∀ k c d, s.port.unit = some (.tileEdit k c d) → c < Config.cellsPerTile) ∧
  (∀ y : CopyNo, s.port.current = .known .copySetup → s.port.phase = .receiving →
    s.port.values.head? = some y.val → s.hasTiles y = false)

/-- R29, R30, R34: the directory's counts are exact, and the Done Queue holds each key once, and only keys of
entries that stand as DONE. -/
def DirectoryExact (s : State) : Prop :=
  KeysDistinct s ∧ SlotsAccounted s ∧ WindowInOrder s ∧ DirectoryAgrees s ∧
  (∀ e ∈ s.dir, Entry.settled e = true → CountsExact s e) ∧
  s.done.Nodup ∧ ∀ k ∈ s.done, ∃ e ∈ s.dir, e.key = k ∧ Entry.standing e = .done

/-- R99, R104: claims and claim waits agree everywhere: an entry's owner is the head that lists its key, a
head lists at most two keys and none twice, a wait list holds exactly the heads parked in claim wait on its
tile, waiters stand only behind another head's claim, claims stand only on tiles of shared copies that are
LIVE or return to LIVE, and a hold timer runs only for a head in claim wait. -/
def ClaimsAgree (s : State) : Prop :=
  (∀ h : HeadNo, (s.claim h).slots.Nodup ∧ (s.claim h).slots.length ≤ 2 ∧
    (∀ k ∈ (s.claim h).slots, s.ownerOf k = some h) ∧
    ((s.claim h).timer.isSome = true → ∃ o, (s.head h).outstanding = some o ∧ o.wait = .claim) ∧
    ∀ o, (s.head h).outstanding = some o → o.wait = .claim → ∃ k, o.key = some k ∧ h ∈ s.waitersOf k) ∧
  ∀ e ∈ s.dir,
    e.waiters.Nodup ∧
    (∀ h ∈ e.owner, e.key ∈ (s.claim h).slots ∧ h ∉ e.waiters ∧ (s.copy e.key.copy).shared = true ∧
      Entry.standing e = .live) ∧
    (e.owner = none → e.waiters = []) ∧
    ∀ h ∈ e.waiters, ∃ o, (s.head h).outstanding = some o ∧ o.wait = .claim ∧ o.key = some e.key

/-- R56, R60: the copy-wait list holds each head parked in copy wait once, and no other. -/
def CopyWaitAgrees (s : State) : Prop :=
  s.engine.waiting.Nodup ∧
  ∀ h : HeadNo, h ∈ s.engine.waiting ↔ ∃ o, (s.head h).outstanding = some o ∧ o.wait = .copy

/-- R19: the store is free only while no requester waits, and its grant belongs to one that presents an
access. -/
def ArbiterInOrder (s : State) : Prop :=
  match s.arb.granted with
  | none => ∀ r : Requester, s.presents r = false
  | some r => s.presents r = true

end Sys2Proof.Safety
end

