-- ==== Sys2Proof/Certificates/Slice0/Obligations.lean ====
section
/-! DEFINITION. The statements for the provers. Each conclusion that a command completes is an equation
`exec c s = .next t` whose right side is the whole next state, so that it says the result and the frame
together. Values a statement takes from a choice of the model are named in its docstring. -/

open Sys2Proof Sys2Proof.Machine Sys2Proof.Safety

/-! ## The queue of commands and hardware reset -/

/-- A step is the command at the front of the queue, run on the state with the queue's rest; an empty queue
idles (log entry 3: the queue is the model's). -/
def Obligations.StepRunsFrontCommand : Prop :=
  (∀ (c : Instr) (s : State) (rest : List Instr), step { s with pending := c :: rest } = exec c { s with pending := rest }) ∧
  ∀ s : State, s.pending = [] → step s = .next s

/-- No command faults or is refused by the model, and none touches the queue of commands that wait (log
entries 2, 3 and 17). -/
def Obligations.EveryCommandAnswersNext : Prop :=
  ∀ (c : Instr) (s : State), ∃ t, exec c s = .next t ∧ t.pending = s.pending

/-- R173 and the reset rule of each block: hardware reset from any state leaves the state listed; the queue
of commands stays (log entry 3). Only values that the spec states are listed. -/
def Obligations.HardwareResetLeavesResetValues : Prop :=
  ∀ s : State, ∃ t, exec .hardwareReset s = .next t ∧ t.pending = s.pending ∧
    (∀ y : CopyNo, t.copy y = { roughAllow := 0, fenceAllow := 0, finishTol := 0, overTol := 0, shared := false }) ∧
    (∀ y b, t.band y b = { start := 0, stepMax := 16, wearRate := 0, dwellMode := .none, dwell := 0 }) ∧
    t.dir = [] ∧ t.freeSlots.Perm (List.range 128) ∧ t.done = [] ∧ t.arb = { last := .ce, granted := none } ∧
    t.load = { openTile := none, firstRow := 0, lastRow := 7, firstCol := 0, lastCol := 7, ptrRow := 0, ptrCol := 0 } ∧
    t.engine = { job := none, next := 0, waiting := [] } ∧ t.hold = { record := none, count := 0 } ∧
    (∀ h : HeadNo, t.claim h = { slots := [], timer := none }) ∧
    (∀ h : HeadNo, t.head h =
      { state := .unbound, stepMode := false, boundCopy := none, toolClass := .rough, wear := 0, wearLimit := 0,
        worn := false, holdTimeout := 0, outstanding := none, buffer := none }) ∧
    (∀ h : HeadNo, t.monitor h =
      { running := false, state := .arming, opened := false, counter := 0, index := 0, lastP := 0, curN := 1,
        curP0 := 0, pendN := 1, pendP0 := 0, pendFlag := false }) ∧
    t.timebase = 0 ∧
    (∀ h : HeadNo, (t.link h).rx.state = .hunt ∧ (t.link h).rx.payload = [] ∧ (t.link h).rx.gapRunning = false ∧
      (t.link h).tx = []) ∧
    t.port.bitCount = 0 ∧ t.port.intake = [] ∧ t.port.overrun = false ∧ t.port.current = .none ∧
    t.port.values = [] ∧ t.port.half = none ∧ (∀ i, t.port.reply.getD i 0x00 = 0x00) ∧ t.port.readIndex = 0 ∧
    t.port.readable = false ∧ t.port.result = .ok ∧
    t.attn = { flags := 0x00, enable := 0xFF, level := 0x0A, snapshot := 0x00 }

/-! ## The Command Port (spec 10) -/

/-- R160 to R164, R167, R168: a byte that completes on the wire, and a chip-select break. The reply byte read is the
latch byte at the read index, and only a parameter byte begun while the latch was readable consumes it; a
seventeenth waiting byte is lost. Between bytes the port shows ready exactly while no byte waits in the intake queue
and no store unit of the Command Port waits or runs. `sdo` and the marks `followed` are the model's records (log
entries 11 and 15). -/
def Obligations.WireBytesAndBreaks : Prop :=
  (∀ (s : State) (line : PortLine) (value : Byte) (begunEarly : Bool), s.port.readIndex ≤ s.port.reply.length →
    let reads : Bool := s.port.readable && !begunEarly
    let waiting := if line = .command then s.port.intake.map (fun b => { b with followed := true }) else s.port.intake
    exec (.cpByte line value begunEarly) s = .next { s with port := { s.port with
      bitCount := 0
      sdo := some (if reads then s.port.reply.getD s.port.readIndex 0x00 else 0x00)
      readIndex :=
        if reads = true ∧ line = .parameter ∧ s.port.readIndex < s.port.reply.length then s.port.readIndex + 1
        else s.port.readIndex
      readable := s.port.readable && decide (line = .parameter)
      followed := s.port.followed || decide (line = .command)
      intake :=
        if s.port.intake.length < 16 then waiting ++ [{ line := line, value := value, followed := false }]
        else waiting
      overrun := s.port.overrun || decide (16 ≤ s.port.intake.length) } }) ∧
  (∀ (s : State) (bits : Nat),
    exec (.chipSelectBreak bits) s = .next { s with port := { s.port with bitCount := 0 } }) ∧
  ∀ p : Port, p.ready = true ↔ p.intake = [] ∧ p.unit = none

/-- R162, R166: what the decoder does with a parameter byte: it is discarded where no command takes it, held
as the first half of a two-byte parameter, or stored as one of an action's or read's parameters short of the
last; and on a parameter byte the row of the current command and PARAMETER_BYTE are the same step (log
entry 1). R21, R162: while a store unit of the Command Port waits or runs, the decoder takes no byte. -/
def Obligations.ParameterByteTaken : Prop :=
  ((∀ s value followed rest,
    DecoderTakes s { line := .parameter, value := value, followed := followed } rest →
    (s.port.current = .none ∨ s.port.current = .unknown ∨ s.port.phase ≠ .receiving) →
    exec .parameterByte s = .next { s with port := { s.port with intake := rest } }) ∧
  (∀ s c value followed rest,
    DecoderTakes s { line := .parameter, value := value, followed := followed } rest →
    s.port.current = .known c → s.port.phase = .receiving → c.nextWidth s.port.values.length = 2 →
    s.port.half = none →
    exec .parameterByte s = .next { s with port := { s.port with intake := rest, half := some value } }) ∧
  (∀ s c vals rest, TakesParameter s c vals rest → (c.row.cls = .action ∨ c.row.cls = .read) →
    vals.length ≠ c.row.widths.length → exec .parameterByte s = .next (tookParameter s .receiving vals rest)) ∧
  ∀ s c value followed rest,
    DecoderTakes s { line := .parameter, value := value, followed := followed } rest →
    s.port.current = .known c → exec (rowOf c) s = exec .parameterByte s) ∧
  ∀ s : State, s.port.unit.isSome = true →
    exec .parameterByte s = .next s ∧ exec .unknownCommand s = .next s ∧ ∀ c : Command, exec (rowOf c) s = .next s

/-- R170: the code, the class, the count of parameter bytes and the widths of the parameters of every host command,
and no other code is a command; R169 and R154: the codes of the results and of the answer statuses. R172: the codes
of states, kinds, dwell modes, flags and an absent number in the replies; R174: the bit of each event flag; and a
two-byte value goes high byte first. -/
def Obligations.CodeTables : Prop :=
  (allCommands.map (fun c => (c.row.code.toNat, c.row.cls, c.row.widths.sum)) =
    [(0x01, .read, 0), (0x02, .read, 0), (0x03, .action, 1), (0x04, .setting, 2), (0x05, .action, 0),
     (0x06, .setting, 1), (0x10, .setting, 6), (0x11, .setting, 15), (0x12, .setting, 7), (0x13, .read, 1),
     (0x20, .action, 9), (0x21, .action, 1), (0x22, .action, 4), (0x23, .action, 4), (0x24, .action, 1),
     (0x25, .action, 1), (0x26, .setting, 2), (0x27, .action, 1), (0x28, .read, 1), (0x30, .action, 5),
     (0x31, .setting, 4), (0x32, .stream, 2), (0x33, .stream, 2), (0x34, .action, 2), (0x35, .action, 0),
     (0x36, .action, 13), (0x37, .action, 8), (0x38, .action, 6), (0x39, .action, 6), (0x3A, .action, 5),
     (0x3B, .read, 5), (0x3C, .read, 6), (0x3D, .read, 0), (0x40, .read, 0), (0x41, .action, 0)]) ∧
  (∀ (code : Byte) (c : Command), commandOf code = some c ↔ code = c.row.code) ∧
  (([.ok, .busy, .notFound, .duplicateKey, .full, .claimed, .belowCut, .badArgument, .truncated, .unknownCommand,
      .notOpen, .copyTaken, .notDone, .notBound, .notWaiting] : List ResultCode).map (fun r => r.code.toNat) =
    List.range 15) ∧
  (([.cut, .atLimit, .done, .recorded, .kept, .overcut, .released, .notHeld, .notLoaded, .notReady, .worn, .stall,
      .halted, .unbound, .contested, .cancelled, .outOfRange, .overrun, .badFrame] : List Status).map
        (fun r => r.code.toNat) = List.range 19) ∧
  (allCommands.map (fun c => c.row.widths) =
    [[], [], [1], [1, 1], [], [1], [1, 1, 1, 1, 1, 1], [1, 2, 2, 2, 2, 2, 2, 2], [1, 1, 2, 1, 1, 1], [1],
     [1, 1, 1, 2, 1, 2, 1], [1], [1, 1, 2], [1, 1, 2], [1], [1], [1, 1], [1], [1], [1, 2, 2], [1, 1, 1, 1], [2], [2],
     [2], [], [1, 2, 2, 1, 1, 1, 1, 1, 1, 1, 1], [1, 2, 2, 1, 2], [1, 2, 2, 1], [1, 2, 2, 1], [1, 2, 2], [1, 2, 2],
     [1, 2, 2, 1], [], [], []]) ∧
  (([.filling, .live, .done, .copying] : List TileState).map (fun t => t.code.toNat) = [1, 2, 3, 4]) ∧
  (([.unbound, .active, .halted] : List HeadState).map (fun t => t.code) = [0, 1, 2]) ∧
  (([.rough, .finish] : List ToolClass).map (fun t => t.code.toNat) = [0, 1]) ∧
  (([.arming, .none, .valid, .stalled] : List MeasureState).map (fun t => t.code.toNat) = [0, 1, 2, 3]) ∧
  (([.probe, .report, .release] : List RequestKind).map (fun t => t.code.toNat) = [1, 2, 3]) ∧
  (([.inService, .step, .claim, .copy] : List WaitKind).map (fun t => t.code.toNat) = [0, 1, 2, 3]) ∧
  (([.none, .fixed, .load] : List DwellMode).map (fun t => t.code.toNat) = [0, 1, 2]) ∧
  (([.surface, .allowance] : List ViolationKind).map (fun t => t.code.toNat) = [1, 2]) ∧
  boolByte false = 0x00 ∧ boolByte true = 0x01 ∧ numberOrNone none = 0xFF ∧
  (∀ i : Fin 8, (numberOrNone (some i)).toNat = i.val) ∧
  (([.doneReady, .violation, .worn, .stall, .contested, .copyDone, .cmdRefused, .linkFault] : List EventFlag).map
    (fun f => f.mask.toNat) = [0x01, 0x02, 0x04, 0x08, 0x10, 0x20, 0x40, 0x80]) ∧
  (∀ n : Nat, twoBytes n = [BitVec.ofNat 8 (n / 256), BitVec.ofNat 8 n]) ∧
  ∀ hi lo : Byte, joinBytes hi lo = hi.toNat * 256 + lo.toNat

/-- R162, R169: a command byte of any command with parameters, streams apart, becomes the current command with no
parameter taken, and changes nothing else; a code that is in no row of the command table is refused
UNKNOWN_COMMAND. -/
def Obligations.CommandByteTaken : Prop :=
  (∀ c s followed rest, TakesCode s c followed rest → c.row.cls ≠ .stream → c.row.widths ≠ [] →
    exec (rowOf c) s = .next (tookCode s c .receiving followed rest)) ∧
  ∀ s code followed rest, (∀ c : Command, code ≠ c.row.code) →
    DecoderTakes s { line := .command, value := code, followed := followed } rest → s.port.phase ≠ .receiving →
    exec .unknownCommand s = .next (refusedWith
      { s with port := { s.port with
          intake := rest, current := .unknown, phase := .refused, followed := followed, values := [], half := none } }
      .unknownCommand)

/-- R165 to R167: a command byte first ends a command that is still taking its bytes: a setting with OK, a
stream with RESULT as it was, an action or a read with TRUNCATED and CMD_REFUSED; then it is taken as it
would be otherwise. R163: the decoder's next byte first treats a recorded overrun: the current command ends,
RESULT becomes TRUNCATED whatever its class, CMD_REFUSED is set, and a parameter byte is then discarded. -/
def Obligations.CurrentCommandEnds : Prop :=
  (∀ s d code followed rest,
    DecoderTakes s { line := .command, value := code, followed := followed } rest →
    s.port.current = .known d → s.port.phase = .receiving →
    (∀ c : Command, code = c.row.code → exec (rowOf c) s = exec (rowOf c) (endedBy s d)) ∧
    ((∀ c : Command, code ≠ c.row.code) → exec .unknownCommand s = exec .unknownCommand (endedBy s d))) ∧
  ∀ s b rest, s.port.unit = none → s.port.overrun = true → s.port.intake = b :: rest →
    (b.line = .parameter →
      exec .parameterByte s = .next (overrunTreated { s with port := { s.port with intake := rest } })) ∧
    (∀ c : Command, b.line = .command → b.value = c.row.code →
      exec (rowOf c) s = exec (rowOf c) (overrunTreated s)) ∧
    (b.line = .command → (∀ c : Command, b.value ≠ c.row.code) →
      exec .unknownCommand s = exec .unknownCommand (overrunTreated s))

/-! ## Results, status and attention (spec 10 and 11; R95 and R96 of spec 05) -/

/-- R169, R171, R178: RESULT READ latches RESULT and changes nothing else; STATUS READ latches its 13 bytes and
takes the snapshot. Both leave RESULT. R176, R179: ACK clears exactly the pending flags that are in its mask and
in the snapshot; ATTN SETUP stores the enable mask and then the level mask, whole. -/
def Obligations.StatusReadAckAndSetup : Prop :=
  ((∀ s followed rest, TakesCode s .resultRead followed rest →
    exec .resultRead s =
      .next (withReply (tookCode s .resultRead .complete followed rest) [s.port.result.code])) ∧
  ∀ s followed rest, TakesCode s .statusRead followed rest →
    let headByte := fun h : HeadNo => BitVec.ofNat 8 ((s.head h).state.code +
      (if (s.head h).stepMode then 4 else 0) + (if (s.head h).inStepWait then 8 else 0) +
      (if (s.head h).worn then 16 else 0) + (if (s.monitor h).state = .stalled then 32 else 0))
    let unitByte := BitVec.ofNat 8 ((if s.load.openTile.isSome then 1 else 0) +
      (if s.engine.job.isSome then 2 else 0) + (if s.hold.record.isSome then 4 else 0))
    exec .statusRead s = .next { withReply (tookCode s .statusRead .complete followed rest)
      ([s.attn.flags, s.port.result.code, BitVec.ofNat 8 s.freeSlots.length, BitVec.ofNat 8 s.done.length, unitByte] ++
        [headByte 0, headByte 1, headByte 2, headByte 3, headByte 4, headByte 5, headByte 6, headByte 7]) with
      attn := { s.attn with snapshot := s.attn.flags } }) ∧
  (∀ s m rest, TakesParameter s .ack [m] rest →
    exec .ack s = .next (withResult { tookParameter s .complete [m] rest with
      attn := { s.attn with flags := s.attn.flags &&& ~~~(BitVec.ofNat 8 m &&& s.attn.snapshot) } } .ok)) ∧
  (∀ s e rest, TakesParameter s .attnSetup [e] rest →
    exec .attnSetup s = .next { tookParameter s .receiving [e] rest with
      attn := { s.attn with enable := BitVec.ofNat 8 e } }) ∧
  ∀ s e l rest, TakesParameter s .attnSetup [e, l] rest →
    exec .attnSetup s = .next (withResult { tookParameter s .complete [e, l] rest with
      attn := { s.attn with level := BitVec.ofNat 8 l } } .ok)

/-- R174, R175, R177, R178: a setting event makes its flag pending, leaves every other flag and the masks, and
takes the flag's bit out of the snapshot exactly when the flag was clear; each attention line is low exactly
while some flag is pending, enabled and of the line's level. -/
def Obligations.AttentionFollowsFlags : Prop :=
  (∀ (a : Attention) (f g : EventFlag),
    (a.raise f).isPending f = true ∧ (g ≠ f → (a.raise f).isPending g = a.isPending g) ∧
    (a.raise f).enable = a.enable ∧ (a.raise f).level = a.level ∧
    (a.raise f).snapshot = if a.isPending f then a.snapshot else a.snapshot &&& ~~~f.mask) ∧
  (∀ a : Attention, (a.hiLow = true ↔
    ∃ f : EventFlag, a.isPending f = true ∧ a.enable &&& f.mask ≠ 0 ∧ a.level &&& f.mask ≠ 0)) ∧
  ∀ a : Attention, (a.loLow = true ↔
    ∃ f : EventFlag, a.isPending f = true ∧ a.enable &&& f.mask ≠ 0 ∧ a.level &&& f.mask = 0)

/-- R95, R96: VIOLATION READ latches the record and the count, or 14 zeros from an empty hold, and changes
nothing else; VIOLATION CLEAR empties the hold and leaves the flags and the heads. -/
def Obligations.ViolationReadAndClear : Prop :=
  (∀ s followed rest, TakesCode s .violationRead followed rest →
    let bytes : List Byte := match s.hold.record with
      | none => List.replicate 14 0x00
      | some r => [0x01, byteOf r.head.val, byteOf r.tile.copy.val] ++ twoBytes r.tile.row.val ++
          twoBytes r.tile.col.val ++ [byteOf r.cell] ++ twoBytes r.reached ++ twoBytes r.limit ++
          [if r.kind = .surface then 0x01 else 0x02, byteOf s.hold.count]
    exec .violationRead s =
      .next (withResult (withReply (tookCode s .violationRead .complete followed rest) bytes) .ok)) ∧
  ∀ s followed rest, TakesCode s .violationClear followed rest →
    exec .violationClear s = .next (withResult
      { tookCode s .violationClear .complete followed rest with hold := { record := none, count := 0 } } .ok)

/-! ## The tables and the Time Base (spec 01; R135 and R136 of spec 08) -/

/-- R135, R136: TIMEBASE stores p, clamped to 7, and restarts the monitors that run, which keep their last
period, their values and their pending values; stopped monitors stay as they are. -/
def Obligations.TimebaseRestartsMonitors : Prop :=
  ∀ s p rest, TakesParameter s .timebase [p] rest →
    exec .timebase s = .next (withResult { tookParameter s .complete [p] rest with
      timebase := min p 7
      monitors := s.monitors.map (fun m : LoadMonitor =>
        if m.running then { m with state := .arming, opened := false, counter := 0, index := 0 } else m) } .ok)

/-- R5, R6: COPY SETUP checks its copy byte, then stores each value as its byte completes; T_f is clamped to
63, and the shared flag is not turned off while two or more heads are bound. -/
def Obligations.CopySetupStores : Prop :=
  (∀ s y rest, TakesParameter s .copySetup [y] rest → 7 < y →
    exec .copySetup s = .next (refusedWith (tookParameter s .refused [y] rest) .badArgument)) ∧
  ∀ (s : State) (y : CopyNo) (rest : List IntakeByte),
    let put := fun (t : State) (r : CopyRecord) => { t with copies := Bank.put s.copies y r }
    (TakesParameter s .copySetup [y.val] rest →
      (s.hasTiles y = true →
        exec .copySetup s = .next (refusedWith (tookParameter s .refused [y.val] rest) .busy)) ∧
      (s.hasTiles y = false → exec .copySetup s = .next (tookParameter s .receiving [y.val] rest))) ∧
    ∀ a b c d e : Nat,
      (TakesParameter s .copySetup [y.val, a] rest → exec .copySetup s =
        .next (put (tookParameter s .receiving [y.val, a] rest) { s.copy y with roughAllow := a })) ∧
      (TakesParameter s .copySetup [y.val, a, b] rest → exec .copySetup s =
        .next (put (tookParameter s .receiving [y.val, a, b] rest) { s.copy y with fenceAllow := b })) ∧
      (TakesParameter s .copySetup [y.val, a, b, c] rest → exec .copySetup s =
        .next (put (tookParameter s .receiving [y.val, a, b, c] rest) { s.copy y with finishTol := min c 63 })) ∧
      (TakesParameter s .copySetup [y.val, a, b, c, d] rest → exec .copySetup s =
        .next (put (tookParameter s .receiving [y.val, a, b, c, d] rest) { s.copy y with overTol := d })) ∧
      (TakesParameter s .copySetup [y.val, a, b, c, d, e] rest →
        (e = 0 ∧ (s.copy y).shared = true ∧ 2 ≤ s.boundHeads y → exec .copySetup s =
          .next (refusedWith (tookParameter s .refused [y.val, a, b, c, d, e] rest) .copyTaken)) ∧
        (¬(e = 0 ∧ (s.copy y).shared = true ∧ 2 ≤ s.boundHeads y) → exec .copySetup s =
          .next (withResult (put (tookParameter s .complete [y.val, a, b, c, d, e] rest)
            { s.copy y with shared := decide (e ≠ 0) }) .ok)))

/-- R10, R11: BAND BOUNDS checks its copy byte; the i-th value is clamped to 4095, raised to the start row that
band i-1 holds, and stored as the start row of band i, and no other band changes; the seventh ends it OK. -/
def Obligations.BandBoundsStores : Prop :=
  (∀ s y rest, TakesParameter s .bandBounds [y] rest →
    exec .bandBounds s = .next (if 7 < y then refusedWith (tookParameter s .refused [y] rest) .badArgument
      else tookParameter s .receiving [y] rest)) ∧
  ∀ (s : State) (y : CopyNo) (before : List Nat) (v : Nat) (i : Fin 7) (rest : List IntakeByte),
    before.length = i.val → TakesParameter s .bandBounds (y.val :: (before ++ [v])) rest →
    let row := max (min v 4095) (s.band y i.castSucc).start
    let stored := fun t : State => { t with
      bands := Bank.put s.bands y (Bank.put (Bank.at s.bands y) i.succ { s.band y i.succ with start := row }) }
    exec .bandBounds s = .next
      (if i.val = 6 then withResult (stored (tookParameter s .complete (y.val :: (before ++ [v])) rest)) .ok
       else stored (tookParameter s .receiving (y.val :: (before ++ [v])) rest))

/-- R12, R13: BAND SET checks its copy byte and its band byte, then stores S_max clamped to 1-1023, k, the dwell
mode with every code above 2 taken as NONE, and the dwell value, each as it completes. -/
def Obligations.BandSetStores : Prop :=
  (∀ s y rest, TakesParameter s .bandSet [y] rest →
    exec .bandSet s = .next (if 7 < y then refusedWith (tookParameter s .refused [y] rest) .badArgument
      else tookParameter s .receiving [y] rest)) ∧
  (∀ s y b rest, TakesParameter s .bandSet [y, b] rest →
    exec .bandSet s = .next (if 7 < b then refusedWith (tookParameter s .refused [y, b] rest) .badArgument
      else tookParameter s .receiving [y, b] rest)) ∧
  ∀ (s : State) (y : CopyNo) (b : Fin 8) (rest : List IntakeByte) (p k m d : Nat),
    let put := fun (t : State) (r : BandRecord) => { t with
      bands := Bank.put s.bands y (Bank.put (Bank.at s.bands y) b r) }
    (TakesParameter s .bandSet [y.val, b.val, p] rest → exec .bandSet s =
      .next (put (tookParameter s .receiving [y.val, b.val, p] rest)
        { s.band y b with stepMax := if p = 0 then 1 else if 1023 < p then 1023 else p })) ∧
    (TakesParameter s .bandSet [y.val, b.val, p, k] rest → exec .bandSet s =
      .next (put (tookParameter s .receiving [y.val, b.val, p, k] rest) { s.band y b with wearRate := k })) ∧
    (TakesParameter s .bandSet [y.val, b.val, p, k, m] rest → exec .bandSet s =
      .next (put (tookParameter s .receiving [y.val, b.val, p, k, m] rest)
        { s.band y b with dwellMode := if m = 1 then .fixed else if m = 2 then .load else .none })) ∧
    (TakesParameter s .bandSet [y.val, b.val, p, k, m, d] rest → exec .bandSet s =
      .next (withResult (put (tookParameter s .complete [y.val, b.val, p, k, m, d] rest)
        { s.band y b with dwell := d }) .ok))

/-- R15, R172: COPY QUERY refuses a copy above 7 with the latch emptied; otherwise it latches the 61 bytes of
the copy record and the eight band records, and changes nothing else. -/
def Obligations.CopyQueryReplies : Prop :=
  (∀ s y rest, TakesParameter s .copyQuery [y] rest → 7 < y → exec .copyQuery s =
    .next (refusedWith (withReply (tookParameter s .complete [y] rest) []) .badArgument)) ∧
  ∀ (s : State) (y : CopyNo) (rest : List IntakeByte), TakesParameter s .copyQuery [y.val] rest →
    let c := s.copy y
    let bandBytes := fun b : Fin 8 => twoBytes (s.band y b).start ++ twoBytes (s.band y b).stepMax ++
      [byteOf (s.band y b).wearRate,
        (match (s.band y b).dwellMode with | .none => 0x00 | .fixed => 0x01 | .load => 0x02), byteOf (s.band y b).dwell]
    let bytes := [byteOf c.roughAllow, byteOf c.fenceAllow, byteOf c.finishTol, byteOf c.overTol,
      if c.shared then 0x01 else 0x00] ++ bandBytes 0 ++ bandBytes 1 ++ bandBytes 2 ++ bandBytes 3 ++
      bandBytes 4 ++ bandBytes 5 ++ bandBytes 6 ++ bandBytes 7
    bytes.length = 61 ∧ exec .copyQuery s =
      .next (withResult (withReply (tookParameter s .complete [y.val] rest) bytes) .ok)

/-! ## The host's head commands (spec 07; R144 of spec 08) -/

/-- R120, R138: HEAD BIND refuses in the order of its checks, and otherwise sets the head record and starts the
head's monitor; the head's outstanding slot and buffer, its claims and everything else stay. -/
def Obligations.HeadBindSetsRecord : Prop :=
  ∀ (s : State) (head copy cls limit n p0 hold : Nat) (rest : List IntakeByte),
    TakesParameter s .headBind [head, copy, cls, limit, n, p0, hold] rest →
    let took := tookParameter s .complete [head, copy, cls, limit, n, p0, hold] rest
    ((7 < head ∨ 7 < copy) → exec .headBind s = .next (refusedWith took .badArgument)) ∧
    ∀ (h : HeadNo) (y : CopyNo), head = h.val → copy = y.val →
      let taken := (s.copy y).shared = false ∧ ∃ g : HeadNo, g ≠ h ∧ (s.head g).boundCopy = some y
      (((s.head h).state ≠ .unbound ∨ (s.head h).outstanding.isSome = true) →
        exec .headBind s = .next (refusedWith took .busy)) ∧
      ((s.head h).state = .unbound → (s.head h).outstanding = none → taken →
        exec .headBind s = .next (refusedWith took .copyTaken)) ∧
      ((s.head h).state = .unbound → (s.head h).outstanding = none → ¬taken →
        exec .headBind s = .next (withResult { took with
          heads := Bank.put s.heads h { s.head h with
            state := .active, stepMode := false, boundCopy := some y
            toolClass := if cls = 0 then .rough else .finish
            wear := 0, worn := false, wearLimit := min limit 1023, holdTimeout := hold }
          monitors := Bank.put s.monitors h
            { running := true, state := .arming, opened := false, counter := 0, index := 0, lastP := 0
              curN := max 1 (min n 64), curP0 := p0, pendN := max 1 (min n 64), pendP0 := p0
              pendFlag := false } } .ok))

/-- R121: HEAD UNBIND of an UNBOUND head changes nothing but RESULT. Of a bound head it answers a parked request
UNBOUND and then a buffered one, stops the hold timer and the monitor, and leaves the head UNBOUND with no
copy and its other fields kept; cells, tables, the Done Queue, the flags and the other heads' monitors and
links stay; the head's claims are released in order by the release of R105 (log entry 18), which decides the
directory, the claims, the arbiter and the other heads' units (a waiter that takes a claim goes into service);
and where it holds none and nothing is parked, the whole state is as given. -/
def Obligations.HeadUnbindEndsBinding : Prop :=
  ∀ (s : State) (head : Nat) (rest : List IntakeByte), TakesParameter s .headUnbind [head] rest →
    let took := tookParameter s .complete [head] rest
    (7 < head → exec .headUnbind s = .next (refusedWith took .badArgument)) ∧
    ∀ h : HeadNo, head = h.val →
      let hu := s.head h
      let unbound : HeadUnit := { hu with
        state := .unbound, boundCopy := none, buffer := none
        outstanding := if hu.parked then none else hu.outstanding }
      let answers := (if hu.parked then hu.outstanding.toList.map (fun o => plain o.req.tag .unbound) else []) ++
        hu.buffer.toList.map (fun r => plain r.tag .unbound)
      (hu.state = .unbound → exec .headUnbind s = .next (withResult took .ok)) ∧
      (hu.state ≠ .unbound → (hu.parked = true → ∀ o, hu.outstanding = some o → o.silent = false) →
        ∃ t, exec .headUnbind s = .next t ∧ t.head h = unbound ∧ t.links = (sent s h answers).links ∧
          t.monitors = Bank.put s.monitors h { s.monitor h with running := false, pendFlag := false } ∧
          (let released := ((took.endParked h .unbound).unbindBuffer h).releaseAll h (s.claim h).slots
           t.dir = released.dir ∧ t.arb = released.arb ∧ (∀ g : HeadNo, g ≠ h → t.head g = released.head g) ∧
             t.claims = Bank.put released.claims h { released.claim h with timer := none }) ∧
          t.port = (withResult took .ok).port ∧ t.attn = s.attn ∧
          t.copies = s.copies ∧ t.bands = s.bands ∧ t.store = s.store ∧ t.freeSlots = s.freeSlots ∧
          t.done = s.done ∧ t.load = s.load ∧ t.hold = s.hold ∧ t.timebase = s.timebase ∧
          t.engine = { s.engine with waiting :=
            if hu.parked = true ∧ hu.outstanding.map (fun o => o.wait) = some .copy
            then s.engine.waiting.filter (fun g => decide (g ≠ h)) else s.engine.waiting } ∧
          ((s.claim h).slots = [] → hu.parked = false →
            t = withResult { sent (withHead took h unbound) h answers with
              monitors := Bank.put s.monitors h { s.monitor h with running := false, pendFlag := false }
              claims := Bank.put s.claims h { slots := [], timer := none } } .ok))

/-- R119, R123, R144: TOOL SET replaces the tool record and clears the wear, and SPINDLE SET makes N and P0
pending, of a bound head whether ACTIVE or HALTED; on a head above 7 or UNBOUND each is refused. -/
def Obligations.ToolSetAndSpindleSet : Prop :=
  (∀ (s : State) (head cls limit : Nat) (rest : List IntakeByte), TakesParameter s .toolSet [head, cls, limit] rest →
    let took := tookParameter s .complete [head, cls, limit] rest
    (7 < head → exec .toolSet s = .next (refusedWith took .badArgument)) ∧
    ∀ h : HeadNo, head = h.val →
      ((s.head h).state = .unbound → exec .toolSet s = .next (refusedWith took .notBound)) ∧
      ((s.head h).state ≠ .unbound → exec .toolSet s = .next (withResult (withHead took h { s.head h with
        toolClass := if cls = 0 then .rough else .finish
        wearLimit := min limit 1023, wear := 0, worn := false }) .ok))) ∧
  ∀ (s : State) (head n p0 : Nat) (rest : List IntakeByte), TakesParameter s .spindleSet [head, n, p0] rest →
    let took := tookParameter s .complete [head, n, p0] rest
    (7 < head → exec .spindleSet s = .next (refusedWith took .badArgument)) ∧
    ∀ h : HeadNo, head = h.val →
      ((s.head h).state = .unbound → exec .spindleSet s = .next (refusedWith took .notBound)) ∧
      ((s.head h).state ≠ .unbound → exec .spindleSet s = .next (withResult { took with
        monitors := Bank.put s.monitors h { s.monitor h with
          pendN := max 1 (min n 64), pendP0 := p0, pendFlag := true } } .ok))

/-- R125, R61, R114: HEAD HALT halts a bound head and answers its parked request HALTED, which leaves its wait
list or the copy-wait list and stops the hold timer; a request in service and the buffer stay. -/
def Obligations.HeadHaltEndsParked : Prop :=
  ∀ (s : State) (head : Nat) (rest : List IntakeByte), TakesParameter s .headHalt [head] rest →
    let took := tookParameter s .complete [head] rest
    (7 < head → exec .headHalt s = .next (refusedWith took .badArgument)) ∧
    ∀ h : HeadNo, head = h.val →
      let halted := withHead took h { s.head h with state := .halted }
      let ended := fun o : Outstanding =>
        sent (withHead took h { s.head h with state := .halted, outstanding := none }) h [plain o.req.tag .halted]
      ((s.head h).state = .unbound → exec .headHalt s = .next (refusedWith took .notBound)) ∧
      ((s.head h).state ≠ .unbound →
        ((s.head h).parked = false → exec .headHalt s = .next (withResult halted .ok)) ∧
        ∀ o, (s.head h).outstanding = some o → o.silent = false →
          (o.wait = .step → exec .headHalt s = .next (withResult (ended o) .ok)) ∧
          (o.wait = .copy → exec .headHalt s = .next (withResult { ended o with
            engine := { s.engine with waiting := s.engine.waiting.filter (fun g => decide (g ≠ h)) } } .ok)) ∧
          ∀ k, o.wait = .claim → o.key = some k → exec .headHalt s = .next (withResult { ended o with
            dir := s.dir.map (fun e =>
              if e.key = k then { e with waiters := e.waiters.filter (fun g => decide (g ≠ h)) } else e)
            claims := Bank.put s.claims h { s.claim h with timer := none } } .ok))

/-- R126 to R128: HEAD RESUME makes a bound head ACTIVE and touches no request; STEP MODE stores its setting
and, from on to off, lets a request in step wait go on at the directory step; HEAD STEP lets it go on, or is
refused NOT_WAITING. `directoryStep` and `settle` are the subject of statements of their own. -/
def Obligations.ResumeAndStep : Prop :=
  (∀ (s : State) (head : Nat) (rest : List IntakeByte), TakesParameter s .headResume [head] rest →
    let took := tookParameter s .complete [head] rest
    (7 < head → exec .headResume s = .next (refusedWith took .badArgument)) ∧
    ∀ h : HeadNo, head = h.val →
      ((s.head h).state = .unbound → exec .headResume s = .next (refusedWith took .notBound)) ∧
      ((s.head h).state ≠ .unbound →
        exec .headResume s = .next (withResult (withHead took h { s.head h with state := .active }) .ok))) ∧
  (∀ (s : State) (head : Nat) (rest : List IntakeByte), TakesParameter s .headStep [head] rest →
    let took := tookParameter s .complete [head] rest
    (7 < head → exec .headStep s = .next (refusedWith took .badArgument)) ∧
    ∀ h : HeadNo, head = h.val →
      ((s.head h).state = .unbound → exec .headStep s = .next (refusedWith took .notBound)) ∧
      ((s.head h).state ≠ .unbound → (s.head h).inStepWait = false →
        exec .headStep s = .next (refusedWith took .notWaiting)) ∧
      ((s.head h).state ≠ .unbound → (s.head h).inStepWait = true →
        exec .headStep s = .next (withResult ((took.directoryStep h).settle h) .ok))) ∧
  (∀ (s : State) (head : Nat) (rest : List IntakeByte), TakesParameter s .stepMode [head] rest →
    (7 < head → exec .stepMode s = .next (refusedWith (tookParameter s .refused [head] rest) .badArgument)) ∧
    ∀ h : HeadNo, head = h.val →
      ((s.head h).state = .unbound →
        exec .stepMode s = .next (refusedWith (tookParameter s .refused [head] rest) .notBound)) ∧
      ((s.head h).state ≠ .unbound → exec .stepMode s = .next (tookParameter s .receiving [head] rest))) ∧
  ∀ (s : State) (h : HeadNo) (v : Nat) (rest : List IntakeByte), TakesParameter s .stepMode [h.val, v] rest →
    let stored := withHead (tookParameter s .receiving [h.val, v] rest) h { s.head h with stepMode := decide (v ≠ 0) }
    let t := if (s.head h).stepMode = true ∧ v = 0 ∧ (s.head h).inStepWait = true
      then (stored.directoryStep h).settle h else stored
    exec .stepMode s = .next { t with port := { t.port with phase := .complete, result := .ok } }

/-- R134, R172: HEAD QUERY refuses a head above 7 with the latch emptied; otherwise it latches the 38 bytes of
the head's record, monitor, claims and requests, and changes nothing else. -/
def Obligations.HeadQueryReplies : Prop :=
  (∀ s head rest, TakesParameter s .headQuery [head] rest → 7 < head → exec .headQuery s =
    .next (refusedWith (withReply (tookParameter s .complete [head] rest) []) .badArgument)) ∧
  ∀ (s : State) (h : HeadNo) (rest : List IntakeByte), TakesParameter s .headQuery [h.val] rest →
    let hu := s.head h
    let m := s.monitor h
    let slots := (s.claim h).slots
    let keyOrZeros := fun k : Option TileKey => match k with
      | some k => [byteOf k.copy.val] ++ twoBytes k.row.val ++ twoBytes k.col.val
      | none => [0x00, 0x00, 0x00, 0x00, 0x00]
    let bytes : List Byte :=
      [byteOf (match hu.state with | .unbound => 0 | .active => 1 | .halted => 2),
        if hu.stepMode then 0x01 else 0x00, (match hu.boundCopy with | some y => byteOf y.val | none => 0xFF),
        if hu.toolClass = .rough then 0x00 else 0x01,
        byteOf (hu.wear / 65536), byteOf (hu.wear / 256), byteOf hu.wear] ++ twoBytes hu.wearLimit ++
      [if hu.worn then 0x01 else 0x00, byteOf hu.holdTimeout,
        (match m.state with | .arming => 0x00 | .none => 0x01 | .valid => 0x02 | .stalled => 0x03)] ++
      twoBytes m.lastP ++ [byteOf m.curN] ++ twoBytes m.curP0 ++
      [if m.pendFlag then 0x01 else 0x00, byteOf slots.length] ++ keyOrZeros slots[0]? ++ keyOrZeros slots[1]? ++
      (match hu.outstanding with
        | none => [0x00, 0x00, 0x00, 0x00, 0x00, 0x00, 0x00, 0x00]
        | some o => [0x01, (match o.req.kind with | .probe => 0x01 | .report => 0x02 | .release => 0x03), o.req.tag] ++
            twoBytes o.req.row ++ twoBytes o.req.col ++
            [match o.wait with | .inService => 0x00 | .step => 0x01 | .claim => 0x02 | .copy => 0x03]) ++
      [if hu.buffer.isSome then 0x01 else 0x00]
    bytes.length = 38 ∧ exec .headQuery s =
      .next (withResult (withReply (tookParameter s .complete [h.val] rest) bytes) .ok)

/-! ## Tiles: opening, loading, sealing, reading (spec 02 and 03) -/

/-- R3, R27: TILE OPEN refuses in the order of its checks; otherwise it creates the entry in FILLING with a slot
from the pool (which one is the model's choice, log entry 8), makes it the open tile with the whole-tile window
and the pointer at cell 0, and asks for the unit that initialises the slot. R17: that unit sets every cell of
the slot to target 0, cut 0 and clear flags, and no other cell; only then RESULT is OK. -/
def Obligations.TileOpenCreatesAndInitialises : Prop :=
  (∀ (s : State) (y t u : Nat) (rest : List IntakeByte), TakesParameter s .tileOpen [y, t, u] rest →
    let took := tookParameter s .complete [y, t, u] rest
    ((7 < y ∨ 511 < t ∨ 511 < u) → exec .tileOpen s = .next (refusedWith took .badArgument)) ∧
    ∀ k : TileKey, y = k.copy.val → t = k.row.val → u = k.col.val →
      (s.load.openTile.isSome = true → exec .tileOpen s = .next (refusedWith took .busy)) ∧
      (s.load.openTile = none → (∃ e ∈ s.dir, e.key = k) →
        exec .tileOpen s = .next (refusedWith took .duplicateKey)) ∧
      (s.load.openTile = none → (∀ e ∈ s.dir, e.key ≠ k) → s.freeSlots = [] →
        exec .tileOpen s = .next (refusedWith took .full)) ∧
      ∀ slot pool, s.load.openTile = none → (∀ e ∈ s.dir, e.key ≠ k) → s.freeSlots = slot :: pool →
        exec .tileOpen s = .next (presentedUnit { took with
          dir := s.dir ++ [{ key := k, slot := slot, state := .filling, ret := none, owner := none, waiters := []
                             remaining := 0, overcut := 0 }]
          freeSlots := pool
          load := { openTile := some k, firstRow := 0, lastRow := 7, firstCol := 0, lastCol := 7
                    ptrRow := 0, ptrCol := 0 } } (.tileOpen k))) ∧
  ∀ s k e, PortUnitGranted s (.tileOpen k) → s.entry k = some e →
    ∃ m : Memory, exec .tileOpenUnit s = .next (endedPortUnit (withResult { s with store := m } .ok)) ∧
      (∀ c < 64, m.read (e.slot * 64 + c) = { target := 0, cut := 0, fence := false, overcut := false }) ∧
      ∀ a, (∀ c < 64, a ≠ e.slot * 64 + c) → m.read a = s.store.read a

/-- R43, R44: WINDOW is refused at its first byte with no open tile; otherwise each value is clamped to 7 and
stored, the opposite edge is raised where it must be, and the pointer goes to the window's first cell. R45: from
the first cell of a well-formed window of r rows and c columns, the pointer stands at the cell of row i and
column j after i × c + j values, and at the first cell again after r × c. -/
def Obligations.WindowAndPointer : Prop :=
  (∀ (s : State) (a b c d : Nat) (rest : List IntakeByte),
    let home := fun l : LoadUnit => { l with ptrRow := l.firstRow, ptrCol := l.firstCol }
    (TakesParameter s .window [a] rest →
      (s.load.openTile = none →
        exec .window s = .next (refusedWith (tookParameter s .refused [a] rest) .notOpen)) ∧
      (s.load.openTile.isSome = true → exec .window s = .next { tookParameter s .receiving [a] rest with
        load := home { s.load with firstRow := min a 7, lastRow := max s.load.lastRow (min a 7) } })) ∧
    (TakesParameter s .window [a, b] rest → exec .window s = .next { tookParameter s .receiving [a, b] rest with
      load := home { s.load with lastRow := max (min b 7) s.load.firstRow } }) ∧
    (TakesParameter s .window [a, b, c] rest → exec .window s = .next { tookParameter s .receiving [a, b, c] rest with
      load := home { s.load with firstCol := min c 7, lastCol := max s.load.lastCol (min c 7) } }) ∧
    (TakesParameter s .window [a, b, c, d] rest →
      exec .window s = .next (withResult { tookParameter s .complete [a, b, c, d] rest with
        load := home { s.load with lastCol := max (min d 7) s.load.firstCol } } .ok))) ∧
  ∀ l : LoadUnit, l.firstRow ≤ l.lastRow → l.firstCol ≤ l.lastCol →
    l.ptrRow = l.firstRow → l.ptrCol = l.firstCol →
    let rows := l.lastRow - l.firstRow + 1
    let cols := l.lastCol - l.firstCol + 1
    (∀ i < rows, ∀ j < cols, LoadUnit.advance^[i * cols + j] l =
      { l with ptrRow := l.firstRow + i, ptrCol := l.firstCol + j }) ∧
    LoadUnit.advance^[rows * cols] l = l

/-- R46 to R48: a stream is refused NOT_OPEN at its command byte with no open tile, and begun with RESULT OK
otherwise; each completed value, clamped to 16383, asks for a store unit and leaves RESULT; within the unit the
value is written at the pointer as the target or as the cut, the rest of the cell and every other cell stay,
and the pointer advances by the rule of R45. -/
def Obligations.StreamsWriteAtPointer : Prop :=
  (∀ (s : State) (c : Command) (followed : Bool) (rest : List IntakeByte),
    (c = .targetWrite ∨ c = .cutWrite) → TakesCode s c followed rest → exec (rowOf c) s = .next
      (if s.load.openTile = none then refusedWith (tookCode s c .refused followed rest) .notOpen
       else withResult (tookCode s c .receiving followed rest) .ok)) ∧
  (∀ (s : State) (hi lo : Byte) (followed : Bool) (rest : List IntakeByte) (c : Command),
    (c = .targetWrite ∨ c = .cutWrite) → s.port.current = .known c → s.port.phase = .receiving →
    s.port.half = some hi → DecoderTakes s { line := .parameter, value := lo, followed := followed } rest →
    let v := min (hi.toNat * 256 + lo.toNat) 16383
    exec (rowOf c) s = .next (presentedUnit
      { s with port := { s.port with intake := rest, half := none } }
      (if c = .targetWrite then .targetValue v else .cutValue v))) ∧
  ∀ (s : State) (k : TileKey) (e : Entry) (d : Nat), s.load.openTile = some k → s.entry k = some e →
    let l := s.load
    let moved := if l.ptrCol < l.lastCol then { l with ptrCol := l.ptrCol + 1 }
      else if l.ptrRow < l.lastRow then { l with ptrRow := l.ptrRow + 1, ptrCol := l.firstCol }
      else { l with ptrRow := l.firstRow, ptrCol := l.firstCol }
    let a := e.slot * 64 + (l.ptrRow * 8 + l.ptrCol)
    (PortUnitGranted s (.targetValue d) → exec .targetWriteValue s = .next (endedPortUnit { s with
      load := moved, store := s.store.write a { s.store.read a with target := d } })) ∧
    (PortUnitGranted s (.cutValue d) → exec .cutWriteValue s = .next (endedPortUnit { s with
      load := moved, store := s.store.write a { s.store.read a with cut := d } }))

/-- R49: FILL is refused NOT_OPEN with no open tile, and asks for its unit otherwise; the unit writes the
clamped depth as the target of every cell of the window, leaves their cuts and flags and every other cell, and
returns the pointer to the window's first cell. -/
def Obligations.FillWritesWindow : Prop :=
  (∀ s d rest, TakesParameter s .fill [d] rest →
    exec .fill s = .next
      (if s.load.openTile = none then refusedWith (tookParameter s .complete [d] rest) .notOpen
       else presentedUnit (tookParameter s .complete [d] rest) (.fill (min d 16383)))) ∧
  ∀ s k e d, s.load.openTile = some k → s.entry k = some e → PortUnitGranted s (.fill d) →
    let inside := fun c : Nat => s.load.firstRow ≤ c / 8 ∧ c / 8 ≤ s.load.lastRow ∧ s.load.firstCol ≤ c % 8 ∧
      c % 8 ≤ s.load.lastCol
    ∃ m : Memory, exec .fillUnit s = .next (endedPortUnit (withResult { s with
        store := m, load := { s.load with ptrRow := s.load.firstRow, ptrCol := s.load.firstCol } } .ok)) ∧
      (∀ c < 64, inside c → m.read (e.slot * 64 + c) = { s.store.read (e.slot * 64 + c) with target := d }) ∧
      ∀ a, (∀ c < 64, inside c → a ≠ e.slot * 64 + c) → m.read a = s.store.read a

/-- R28, R31: TILE SEAL is refused NOT_OPEN with no open tile and asks for its unit otherwise. The unit sets each
overcut flag from target, cut and T_o, sets both counts, closes the open tile and leaves the entry LIVE, or
DONE where nothing remains; for a tile that no head claims or waits for, as every FILLING tile is, entering
DONE appends the key to the Done Queue and sets DONE_READY. -/
def Obligations.TileSealCounts : Prop :=
  (∀ s followed rest, TakesCode s .tileSeal followed rest →
    exec .tileSeal s = .next
      (if s.load.openTile = none then refusedWith (tookCode s .tileSeal .complete followed rest) .notOpen
       else presentedUnit (tookCode s .tileSeal .complete followed rest) .tileSeal)) ∧
  ∀ s k e, s.load.openTile = some k → s.entry k = some e → PortUnitGranted s .tileSeal →
    e.owner = none → e.waiters = [] → KeysDistinct s →
    let cr := s.copy k.copy
    let old := fun c : Nat => s.store.read (e.slot * 64 + c)
    let overcut := ((List.range 64).filter (fun c => decide ((old c).target + cr.overTol < (old c).cut))).length
    let remaining := ((List.range 64).filter (fun c => decide ((old c).cut + cr.finishTol < (old c).target))).length
    ∃ m : Memory,
      (∀ c < 64, m.read (e.slot * 64 + c) =
        { old c with overcut := decide ((old c).target + cr.overTol < (old c).cut) }) ∧
      (∀ a, (∀ c < 64, a ≠ e.slot * 64 + c) → m.read a = s.store.read a) ∧
      let sealed := fun state => s.dir.map (fun x => if x.key = k then
        { x with state := state, remaining := remaining, overcut := overcut } else x)
      exec .tileSealUnit s = .next (endedPortUnit (withResult
        (if remaining = 0 then { s with
            store := m, dir := sealed .done, load := { s.load with openTile := none }
            done := s.done ++ [k], attn := s.attn.raise .doneReady }
         else { s with store := m, dir := sealed .live, load := { s.load with openTile := none } }) .ok))

/-- R50, R51: FENCE WRITE refuses a bad or absent key and otherwise asks for its unit; the unit refuses a COPYING
entry BUSY, and otherwise sets every fence flag of the tile from its bit, and changes nothing else. -/
def Obligations.FenceWriteSetsFlags : Prop :=
  (∀ (s : State) (y t u : Nat) (rows : List Nat) (rest : List IntakeByte), rows.length = 8 →
    TakesParameter s .fenceWrite (y :: t :: u :: rows) rest →
    let took := tookParameter s .complete (y :: t :: u :: rows) rest
    ((7 < y ∨ 511 < t ∨ 511 < u) → exec .fenceWrite s = .next (refusedWith took .badArgument)) ∧
    ∀ k : TileKey, y = k.copy.val → t = k.row.val → u = k.col.val → exec .fenceWrite s = .next
      (if s.entry k = none then refusedWith took .notFound else presentedUnit took (.fenceWrite k rows))) ∧
  ∀ s k rows e, PortUnitGranted s (.fenceWrite k rows) → s.entry k = some e →
    (e.state = .copying → exec .fenceWriteUnit s = .next (endedPortUnit (refusedWith s .busy))) ∧
    (e.state ≠ .copying → ∃ m : Memory,
      exec .fenceWriteUnit s = .next (endedPortUnit (withResult { s with store := m } .ok)) ∧
      (∀ r < 8, ∀ c < 8, m.read (e.slot * 64 + (r * 8 + c)) =
        { s.store.read (e.slot * 64 + (r * 8 + c)) with fence := (rows.getD r 0).testBit c }) ∧
      ∀ a, (∀ c < 64, a ≠ e.slot * 64 + c) → m.read a = s.store.read a)

/-- R52, R53: TILE EDIT makes checks 1 and 2 at its last byte and asks for its unit; the unit makes checks 3 and 4,
and an accepted edit replaces the cell's target, clears its overcut flag, moves the two counts by what the cell
changed, and then the entry's state follows (the subject of a statement of its own). -/
def Obligations.TileEditReplacesTarget : Prop :=
  (∀ (s : State) (y t u c d : Nat) (rest : List IntakeByte), TakesParameter s .tileEdit [y, t, u, c, d] rest →
    let took := tookParameter s .complete [y, t, u, c, d] rest
    ((7 < y ∨ 511 < t ∨ 511 < u ∨ 63 < c) → exec .tileEdit s = .next (refusedWith took .badArgument)) ∧
    ∀ k : TileKey, y = k.copy.val → t = k.row.val → u = k.col.val → c ≤ 63 → exec .tileEdit s = .next
      (if s.entry k = none then refusedWith took .notFound
       else presentedUnit took (.tileEdit k c (min d 16383)))) ∧
  ∀ s k c d e, PortUnitGranted s (.tileEdit k c d) → s.entry k = some e →
    let old := s.store.read (e.slot * 64 + c)
    let cr := s.copy k.copy
    let new := { old with target := d, overcut := false }
    let wasFinished := old.target ≤ old.cut + cr.finishTol
    let isFinished := d ≤ old.cut + cr.finishTol
    ((e.state = .filling ∨ e.state = .copying) →
      exec .tileEditUnit s = .next (endedPortUnit (refusedWith s .busy))) ∧
    ((e.state = .live ∨ e.state = .done) → d + cr.overTol < old.cut →
      exec .tileEditUnit s = .next (endedPortUnit (refusedWith s .belowCut))) ∧
    ((e.state = .live ∨ e.state = .done) → old.cut ≤ d + cr.overTol →
      exec .tileEditUnit s = .next (endedPortUnit (withResult (State.followCount { s with
        store := s.store.write (e.slot * 64 + c) new
        dir := s.dir.map (fun x => if x.key = k then { x with
          overcut := if old.overcut then x.overcut - 1 else x.overcut
          remaining := if wasFinished ∧ ¬isFinished then x.remaining + 1
            else if ¬wasFinished ∧ isFinished then x.remaining - 1 else x.remaining } else x) } k) .ok)))

/-- R30 to R32, R107: after a unit that changed the counts, a LIVE entry with nothing remaining enters DONE: its key
joins the Done Queue at the end, DONE_READY is set, its owner's claim is gone, and its waiters leave claim wait in
service and without a claim, the first of them granted at once if the store is free (R19); a DONE entry with
something remaining is LIVE and its key has left the queue; any other entry stays as it is. -/
def Obligations.EntryStateFollowsCount : Prop :=
  ∀ (s : State) (k : TileKey) (e : Entry), KeysDistinct s → s.entry k = some e →
    (e.state = .live → e.remaining = 0 →
      (∀ h ∈ e.owner, h ∉ e.waiters) → e.waiters.Nodup →
      s.followCount k = { s with
        dir := s.dir.map (fun x => if x.key = k then { x with state := .done, owner := none, waiters := [] } else x)
        done := s.done ++ [k]
        attn := s.attn.raise .doneReady
        arb := { s.arb with
          granted := if s.arb.granted.isNone then e.waiters.head?.map Requester.hu else s.arb.granted }
        claims := Vector.ofFn (fun h : HeadNo =>
          { slots := if e.owner = some h then (s.claim h).slots.filter (fun x => decide (x ≠ k)) else (s.claim h).slots
            timer := if h ∈ e.waiters then none else (s.claim h).timer })
        heads := Vector.ofFn (fun h : HeadNo => if h ∈ e.waiters then { s.head h with
          outstanding := (s.head h).outstanding.map (fun o => { o with wait := .inService }) } else s.head h) }) ∧
    (e.state = .done → 0 < e.remaining → s.followCount k = { s with
      dir := s.dir.map (fun x => if x.key = k then { x with state := .live } else x)
      done := s.done.filter (fun x => decide (x ≠ k)) }) ∧
    (¬(e.state = .live ∧ e.remaining = 0) → ¬(e.state = .done ∧ 0 < e.remaining) → s.followCount k = s)

/-- R36, R37, R26: TILE RETIRE decides by its checks in order, and removal takes the entry out, returns its slot to
the pool (to its front: the place in the pool is the model's choice, log entry 8), closes the open tile if it was
that, takes a DONE key out of the Done Queue, and marks the requests that wait for a grant on it (the mark is the
model's, log entry 9). -/
def Obligations.TileRetireRemoves : Prop :=
  ∀ (s : State) (y t u a : Nat) (rest : List IntakeByte), TakesParameter s .tileRetire [y, t, u, a] rest →
    let took := tookParameter s .complete [y, t, u, a] rest
    ((7 < y ∨ 511 < t ∨ 511 < u) → exec .tileRetire s = .next (refusedWith took .badArgument)) ∧
    ∀ k : TileKey, y = k.copy.val → t = k.row.val → u = k.col.val → KeysDistinct s →
      (s.entry k = none → exec .tileRetire s = .next (refusedWith took .notFound)) ∧
      ∀ e, s.entry k = some e →
        let removed : State := { took with
          dir := s.dir.filter (fun x => decide (x.key ≠ k))
          freeSlots := e.slot :: s.freeSlots
          heads := s.heads.map (fun hu : HeadUnit => { hu with outstanding := hu.outstanding.map (fun o =>
            if o.key = some k then { o with orphaned := true } else o) }) }
        (e.state = .copying → exec .tileRetire s = .next (refusedWith took .busy)) ∧
        (e.state = .live → a = 0 → exec .tileRetire s = .next (refusedWith took .notDone)) ∧
        (e.state = .live → a ≠ 0 → e.owner.isSome = true →
          exec .tileRetire s = .next (refusedWith took .claimed)) ∧
        (e.state = .live → a ≠ 0 → e.owner = none → exec .tileRetire s = .next (withResult removed .ok)) ∧
        (e.state = .filling → exec .tileRetire s = .next (withResult
          { removed with load := { s.load with openTile := none } } .ok)) ∧
        (e.state = .done → exec .tileRetire s = .next (withResult
          { removed with done := s.done.filter (fun x => decide (x ≠ k)) } .ok))

/-- R38, R35, R172: TILE QUERY latches the five bytes of the entry, or refuses with the latch emptied, and changes
nothing else; NEXT DONE takes the oldest key off the queue and reports it with its entry's state, or reports
an empty queue with zeros. -/
def Obligations.TileQueryAndNextDone : Prop :=
  (∀ (s : State) (y t u : Nat) (rest : List IntakeByte), TakesParameter s .tileQuery [y, t, u] rest →
    let took := tookParameter s .complete [y, t, u] rest
    ((7 < y ∨ 511 < t ∨ 511 < u) → exec .tileQuery s = .next (refusedWith (withReply took []) .badArgument)) ∧
    ∀ k : TileKey, y = k.copy.val → t = k.row.val → u = k.col.val →
      (s.entry k = none → exec .tileQuery s = .next (refusedWith (withReply took []) .notFound)) ∧
      ∀ e, s.entry k = some e → exec .tileQuery s = .next (withResult (withReply took
        [(match e.state with | .filling => 0x01 | .live => 0x02 | .done => 0x03 | .copying => 0x04),
          (match e.owner with | some h => byteOf h.val | none => 0xFF),
          byteOf e.waiters.length, byteOf e.remaining, byteOf e.overcut]) .ok)) ∧
  ∀ (s : State) (followed : Bool) (rest : List IntakeByte), TakesCode s .nextDone followed rest →
    let took := tookCode s .nextDone .complete followed rest
    (s.done = [] → exec .nextDone s = .next (withResult (withReply took (List.replicate 7 (0x00 : Byte))) .ok)) ∧
    ∀ k keys e, s.done = k :: keys → s.entry k = some e →
      exec .nextDone s = .next (withResult (withReply { took with done := keys }
        (([0x01, byteOf k.copy.val] : List Byte) ++ twoBytes k.row.val ++ twoBytes k.col.val ++
          [(match e.state with | .filling => 0x01 | .live => 0x02 | .done => 0x03 | .copying => 0x04 : Byte)])) .ok)

/-- R54, R55: TILE READ makes checks 1 and 2 at its field byte and asks for its unit; the unit refuses a COPYING
entry with the latch emptied, and otherwise latches the field of the 64 cells as they stand, two bytes a depth,
or eight fence bytes and eight overcut bytes with column c in bit c; it changes no cell. -/
def Obligations.TileReadSnapshots : Prop :=
  (∀ (s : State) (y t u f : Nat) (rest : List IntakeByte), TakesParameter s .tileRead [y, t, u, f] rest →
    let took := tookParameter s .complete [y, t, u, f] rest
    ((7 < y ∨ 511 < t ∨ 511 < u ∨ 2 < f) →
      exec .tileRead s = .next (refusedWith (withReply took []) .badArgument)) ∧
    ∀ k : TileKey, y = k.copy.val → t = k.row.val → u = k.col.val → f ≤ 2 → exec .tileRead s = .next
      (if s.entry k = none then refusedWith (withReply took []) .notFound else presentedUnit took (.tileRead k f))) ∧
  ∀ s k f e, PortUnitGranted s (.tileRead k f) → s.entry k = some e → f ≤ 2 →
    (e.state = .copying →
      exec .tileReadUnit s = .next (endedPortUnit (refusedWith (withReply s []) .busy))) ∧
    (e.state ≠ .copying → ∃ bytes : List Byte,
      exec .tileReadUnit s = .next (endedPortUnit (withResult (withReply s bytes) .ok)) ∧
      let cell := fun c : Nat => s.store.read (e.slot * 64 + c)
      (f = 0 → bytes.length = 128 ∧ ∀ c < 64, bytes.getD (2 * c) 0 = byteOf ((cell c).target / 256) ∧
        bytes.getD (2 * c + 1) 0 = byteOf (cell c).target) ∧
      (f = 1 → bytes.length = 128 ∧ ∀ c < 64, bytes.getD (2 * c) 0 = byteOf ((cell c).cut / 256) ∧
        bytes.getD (2 * c + 1) 0 = byteOf (cell c).cut) ∧
      (f = 2 → bytes.length = 16 ∧ ∀ r < 8, ∀ c < 8,
        (bytes.getD r 0).getLsbD c = (cell (r * 8 + c)).fence ∧
        (bytes.getD (8 + r) 0).getLsbD c = (cell (r * 8 + c)).overcut))

/-- R57, R58: TILE DUPLICATE refuses in the order of its checks; its acceptance makes the source COPYING with its
state as return state, creates the destination in COPYING with a slot from the pool (the one at its front: which
slot is the model's choice, log entry 8), makes the engine busy at cell 0, and presents its first access. -/
def Obligations.TileDuplicateAccepts : Prop :=
  ∀ (s : State) (y t u d : Nat) (rest : List IntakeByte), TakesParameter s .tileDuplicate [y, t, u, d] rest →
    let took := tookParameter s .complete [y, t, u, d] rest
    ((7 < y ∨ 511 < t ∨ 511 < u ∨ 7 < d) → exec .tileDuplicate s = .next (refusedWith took .badArgument)) ∧
    ∀ (k : TileKey) (dest : CopyNo), y = k.copy.val → t = k.row.val → u = k.col.val → d = dest.val →
      let j : TileKey := { k with copy := dest }
      (s.entry k = none → exec .tileDuplicate s = .next (refusedWith took .notFound)) ∧
      ∀ e, s.entry k = some e →
        ((e.state = .filling ∨ e.state = .copying ∨ s.engine.job.isSome = true) →
          exec .tileDuplicate s = .next (refusedWith took .busy)) ∧
        ((e.state = .live ∨ e.state = .done) → s.engine.job = none →
          ((s.entry j).isSome = true → exec .tileDuplicate s = .next (refusedWith took .duplicateKey)) ∧
          (s.entry j = none → s.freeSlots = [] → exec .tileDuplicate s = .next (refusedWith took .full)) ∧
          ∀ slot pool, s.entry j = none → s.freeSlots = slot :: pool → KeysDistinct s →
            exec .tileDuplicate s = .next (withResult { took with
              dir := s.dir.map (fun x => if x.key = k then { x with state := .copying, ret := some e.state } else x) ++
                [{ key := j, slot := slot, state := .copying, ret := none, owner := none, waiters := []
                   remaining := 0, overcut := 0 }]
              freeSlots := pool
              engine := { s.engine with job := some { source := k, dest := j }, next := 0 }
              arb := { s.arb with granted := if s.arb.granted.isNone then some .ce else s.arb.granted } } .ok))

/-! ## Duplication and CLEAR WORK (spec 03 and 02) -/

/-- R59, R63: a transfer reads the source cell and writes the destination's: the target and the fence flag
copied, the cut 0, the overcut flag clear. The 64th also completes the duplication: the source returns to its
return state, the destination is counted and becomes LIVE or DONE (with the effects of R31), COPY_DONE is
set, the engine is idle, and the requests of the copy-wait list go on at the directory step in list order. -/
def Obligations.CopyTransferCopiesCell : Prop :=
  ∀ (s : State) (job : CopyJob) (src dst : Entry), s.engine.job = some job → s.arb.granted = some .ce →
    s.entry job.source = some src → s.entry job.dest = some dst →
    let i := s.engine.next
    let read := s.store.read (src.slot * 64 + i)
    let fresh : Cell := { target := read.target, cut := 0, fence := read.fence, overcut := false }
    let wrote : State := { s with store := s.store.write (dst.slot * 64 + i) fresh }
    let handOn := fun t : State => { t with arb := { last := .ce, granted := t.nextGrant .ce } }
    (i < 63 → exec .copyTransfer s = .next (handOn { wrote with engine := { s.engine with next := i + 1 } })) ∧
    (i = 63 → ∀ before, src.ret = some before → KeysDistinct s → job.source ≠ job.dest →
      dst.owner = none → dst.waiters = [] →
      let remaining := ((List.range 64).filter (fun c =>
        decide ((s.copy job.dest.copy).finishTol < (wrote.store.read (dst.slot * 64 + c)).target))).length
      let done := decide (remaining = 0)
      let completed : State := { wrote with
        dir := s.dir.map (fun x =>
          if x.key = job.source then { x with state := before, ret := none }
          else if x.key = job.dest then
            { x with state := if done then .done else .live, remaining := remaining, overcut := 0 }
          else x)
        done := if done then s.done ++ [job.dest] else s.done
        attn := (if done then s.attn.raise .doneReady else s.attn).raise .copyDone
        engine := { job := none, next := 0, waiting := [] } }
      exec .copyTransfer s = .next
        (handOn (s.engine.waiting.foldl (fun t h => (t.directoryStep h).settle h) completed)))

/-- R39, R64, R180: CLEAR WORK empties the directory, the Done Queue, the engine, the hold and the claims,
stops the hold timers, closes the open tile, clears four flags, and answers each request in claim or copy wait
CANCELLED; requests in service stay, their entries gone, and so do those in step wait. The premises are the
heads' invariant and that no parked request is carried on after LINK RESET (R158). The order of the pool is
the model's (log entry 8). -/
def Obligations.ClearWorkEmpties : Prop :=
  ∀ (s : State) (followed : Bool) (rest : List IntakeByte), TakesCode s .clearWork followed rest →
    (∀ h : HeadNo, ((s.head h).buffer.isSome = true → (s.head h).inService = true) ∧
      ∀ o, (s.head h).outstanding = some o → o.wait ≠ .inService → o.silent = false) →
    let waits := fun o : Outstanding => o.wait = .claim ∨ o.wait = .copy
    let cleared : State := { tookCode s .clearWork .complete followed rest with
      dir := [], freeSlots := List.range 128, done := []
      load := { s.load with openTile := none }
      engine := { job := none, next := 0, waiting := [] }
      hold := { record := none, count := 0 }
      claims := Vector.ofFn (fun _ : HeadNo => { slots := [], timer := none })
      heads := Vector.ofFn (fun h : HeadNo => { s.head h with outstanding := (s.head h).outstanding.bind (fun o =>
        if waits o then none else some { o with orphaned := o.orphaned || o.key.isSome }) })
      links := Vector.ofFn (fun h : HeadNo => { s.link h with tx := (s.link h).tx ++
        match (s.head h).outstanding with
        | some o => if waits o then [plain o.req.tag .cancelled] else []
        | none => [] })
      attn := { s.attn with flags := s.attn.flags &&& 0xCC } }
    exec .clearWork s = .next (withResult { cleared with arb := { s.arb with
      granted := if s.arb.granted = some .ce then cleared.nextGrant s.arb.last else s.arb.granted } } .ok)

/-! ## Claims (spec 06) -/

/-- R105, R106, R109: CLAIM BREAK refuses a bad or absent key, answers OK for an unclaimed tile, and otherwise
releases the owner's claim; a release takes the key from the owner's claim slots and hands the tile to the
first waiter, whose hold timer stops, whose own oldest claim is released first if it holds two, and whose
request goes to the arbiter; and a release causes at most eight handoffs, so that a longer bound changes
nothing. -/
def Obligations.ClaimBreakReleases : Prop :=
  (∀ (s : State) (y t u : Nat) (rest : List IntakeByte), TakesParameter s .claimBreak [y, t, u] rest →
    let took := tookParameter s .complete [y, t, u] rest
    ((7 < y ∨ 511 < t ∨ 511 < u) → exec .claimBreak s = .next (refusedWith took .badArgument)) ∧
    ∀ k : TileKey, y = k.copy.val → t = k.row.val → u = k.col.val →
      (s.entry k = none → exec .claimBreak s = .next (refusedWith took .notFound)) ∧
      ∀ e, s.entry k = some e →
        (e.owner = none → exec .claimBreak s = .next (withResult took .ok)) ∧
        ∀ g, e.owner = some g → exec .claimBreak s = .next (withResult (took.release g k) .ok)) ∧
  (∀ (s : State) (g : HeadNo) (k : TileKey) (e : Entry), KeysDistinct s → s.entry k = some e →
    let freed := { s.claim g with slots := (s.claim g).slots.filter (fun x => decide (x ≠ k)) }
    let owned := fun (owner : Option HeadNo) (waiters : List HeadNo) =>
      s.dir.map (fun x => if x.key = k then { x with owner := owner, waiters := waiters } else x)
    (e.waiters = [] → s.release g k =
      { s with dir := owned none [], claims := Bank.put s.claims g freed }) ∧
    ∀ w others, e.waiters = w :: others → w ≠ g →
      ((s.claim w).slots.length < 2 → s.release g k = onItsWay { s with
        dir := owned (some w) others
        claims := Bank.put (Bank.put s.claims g freed) w { slots := (s.claim w).slots ++ [k], timer := none } } w) ∧
      ∀ oldest second more, (s.claim w).slots = oldest :: second :: more →
        let t := State.releaseFrom 7 { s with
          dir := owned none others
          claims := Bank.put (Bank.put s.claims g freed) w { slots := (s.claim w).slots, timer := none } } w oldest
        s.release g k = onItsWay { t with
          dir := t.dir.map (fun x => if x.key = k then { x with owner := some w } else x)
          claims := Bank.put t.claims w { t.claim w with slots := (t.claim w).slots ++ [k] } } w) ∧
  ∀ (s : State) (g : HeadNo) (k : TileKey) (n : Nat), KeysDistinct s → ClaimsAgree s → 8 ≤ n →
    State.releaseFrom n s g k = s.release g k

/-- R101 to R104, R111: the claim step: an unbound head is answered UNBOUND; an unclaimed tile is taken, the
oldest of two claims released first; the owner goes on; another head's request is answered CONTESTED where
the chain of claim waits from the owner leads back to it, and otherwise joins the end of the wait list with
its hold timer started if it has a hold timeout; a request carried on after LINK RESET is not parked. -/
def Obligations.ClaimStepDecides : Prop :=
  ∀ (s : State) (h : HeadNo) (k : TileKey) (o : Outstanding) (e : Entry), KeysDistinct s →
    (s.head h).outstanding = some o → s.entry k = some e →
    let taken := fun t : State => onItsWay { t with
      dir := t.dir.map (fun x => if x.key = k then { x with owner := some h } else x)
      claims := Bank.put t.claims h { t.claim h with slots := (t.claim h).slots ++ [k] } } h
    ((s.head h).state = .unbound → s.claimStep h k = answered s h o .unbound 0 0) ∧
    ((s.head h).state ≠ .unbound →
      (e.owner = none → (s.claim h).slots.length < 2 → s.claimStep h k = taken s) ∧
      (∀ oldest second more, e.owner = none → (s.claim h).slots = oldest :: second :: more →
        s.claimStep h k = taken (s.release h oldest)) ∧
      (e.owner = some h → s.claimStep h k = onItsWay s h) ∧
      ∀ g, e.owner = some g → g ≠ h →
        (o.silent = true → s.claimStep h k = answered s h o .contested 0 0) ∧
        (o.silent = false → ChainLeads s h g →
          s.claimStep h k = answered { s with attn := s.attn.raise .contested } h o .contested 0 0) ∧
        (o.silent = false → ¬ChainLeads s h g →
          s.claimStep h k = { withHead s h { s.head h with outstanding := some { o with wait := .claim } } with
            dir := s.dir.map (fun x => if x.key = k then { x with waiters := x.waiters ++ [h] } else x)
            claims := if 0 < (s.head h).holdTimeout
              then Bank.put s.claims h { s.claim h with timer := some 0 } else s.claims }))

/-! ## Requests of the heads (spec 07, spec 02) -/

/-- R129, R130, R83, R61, R114: a request frame that arrives waits in the buffer while one is in service, is
answered OVERRUN while the buffer is full, and otherwise becomes outstanding, a parked one being superseded
with the answer CANCELLED; a buffered request follows as soon as the one before it has ended or been
parked. A reached depth is clamped to 16383. The receiver is back in HUNT; the values its registers take there
are the model's (log entry 14). -/
def Obligations.RequestFramesArrive : Prop :=
  (∀ (s : State) (h : HeadNo) (tag : Byte) (row col depth : Word),
    let s0 := hunting s h
    ∀ p ∈ ([(Instr.probe h tag row col, { kind := .probe, tag := tag, row := row.toNat, col := col.toNat, depth := 0 }),
        (.report h tag row col depth,
          { kind := .report, tag := tag, row := row.toNat, col := col.toNat, depth := min depth.toNat 16383 }),
        (.release h tag row col,
          { kind := .release, tag := tag, row := row.toNat, col := col.toNat, depth := 0 })] : List (Instr × Request)),
      ((s.head h).outstanding = none → exec p.1 s = .next (s0.becomeOutstanding h p.2)) ∧
      ∀ o, (s.head h).outstanding = some o →
        (o.wait = .inService → (s.head h).buffer = none →
          exec p.1 s = .next (withHead s0 h { s.head h with buffer := some p.2 })) ∧
        (o.wait = .inService → (s.head h).buffer.isSome = true →
          exec p.1 s = .next { sent s0 h [plain tag .overrun] with attn := s.attn.raise .linkFault }) ∧
        (o.wait ≠ .inService → exec p.1 s =
          .next ((answered (s0.leaveWait h) h o .cancelled 0 0).becomeOutstanding h p.2))) ∧
  ∀ (s : State) (h : HeadNo),
    ((s.head h).buffer = none → s.settle h = s) ∧
    ∀ r, (s.head h).buffer = some r →
      let emptied := fun t : State => withHead t h { t.head h with buffer := none }
      ((s.head h).outstanding = none → s.settle h = (emptied s).becomeOutstanding h r) ∧
      ∀ o, (s.head h).outstanding = some o →
        (o.wait = .inService → s.settle h = s) ∧
        (o.wait ≠ .inService → s.settle h =
          (emptied (answered (s.leaveWait h) h o .cancelled 0 0)).becomeOutstanding h r)

/-- R108, R131, R132: the checks of a request that becomes outstanding, in their order, each answered with value
0 and dwell 0; a PROBE or REPORT that passes them waits for HEAD STEP in step mode and otherwise presents its
key to the directory, and a RELEASE is served: a claim of its key is released and answered RELEASED, and
anything else is answered NOT_HELD. -/
def Obligations.RequestChecksInOrder : Prop :=
  ∀ (s : State) (h : HeadNo) (r : Request),
    let o : Outstanding := { req := r, wait := .inService, key := none, orphaned := false, silent := false }
    let hu := s.head h
    let t := withHead s h { hu with outstanding := some o }
    let waits := withHead s h { hu with outstanding := some { o with wait := .step } }
    let out := 4095 < r.row ∨ 4095 < r.col
    (hu.state = .unbound → s.becomeOutstanding h r = answered t h o .unbound 0 0) ∧
    (hu.state ≠ .unbound → out → s.becomeOutstanding h r = answered t h o .outOfRange 0 0) ∧
    (hu.state ≠ .unbound → ¬out → r.kind = .probe → s.becomeOutstanding h r =
      (if hu.state = .halted then answered t h o .halted 0 0
       else if hu.worn = true then answered t h o .worn 0 0
       else if (s.monitor h).state = .stalled then answered t h o .stall 0 0
       else if hu.stepMode = true then waits
       else t.directoryStep h)) ∧
    (hu.state ≠ .unbound → ¬out → r.kind = .report → s.becomeOutstanding h r =
      (if hu.stepMode = true ∧ hu.state = .active then waits else t.directoryStep h)) ∧
    ∀ (k : TileKey) (c : Nat), hu.state ≠ .unbound → hu.boundCopy = some k.copy → NamesCell r.row r.col k c →
      r.kind = .release → s.becomeOutstanding h r =
        (if k ∈ (s.claim h).slots then answered (t.release h k) h o .released 0 0 else answered t h o .notHeld 0 0)

/-- R25, R60: at the directory step the request presents the key of its cell on the bound copy: an absent entry
is answered NOT_LOADED, a FILLING one NOT_READY, a COPYING one parks the request at the end of the copy-wait
list, a LIVE tile of a shared copy goes to the claim step, and any other LIVE or DONE one to the arbiter. -/
def Obligations.DirectoryStepDecides : Prop :=
  ∀ (s : State) (h : HeadNo) (o : Outstanding) (k : TileKey) (c : Nat),
    (s.head h).outstanding = some o → (s.head h).boundCopy = some k.copy → NamesCell o.req.row o.req.col k c →
    let o1 := { o with wait := .inService, key := some k, orphaned := false }
    let t := withHead s h { s.head h with outstanding := some o1 }
    (s.entry k = none → s.directoryStep h = answered t h o1 .notLoaded 0 0) ∧
    ∀ e, s.entry k = some e →
      (e.state = .filling → s.directoryStep h = answered t h o1 .notReady 0 0) ∧
      (e.state = .copying → s.directoryStep h =
        { withHead s h { s.head h with outstanding := some { o1 with wait := .copy } } with
          engine := { s.engine with waiting := s.engine.waiting ++ [h] } }) ∧
      (e.state = .live → (s.copy k.copy).shared = true → s.directoryStep h = t.claimStep h k) ∧
      (e.state = .live → (s.copy k.copy).shared = false → s.directoryStep h = onItsWay t h) ∧
      (e.state = .done → s.directoryStep h = onItsWay t h)

/-- R157, R158, R111: LINK RESET empties the buffer and drops the outstanding request without an answer: a parked
one leaves its list, a probe on its way withdraws its access, and a report on its way is carried on without
an answer; the head's claims are released, oldest first, but for the claim on the tile of a report carried
on. The order among these effects is the model's (log entry 18), and so are the values the receiver's
registers take on its return to HUNT (log entry 14). -/
def Obligations.LinkResetDrops : Prop :=
  ∀ (s : State) (h : HeadNo),
    let s0 := withHead (hunting s h) h { s.head h with buffer := none }
    let dropped := fun t : State => withHead t h { t.head h with outstanding := none }
    let releasing := fun (t : State) (keys : List TileKey) => keys.foldl (fun acc k => acc.release h k) t
    ((s.head h).outstanding = none → exec (.linkReset h) s = .next (releasing s0 (s.claim h).slots)) ∧
    ∀ o, (s.head h).outstanding = some o →
      (o.wait ≠ .inService →
        exec (.linkReset h) s = .next (releasing (dropped (s0.leaveWait h)) (s.claim h).slots)) ∧
      (o.wait = .inService → o.req.kind = .report → exec (.linkReset h) s = .next (releasing
        (withHead s0 h { s0.head h with outstanding := some { o with silent := true } })
        ((s.claim h).slots.filter (fun k => decide (o.key ≠ some k))))) ∧
      (o.wait = .inService → o.req.kind ≠ .report →
        let t := dropped s0
        let granted := if s.arb.granted = some (.hu h) then t.nextGrant s.arb.last else s.arb.granted
        exec (.linkReset h) s = .next (releasing { t with arb := { t.arb with granted := granted } } (s.claim h).slots))

/-! ## The store units of the heads (spec 04, 05; R26 of spec 02) -/

/-- R26, R111, R122, R158: the unit of a head's PROBE or REPORT first looks at its entry again: gone, or FILLING
under the same key, it is answered NOT_LOADED; COPYING, the request is parked in copy wait, or answered UNBOUND if
its head has been unbound; a LIVE tile of a shared copy that the head does not own sends it back to the claim step.
A REPORT carried on after LINK RESET is never answered, and a COPYING entry ends it in place of parking it; where it
ends, a claim that it holds on the tile is released (at a COPYING entry by inference, log entry 19). The unit ends
with it, and the grant goes on, decided after the buffered request has presented its access (the model's choice, log
entry 20). R19: the grant goes to the first requester after the last in the ring HU0 to HU7, CP, CE that presents an
access: a head whose request is in service, the Command Port with a store unit, the Copy Engine at work (log entry
5); and each grant to another brings one that waits nearer to its own. -/
def Obligations.HeadUnitRechecks : Prop :=
  (∀ (s : State) (h : HeadNo) (o : Outstanding) (k : TileKey), HeadUnitGranted s h o k →
    ∀ row : Instr, (row = .probeUnit h ∧ o.req.kind = .probe) ∨ (row = .reportUnit h ∧ o.req.kind = .report) →
      let released := fun t : State =>
        if o.silent = true ∧ o.req.kind = .report ∧ (t.head h).outstanding = none ∧ t.ownerOf k = some h
        then t.release h k else t
      let tail := fun t : State => afterHeadUnit (released t) h
      ((o.orphaned = true ∨ ∀ e, s.entry k = some e → e.state = .filling) →
        exec row s = .next (tail (answered s h o .notLoaded 0 0))) ∧
      ∀ e, o.orphaned = false → s.entry k = some e →
        (e.state = .copying → ((s.head h).state = .unbound ∨ o.silent = true) →
          exec row s = .next (tail (answered s h o .unbound 0 0))) ∧
        (e.state = .copying → (s.head h).state ≠ .unbound → o.silent = false → exec row s = .next (afterHeadUnit
          { withHead s h { s.head h with outstanding := some { o with wait := .copy } } with
            engine := { s.engine with waiting := s.engine.waiting ++ [h] } } h)) ∧
        (e.state = .live → (s.copy k.copy).shared = true → e.owner ≠ some h →
          exec row s = .next (tail (s.claimStep h k)))) ∧
  (∀ (s : State) (last : Requester), s.nextGrant last = (ringFrom last).find? (fun r => s.presents r)) ∧
  (∀ (s : State) (h : HeadNo), s.presents (.hu h) = true ↔
    ∃ o, (s.head h).outstanding = some o ∧ o.wait = .inService) ∧
  (∀ s : State, (s.presents .cp = true ↔ s.port.unit.isSome = true) ∧
    (s.presents .ce = true ↔ s.engine.job.isSome = true)) ∧
  ∀ (s : State) (last next r : Requester), s.presents r = true → s.nextGrant last = some next → next ≠ r →
    (ringFrom next).idxOf r < (ringFrom last).idxOf r

/-- R65, R81, R122: the unit of a PROBE on an entry found LIVE or DONE, and its own where it must be claimed:
an unbound head is answered UNBOUND; otherwise the answer is the verdict on the cell, the copy, the band that
takes the cell's row, the head and its monitor, all as they stand, and the unit changes nothing else. The next
grant is decided after the buffered request has presented its access: the model's choice (log entry 20). -/
def Obligations.ProbeUnitAnswers : Prop :=
  ∀ (s : State) (h : HeadNo) (o : Outstanding) (k : TileKey) (e : Entry) (c : Nat) (b : Fin 8),
    HeadUnitGranted s h o k → o.req.kind = .probe → o.orphaned = false → s.entry k = some e →
    NamesCell o.req.row o.req.col k c → BandTakes s k.copy o.req.row b →
    (e.state = .done ∨ (e.state = .live ∧ ((s.copy k.copy).shared = true → e.owner = some h))) →
    let v := probeVerdict (decide (e.state = .done)) (s.store.read (e.slot * 64 + c)) (s.copy k.copy)
      (s.band k.copy b) (s.head h) (s.monitor h)
    exec (.probeUnit h) s = .next (afterHeadUnit
      (if (s.head h).state = .unbound then answered s h o .unbound 0 0 else answered s h o v.status v.value v.dwell) h)

/-- R67 to R70, R72, R74, R75: the verdict on a probe, step by step; the step of a derated spindle is that of R73,
and the bounds of a cut are those of R77, stated apart. -/
def Obligations.ProbeVerdictSteps : Prop :=
  ∀ (tileDone : Bool) (c : Cell) (cr : CopyRecord) (b : BandRecord) (hu : HeadUnit) (m : LoadMonitor),
    let v := probeVerdict tileDone c cr b hu m
    let w := hu.wear / 256
    let finished := (c.target : Int) - (c.cut : Int) ≤ (cr.finishTol : Int)
    let derates := 0 < m.curP0 ∧ m.state = .valid ∧ m.curP0 < m.lastP
    let stalls := m.state = .stalled ∨ (derates ∧ 4 * m.curP0 ≤ m.lastP)
    let limit := classBound hu.toolClass cr c
    (tileDone = true ∨ finished → v = { status := .done, value := c.cut + w, dwell := 0 }) ∧
    (tileDone = false → ¬finished →
      (stalls → v = { status := .stall, value := 0, dwell := 0 }) ∧
      (¬stalls → ∀ step, (derates → step = max 1 (b.stepMax * m.curP0 / m.lastP)) → (¬derates → step = b.stepMax) →
        (min (c.cut + step) limit ≤ c.cut → v = { status := .atLimit, value := c.cut + w, dwell := 0 }) ∧
        (c.cut < min (c.cut + step) limit →
          v.status = .cut ∧ v.value = min (c.cut + step) limit + w)))

/-- R77 to R79: where the depth exceeds the cut the answer is CUT; its depth lies above the cut, at most at the
class limit and so at the target, and at most S_max above the cut, whatever the load; its value adds the wear
offset; its dwell follows the band's mode, and under LOAD the measured period. No other answer has a dwell. -/
def Obligations.CutAnswerBounds : Prop :=
  ∀ (tileDone : Bool) (c : Cell) (cr : CopyRecord) (b : BandRecord) (hu : HeadUnit) (m : LoadMonitor),
    1 ≤ b.stepMax → b.stepMax ≤ 1023 → c.target ≤ 16383 → hu.wear ≤ 262143 →
    let v := probeVerdict tileDone c cr b hu m
    let limit := classBound hu.toolClass cr c
    let derates := 0 < m.curP0 ∧ m.state = .valid ∧ m.curP0 < m.lastP
    let slow := m.state = .valid ∧ 0 < m.curP0 ∧ m.curP0 + m.curP0 / 8 < m.lastP
    (v.status ≠ .cut → v.dwell = 0) ∧
    (tileDone = false → c.cut + cr.finishTol < c.target → m.state ≠ .stalled → (derates → m.lastP < 4 * m.curP0) →
      ∀ step, (derates → step = max 1 (b.stepMax * m.curP0 / m.lastP)) → (¬derates → step = b.stepMax) →
        c.cut < min (c.cut + step) limit →
          v.status = .cut ∧ v.value = min (c.cut + step) limit + hu.wear / 256) ∧
    (v.status = .cut →
      ∃ depth, v.value = depth + hu.wear / 256 ∧ c.cut < depth ∧ depth ≤ limit ∧ limit ≤ c.target ∧
        depth - c.cut ≤ b.stepMax ∧ 1 ≤ v.value ∧ v.value ≤ 17406 ∧
        v.dwell = (match b.dwellMode with
          | .none => 0
          | .fixed => b.dwell
          | .load => if slow then b.dwell else 0))

/-- R85, R86, R89 to R92, R94, R111, R158: the unit of a REPORT on an entry found LIVE or DONE, and its own where
it must be claimed. A depth at or below the cut is KEPT. A deeper one raises the cut, may set the overcut flag,
grows the wear and may wear the tool out, moves the two counts, may finish the tile (R31), and may be a
violation, which the hold captures or counts and which halts a bound head. A report carried on after LINK RESET is
not answered, and its claim is released after it. The next grant is decided after that and after the buffered
request has presented its access: the model's choice (log entry 20). -/
def Obligations.ReportUnitRecords : Prop :=
  (∀ (s : State) (h : HeadNo) (o : Outstanding) (k : TileKey) (e : Entry) (c : Nat) (b : Fin 8),
    HeadUnitGranted s h o k → o.req.kind = .report → o.orphaned = false → s.entry k = some e →
    NamesCell o.req.row o.req.col k c → BandTakes s k.copy o.req.row b →
    (e.state = .done ∨ (e.state = .live ∧ ((s.copy k.copy).shared = true → e.owner = some h))) →
    let tail := fun t : State =>
      afterHeadUnit (if o.silent = true ∧ t.ownerOf k = some h then t.release h k else t) h
    let r := o.req.depth
    let old := s.store.read (e.slot * 64 + c)
    let cr := s.copy k.copy
    let hu := s.head h
    (r ≤ old.cut → exec (.reportUnit h) s = .next (tail (answered s h o .kept old.cut 0))) ∧
    (old.cut < r →
      let limit := classBound hu.toolClass cr old
      let deep := decide (old.target + cr.overTol < r)
      let new : Cell := { old with cut := r, overcut := old.overcut || deep }
      let wear := min (hu.wear + (r - old.cut) * (s.band k.copy b).wearRate) 262143
      let wornOut := decide (0 < hu.wearLimit) && !hu.worn && decide (hu.wearLimit ≤ wear / 256)
      let finishes := old.cut + cr.finishTol < old.target ∧ old.target ≤ r + cr.finishTol
      let recorded : State := { withHead s h { hu with wear := wear, worn := hu.worn || wornOut } with
        store := s.store.write (e.slot * 64 + c) new
        attn := if wornOut then s.attn.raise .worn else s.attn
        dir := s.dir.map (fun x => if x.key = k then
          { x with
            overcut := if deep = true ∧ old.overcut = false then x.overcut + 1 else x.overcut
            remaining := if finishes then x.remaining - 1 else x.remaining } else x) }
      let t := recorded.finishIfNone k
      let violated := fun kind : ViolationKind =>
        let v : Violation := { head := h, tile := k, cell := c, reached := r, limit := limit, kind := kind }
        let held := withHead t h { t.head h with state := if hu.state = .unbound then .unbound else .halted }
        match s.hold.record with
        | none => { held with hold := { s.hold with record := some v }, attn := t.attn.raise .violation }
        | some _ => { held with hold := { s.hold with count := min (s.hold.count + 1) 255 } }
      (r ≤ limit + cr.overTol → exec (.reportUnit h) s = .next (tail (answered t h o .recorded r 0))) ∧
      (old.target + cr.overTol < r →
        exec (.reportUnit h) s = .next (tail (answered (violated .surface) h o .overcut r 0))) ∧
      (limit + cr.overTol < r → r ≤ old.target + cr.overTol →
        exec (.reportUnit h) s = .next (tail (answered (violated .allowance) h o .overcut r 0))))) ∧
  ∀ (s : State) (k : TileKey) (e : Entry), s.entry k = some e →
    s.finishIfNone k = if e.state = .live ∧ e.remaining = 0 then s.followCount k else s

/-- R87: at a recorded report the accumulator grows by the stone removed times the band's wear rate, up to
262143, and no other head's accumulator moves; the wear offset is the accumulator over 256 and never exceeds 1023;
and no accumulator falls but at hardware reset or where the last parameter of a TOOL SET or a HEAD BIND that names
the head is taken (by that command's row, or by PARAMETER_BYTE, log entry 1). -/
def Obligations.WearGrowsByReports : Prop :=
  (∀ (s t : State) (h : HeadNo) (o : Outstanding) (k : TileKey) (e : Entry) (c : Nat) (b : Fin 8),
    HeadUnitGranted s h o k → o.req.kind = .report → o.orphaned = false → s.entry k = some e →
    NamesCell o.req.row o.req.col k c → BandTakes s k.copy o.req.row b →
    (e.state = .done ∨ (e.state = .live ∧ ((s.copy k.copy).shared = true → e.owner = some h))) →
    exec (.reportUnit h) s = .next t →
    let cut := (s.store.read (e.slot * 64 + c)).cut
    (cut < o.req.depth → (t.head h).wear =
      min ((s.head h).wear + (o.req.depth - cut) * (s.band k.copy b).wearRate) 262143) ∧
    (o.req.depth ≤ cut → (t.head h).wear = (s.head h).wear) ∧
    ∀ g : HeadNo, g ≠ h → (t.head g).wear = (s.head g).wear) ∧
  (∀ (s : State) (h : HeadNo), HeadsInOrder s →
    (s.head h).wearOffset = (s.head h).wear / 256 ∧ (s.head h).wearOffset ≤ 1023) ∧
  ∀ (c : Instr) (s t : State) (h : HeadNo), HeadsInOrder s → exec c s = .next t →
    (s.head h).wear ≤ (t.head h).wear ∨ c = .hardwareReset ∨
      (s.port.phase = .receiving ∧ s.port.values.head? = some h.val ∧
        (((c = .toolSet ∨ c = .parameterByte) ∧ s.port.current = .known .toolSet ∧ s.port.values.length = 2) ∨
          ((c = .headBind ∨ c = .parameterByte) ∧ s.port.current = .known .headBind ∧ s.port.values.length = 6)))

/-- R94, R96: a captured violation's record stands until VIOLATION CLEAR, CLEAR WORK or hardware reset, and the
count of a full hold only rises, to 255 at most. -/
def Obligations.HoldKeepsRecord : Prop :=
  ∀ (c : Instr) (s t : State) (v : Violation), HoldInOrder s → s.hold.record = some v → exec c s = .next t →
    (t.hold.record = some v ∧ s.hold.count ≤ t.hold.count ∧ t.hold.count ≤ s.hold.count + 1 ∧ t.hold.count ≤ 255) ∨
      c = .violationClear ∨ c = .clearWork ∨ c = .hardwareReset

/-- R18: from the moment an entry is LIVE or DONE until it leaves the directory, no cut of its tile falls; a
source of a duplication counts with them. -/
def Obligations.CutNeverFalls : Prop :=
  ∀ (c : Instr) (s t : State) (e e' : Entry), DirectoryExact s → exec c s = .next t →
    e ∈ s.dir → Entry.settled e = true → e' ∈ t.dir → e'.key = e.key →
    e'.slot = e.slot ∧ ∀ i < 64, (s.store.read (e.slot * 64 + i)).cut ≤ (t.store.read (e'.slot * 64 + i)).cut

/-! ## The links (spec 09) -/

/-- R148 to R151, R154 to R156: a framing error or an expired gap timer loses a partial frame; a bad frame or an
unknown KIND loses it with a BAD_FRAME answer of tag 0, unless one already waits behind the answer in
transmission; and an answer leaves the queue as the last stop bit of its frame of eight bytes ends. The record of
the frame sent is the model's (log entry 15), and so are the values the receiver's registers take on its return to
HUNT (log entry 14). -/
def Obligations.LinkFaultsAndAnswers : Prop :=
  ∀ (s : State) (h : HeadNo),
    let lost : State := { hunting s h with attn := s.attn.raise .linkFault }
    let bad := if (s.link h).tx.tail.any (fun a => decide (a.status = .badFrame)) then lost
      else sent lost h [{ tag := 0, status := .badFrame, value := 0, dwell := 0 }]
    ((s.link h).rx.state = .hunt → exec (.framingError h) s = .next s) ∧
    ((s.link h).rx.state ≠ .hunt → exec (.framingError h) s = .next lost) ∧
    ((s.link h).rx.gapRunning = false → exec (.gapTimerExpiry h) s = .next s) ∧
    ((s.link h).rx.gapRunning = true → (s.link h).rx.state ≠ .hunt →
      exec (.gapTimerExpiry h) s = .next lost) ∧
    exec (.badFrame h) s = .next bad ∧
    (∀ kind, Instr.wellFormed (.unknownKind h kind) = true → exec (.unknownKind h kind) s = .next bad) ∧
    ((s.link h).tx = [] → exec (.answerTransmitted h) s = .next s) ∧
    ∀ a rest, (s.link h).tx = a :: rest →
      let body := [0x80, a.tag, a.status.code, byteOf (a.value / 256), byteOf a.value, byteOf a.dwell]
      ∃ check : Byte, (body ++ [check]).foldl (fun sum x => sum + x) 0 = 0 ∧ exec (.answerTransmitted h) s =
        .next { s with links := Bank.put s.links h { s.link h with tx := rest, line := 0xC3 :: (body ++ [check]) } }

/-- R148 to R150, R152, R153, R157: the receiver byte by byte. SYNC leaves HUNT; a KIND byte sets the count of
bytes to come; each byte in BODY is added and kept; and with the last one the frame is the command of its KIND
with the fields it carries, high bytes first, or a bad frame if the bytes from KIND on do not add up to 0. The KIND
of 0 and the count of 0 that the receiver holds after SYNC are the model's values (log entry 14). -/
def Obligations.LinkBytesMakeFrames : Prop :=
  ∀ (s : State) (h : HeadNo) (v : Byte),
    let rx := (s.link h).rx
    let receiving := fun r : Receiver => { s with links := Bank.put s.links h { s.link h with rx := r } }
    (rx.state = .hunt → v ≠ 0xC3 → exec (.headLinkByte h v) s = .next s) ∧
    (rx.state = .hunt → v = 0xC3 → exec (.headLinkByte h v) s = .next (receiving
      { state := .kind, kind := 0, expected := 0, sum := 0, payload := [], gapRunning := true })) ∧
    (rx.state = .kind →
      (∀ n, (v, n) ∈ ([(0x01, 6), (0x02, 8), (0x03, 6), (0x0F, 1)] : List (Byte × Nat)) →
        exec (.headLinkByte h v) s = .next (receiving
          { state := .body, kind := v, expected := n, sum := v, payload := [], gapRunning := true })) ∧
      (v ∉ ([0x01, 0x02, 0x03, 0x0F] : List Byte) → exec (.headLinkByte h v) s = exec (.unknownKind h v) s)) ∧
    (rx.state = .body → 1 < rx.expected → exec (.headLinkByte h v) s = .next (receiving
      { rx with expected := rx.expected - 1, sum := rx.sum + v, payload := rx.payload ++ [v], gapRunning := true })) ∧
    (rx.state = .body → rx.expected = 1 → rx.sum + v ≠ 0 → exec (.headLinkByte h v) s = exec (.badFrame h) s) ∧
    (rx.state = .body → rx.expected = 1 → rx.sum + v = 0 →
      ∀ tag r1 r0 c1 c0 d1 d0 : Byte,
        (rx.kind = 0x01 → rx.payload = [tag, r1, r0, c1, c0] →
          exec (.headLinkByte h v) s = exec (.probe h tag (r1 ++ r0) (c1 ++ c0)) s) ∧
        (rx.kind = 0x02 → rx.payload = [tag, r1, r0, c1, c0, d1, d0] →
          exec (.headLinkByte h v) s = exec (.report h tag (r1 ++ r0) (c1 ++ c0) (d1 ++ d0)) s) ∧
        (rx.kind = 0x03 → rx.payload = [tag, r1, r0, c1, c0] →
          exec (.headLinkByte h v) s = exec (.release h tag (r1 ++ r0) (c1 ++ c0)) s) ∧
        (rx.kind = 0x0F → rx.payload = [] → exec (.headLinkByte h v) s = exec (.linkReset h) s))

/-! ## Ticks and pulses (spec 08; R112 of spec 06) -/

/-- R112, R135, R139: a tick at one head's monitor and at one head's hold timer as rows of their own, and at all of
them: every counting monitor adds 1 or, at 65535, enters STALLED, and then every running hold timer adds 1 or
expires. Heads are taken in ascending order, monitors before timers (log entry 6). -/
def Obligations.TicksCountAndExpire : Prop :=
  (∀ (s : State) (h : HeadNo),
    let m := s.monitor h
    let brink := m.running = true ∧ (m.state ≠ .stalled ∨ m.opened = true) ∧ 65534 ≤ m.counter
    (¬brink → exec (.stallEntry h) s = .next s) ∧
    (brink → exec (.stallEntry h) s = .next { s with
      monitors := Bank.put s.monitors h { m with state := .stalled, opened := false, index := 0, counter := 65535 }
      attn := if m.state = .stalled then s.attn else s.attn.raise .stall })) ∧
  (∀ (s : State) (h : HeadNo),
    ((s.claim h).timer = none → exec (.holdTimerExpiry h) s = .next s) ∧
    ∀ n, (s.claim h).timer = some n →
      (n + 1 < (s.head h).holdTimeout * 4096 → exec (.holdTimerExpiry h) s = .next s) ∧
      ((s.head h).holdTimeout * 4096 ≤ n + 1 → ∀ o k,
        (s.head h).outstanding = some o → o.wait = .claim → o.key = some k →
        exec (.holdTimerExpiry h) s = .next ((answered { s with
          dir := s.dir.map (fun x =>
            if x.key = k then { x with waiters := x.waiters.filter (fun g => decide (g ≠ h)) } else x)
          claims := Bank.put s.claims h { s.claim h with timer := none }
          attn := s.attn.raise .contested } h o .contested 0 0).settle h))) ∧
  ∀ s : State,
    let counts := fun m : LoadMonitor => m.running && (decide (m.state ≠ .stalled) || m.opened)
    let stalls := fun m : LoadMonitor => counts m && decide (65534 ≤ m.counter)
    let ticked : State := { s with
      monitors := s.monitors.map (fun m : LoadMonitor =>
        if stalls m then { m with state := .stalled, opened := false, index := 0, counter := 65535 }
        else if counts m then { m with counter := m.counter + 1 } else m)
      attn := if ∃ h : HeadNo, stalls (s.monitor h) = true ∧ (s.monitor h).state ≠ .stalled
        then s.attn.raise .stall else s.attn }
    ∃ t, exec .timeBaseTick s = .next t ∧ t = ([0, 1, 2, 3, 4, 5, 6, 7] : List HeadNo).foldl (fun u h =>
      match (u.claim h).timer with
      | none => u
      | some n => if (u.head h).holdTimeout * 4096 ≤ n + 1 then u.holdExpiry h
          else { u with claims := Bank.put u.claims h { u.claim h with timer := some (n + 1) } }) ticked

/-- R140, R141, R143: an index pulse at a stopped monitor does nothing; on a closed window it opens one; short of
N it counts; the N-th completes the window, with a period of at least 1, and opens the next. Pending values are
applied at a window's start, where VALID becomes NONE. -/
def Obligations.IndexPulseMeasures : Prop :=
  ∀ (s : State) (h : HeadNo),
    let m := s.monitor h
    let put := fun m' : LoadMonitor => { s with monitors := Bank.put s.monitors h m' }
    let opening := fun m' : LoadMonitor =>
      if m.pendFlag then { m' with
        counter := 0, index := 0, opened := true, curN := m.pendN, curP0 := m.pendP0, pendFlag := false
        state := if m'.state = .valid then .none else m'.state }
      else { m' with counter := 0, index := 0, opened := true }
    (m.running = false → exec (.indexPulse h) s = .next s) ∧
    (m.running = true → m.opened = false → exec (.indexPulse h) s = .next (put (opening m))) ∧
    (m.running = true → m.opened = true → m.index + 1 < m.curN →
      exec (.indexPulse h) s = .next (put { m with index := m.index + 1 })) ∧
    (m.running = true → m.opened = true → m.curN ≤ m.index + 1 →
      exec (.indexPulse h) s = .next (put (opening { m with lastP := max m.counter 1, state := .valid })))

/-- R142: an index pulse and a tick in either order, at the tick that would bring the counter to 65535 and at an
ordinary one; no pending values wait (R143). -/
def Obligations.PulseAndTickOrders : Prop :=
  ∀ (s : State) (h : HeadNo), (s.monitor h).running = true → (s.monitor h).pendFlag = false →
    let m := s.monitor h
    ∃ p pt t tp, exec (.indexPulse h) s = .next p ∧ exec .timeBaseTick p = .next pt ∧
      exec .timeBaseTick s = .next t ∧ exec (.indexPulse h) t = .next tp ∧
      (m.counter = 65534 → (m.state ≠ .stalled ∨ m.opened = true) →
        (m.opened = true → m.index + 1 = m.curN → pt.monitor h =
          { m with lastP := 65534, state := .valid, opened := true, counter := 1, index := 0 }) ∧
        (m.opened = true → m.index + 1 < m.curN → (p.monitor h).index = m.index + 1 ∧ pt.monitor h =
          { m with state := .stalled, opened := false, counter := 65535, index := 0 }) ∧
        (m.opened = false → m.state = .arming → pt.monitor h = { m with opened := true, counter := 1, index := 0 }) ∧
        t.monitor h = { m with state := .stalled, opened := false, counter := 65535, index := 0 } ∧
        tp.monitor h = { m with state := .stalled, opened := true, counter := 0, index := 0 }) ∧
      (m.opened = true → 1 ≤ m.counter → m.counter < 65534 → m.index + 1 = m.curN →
        (pt.monitor h).lastP = m.counter ∧ (tp.monitor h).lastP = m.counter + 1 ∧
        (pt.monitor h).state = .valid ∧ (tp.monitor h).state = .valid)

/-! ## Invariants -/

/-- Every command keeps the canonical form of the Tile Store and, beside it, the range of every depth (R1). -/
def Obligations.StoreStaysInOrder : Prop :=
  KeptByEveryStep StoreCanonical ∧ KeptByEveryStep (fun s => StoreCanonical s ∧ DepthsInRange s)

/-- R17, R23, R24, R29, R30, R34, R41, R56: every command keeps the directory exact: keys distinct, slots
accounted for, both counts of every settled entry those of its cells, DONE exactly where nothing remains, and
the Done Queue free of repeats and of keys that are not DONE. -/
def Obligations.DirectoryStaysExact : Prop := KeptByEveryStep DirectoryExact

/-- R99, R104, R56, R60: with the directory exact, every command keeps the claims, the wait lists, the hold timers
and the copy-wait list in agreement with the heads. R19: with all of that, every command leaves the store free
only while no requester waits for it, and its grant with one that presents an access. -/
def Obligations.WaitsAndGrantsStayInOrder : Prop :=
  (KeptByEveryStep (fun s => DirectoryExact s ∧ ClaimsAgree s ∧ CopyWaitAgrees s)) ∧
  KeptByEveryStep (fun s => DirectoryExact s ∧ ClaimsAgree s ∧ CopyWaitAgrees s ∧ ArbiterInOrder s)

/-- R4, R8, R93, R117, R129, R135, R137, R138, R148, R149, R162: every command keeps the head records, the monitors,
the hold, the receivers, the port and the tables in their ranges. -/
def Obligations.RegistersStayInRange : Prop :=
  KeptByEveryStep HeadsInOrder ∧ KeptByEveryStep (fun s => HeadsInOrder s ∧ SpindlesInOrder s) ∧
  KeptByEveryStep HoldInOrder ∧ KeptByEveryStep LinksInOrder ∧ KeptByEveryStep TablesInRange

/-- Each invariant holds right after reset. -/
def Obligations.ResetMeetsInvariants : Prop :=
  StoreCanonical State.reset ∧ DepthsInRange State.reset ∧ DirectoryExact State.reset ∧ ClaimsAgree State.reset ∧
  CopyWaitAgrees State.reset ∧ ArbiterInOrder State.reset ∧ HeadsInOrder State.reset ∧ SpindlesInOrder State.reset ∧
  HoldInOrder State.reset ∧ LinksInOrder State.reset ∧ TablesInRange State.reset
end

