-- ==== Sys2Proof/Laws/State.lean ====
section
/-! SUPPORT. What each update of the state does to each field: one lemma per update and field, all true by
definition, and the lemmas of the banks of eight. -/

namespace Sys2Proof.Machine

/-! ## The banks of eight -/

@[simp] theorem Bank.at_put_same {α : Type} (b : Bank α) (i : Fin 8) (x : α) :
    Bank.at (Bank.put b i x) i = x := by
  simp [Bank.at, Bank.put]

theorem Bank.at_put_other {α : Type} (b : Bank α) (i j : Fin 8) (x : α) (h : j ≠ i) :
    Bank.at (Bank.put b i x) j = Bank.at b j := by
  have hv : i.val ≠ j.val := fun e => h (Fin.ext e.symm)
  simp [Bank.at, Bank.put, hv]

theorem Bank.at_put {α : Type} (b : Bank α) (i j : Fin 8) (x : α) :
    Bank.at (Bank.put b i x) j = if j = i then x else Bank.at b j := by
  split
  · subst_vars; simp
  · exact Bank.at_put_other b i j x ‹_›

@[simp] theorem Bank.at_map {α β : Type} (b : Bank α) (g : α → β) (i : Fin 8) :
    Bank.at (b.map g) i = g (Bank.at b i) := by
  simp [Bank.at]

@[simp] theorem Bank.at_replicate {α : Type} (x : α) (i : Fin 8) :
    Bank.at (Vector.replicate 8 x : Bank α) i = x := by
  simp [Bank.at]

/-- Two banks that agree at every place are equal. -/
theorem Bank.ext {α : Type} {b c : Bank α} (h : ∀ i : Fin 8, Bank.at b i = Bank.at c i) : b = c :=
  Vector.ext fun i hi => h ⟨i, hi⟩

/-! ## `State.onHead` -/

@[simp] theorem State.onHead_copies (s : State) (h : HeadNo) (f : HeadUnit → HeadUnit) :
    (s.onHead h f).copies = s.copies := rfl
@[simp] theorem State.onHead_bands (s : State) (h : HeadNo) (f : HeadUnit → HeadUnit) :
    (s.onHead h f).bands = s.bands := rfl
@[simp] theorem State.onHead_dir (s : State) (h : HeadNo) (f : HeadUnit → HeadUnit) :
    (s.onHead h f).dir = s.dir := rfl
@[simp] theorem State.onHead_freeSlots (s : State) (h : HeadNo) (f : HeadUnit → HeadUnit) :
    (s.onHead h f).freeSlots = s.freeSlots := rfl
@[simp] theorem State.onHead_done (s : State) (h : HeadNo) (f : HeadUnit → HeadUnit) :
    (s.onHead h f).done = s.done := rfl
@[simp] theorem State.onHead_store (s : State) (h : HeadNo) (f : HeadUnit → HeadUnit) :
    (s.onHead h f).store = s.store := rfl
@[simp] theorem State.onHead_arb (s : State) (h : HeadNo) (f : HeadUnit → HeadUnit) :
    (s.onHead h f).arb = s.arb := rfl
@[simp] theorem State.onHead_load (s : State) (h : HeadNo) (f : HeadUnit → HeadUnit) :
    (s.onHead h f).load = s.load := rfl
@[simp] theorem State.onHead_engine (s : State) (h : HeadNo) (f : HeadUnit → HeadUnit) :
    (s.onHead h f).engine = s.engine := rfl
@[simp] theorem State.onHead_hold (s : State) (h : HeadNo) (f : HeadUnit → HeadUnit) :
    (s.onHead h f).hold = s.hold := rfl
@[simp] theorem State.onHead_claims (s : State) (h : HeadNo) (f : HeadUnit → HeadUnit) :
    (s.onHead h f).claims = s.claims := rfl
@[simp] theorem State.onHead_heads (s : State) (h : HeadNo) (f : HeadUnit → HeadUnit) :
    (s.onHead h f).heads = Bank.put s.heads h (f (s.head h)) := rfl
@[simp] theorem State.onHead_monitors (s : State) (h : HeadNo) (f : HeadUnit → HeadUnit) :
    (s.onHead h f).monitors = s.monitors := rfl
@[simp] theorem State.onHead_timebase (s : State) (h : HeadNo) (f : HeadUnit → HeadUnit) :
    (s.onHead h f).timebase = s.timebase := rfl
@[simp] theorem State.onHead_links (s : State) (h : HeadNo) (f : HeadUnit → HeadUnit) :
    (s.onHead h f).links = s.links := rfl
@[simp] theorem State.onHead_port (s : State) (h : HeadNo) (f : HeadUnit → HeadUnit) :
    (s.onHead h f).port = s.port := rfl
@[simp] theorem State.onHead_attn (s : State) (h : HeadNo) (f : HeadUnit → HeadUnit) :
    (s.onHead h f).attn = s.attn := rfl
@[simp] theorem State.onHead_pending (s : State) (h : HeadNo) (f : HeadUnit → HeadUnit) :
    (s.onHead h f).pending = s.pending := rfl

/-! ## `State.onClaim` -/

@[simp] theorem State.onClaim_copies (s : State) (h : HeadNo) (f : ClaimUnit → ClaimUnit) :
    (s.onClaim h f).copies = s.copies := rfl
@[simp] theorem State.onClaim_bands (s : State) (h : HeadNo) (f : ClaimUnit → ClaimUnit) :
    (s.onClaim h f).bands = s.bands := rfl
@[simp] theorem State.onClaim_dir (s : State) (h : HeadNo) (f : ClaimUnit → ClaimUnit) :
    (s.onClaim h f).dir = s.dir := rfl
@[simp] theorem State.onClaim_freeSlots (s : State) (h : HeadNo) (f : ClaimUnit → ClaimUnit) :
    (s.onClaim h f).freeSlots = s.freeSlots := rfl
@[simp] theorem State.onClaim_done (s : State) (h : HeadNo) (f : ClaimUnit → ClaimUnit) :
    (s.onClaim h f).done = s.done := rfl
@[simp] theorem State.onClaim_store (s : State) (h : HeadNo) (f : ClaimUnit → ClaimUnit) :
    (s.onClaim h f).store = s.store := rfl
@[simp] theorem State.onClaim_arb (s : State) (h : HeadNo) (f : ClaimUnit → ClaimUnit) :
    (s.onClaim h f).arb = s.arb := rfl
@[simp] theorem State.onClaim_load (s : State) (h : HeadNo) (f : ClaimUnit → ClaimUnit) :
    (s.onClaim h f).load = s.load := rfl
@[simp] theorem State.onClaim_engine (s : State) (h : HeadNo) (f : ClaimUnit → ClaimUnit) :
    (s.onClaim h f).engine = s.engine := rfl
@[simp] theorem State.onClaim_hold (s : State) (h : HeadNo) (f : ClaimUnit → ClaimUnit) :
    (s.onClaim h f).hold = s.hold := rfl
@[simp] theorem State.onClaim_claims (s : State) (h : HeadNo) (f : ClaimUnit → ClaimUnit) :
    (s.onClaim h f).claims = Bank.put s.claims h (f (s.claim h)) := rfl
@[simp] theorem State.onClaim_heads (s : State) (h : HeadNo) (f : ClaimUnit → ClaimUnit) :
    (s.onClaim h f).heads = s.heads := rfl
@[simp] theorem State.onClaim_monitors (s : State) (h : HeadNo) (f : ClaimUnit → ClaimUnit) :
    (s.onClaim h f).monitors = s.monitors := rfl
@[simp] theorem State.onClaim_timebase (s : State) (h : HeadNo) (f : ClaimUnit → ClaimUnit) :
    (s.onClaim h f).timebase = s.timebase := rfl
@[simp] theorem State.onClaim_links (s : State) (h : HeadNo) (f : ClaimUnit → ClaimUnit) :
    (s.onClaim h f).links = s.links := rfl
@[simp] theorem State.onClaim_port (s : State) (h : HeadNo) (f : ClaimUnit → ClaimUnit) :
    (s.onClaim h f).port = s.port := rfl
@[simp] theorem State.onClaim_attn (s : State) (h : HeadNo) (f : ClaimUnit → ClaimUnit) :
    (s.onClaim h f).attn = s.attn := rfl
@[simp] theorem State.onClaim_pending (s : State) (h : HeadNo) (f : ClaimUnit → ClaimUnit) :
    (s.onClaim h f).pending = s.pending := rfl

/-! ## `State.onMonitor` -/

@[simp] theorem State.onMonitor_copies (s : State) (h : HeadNo) (f : LoadMonitor → LoadMonitor) :
    (s.onMonitor h f).copies = s.copies := rfl
@[simp] theorem State.onMonitor_bands (s : State) (h : HeadNo) (f : LoadMonitor → LoadMonitor) :
    (s.onMonitor h f).bands = s.bands := rfl
@[simp] theorem State.onMonitor_dir (s : State) (h : HeadNo) (f : LoadMonitor → LoadMonitor) :
    (s.onMonitor h f).dir = s.dir := rfl
@[simp] theorem State.onMonitor_freeSlots (s : State) (h : HeadNo) (f : LoadMonitor → LoadMonitor) :
    (s.onMonitor h f).freeSlots = s.freeSlots := rfl
@[simp] theorem State.onMonitor_done (s : State) (h : HeadNo) (f : LoadMonitor → LoadMonitor) :
    (s.onMonitor h f).done = s.done := rfl
@[simp] theorem State.onMonitor_store (s : State) (h : HeadNo) (f : LoadMonitor → LoadMonitor) :
    (s.onMonitor h f).store = s.store := rfl
@[simp] theorem State.onMonitor_arb (s : State) (h : HeadNo) (f : LoadMonitor → LoadMonitor) :
    (s.onMonitor h f).arb = s.arb := rfl
@[simp] theorem State.onMonitor_load (s : State) (h : HeadNo) (f : LoadMonitor → LoadMonitor) :
    (s.onMonitor h f).load = s.load := rfl
@[simp] theorem State.onMonitor_engine (s : State) (h : HeadNo) (f : LoadMonitor → LoadMonitor) :
    (s.onMonitor h f).engine = s.engine := rfl
@[simp] theorem State.onMonitor_hold (s : State) (h : HeadNo) (f : LoadMonitor → LoadMonitor) :
    (s.onMonitor h f).hold = s.hold := rfl
@[simp] theorem State.onMonitor_claims (s : State) (h : HeadNo) (f : LoadMonitor → LoadMonitor) :
    (s.onMonitor h f).claims = s.claims := rfl
@[simp] theorem State.onMonitor_heads (s : State) (h : HeadNo) (f : LoadMonitor → LoadMonitor) :
    (s.onMonitor h f).heads = s.heads := rfl
@[simp] theorem State.onMonitor_monitors (s : State) (h : HeadNo) (f : LoadMonitor → LoadMonitor) :
    (s.onMonitor h f).monitors = Bank.put s.monitors h (f (s.monitor h)) := rfl
@[simp] theorem State.onMonitor_timebase (s : State) (h : HeadNo) (f : LoadMonitor → LoadMonitor) :
    (s.onMonitor h f).timebase = s.timebase := rfl
@[simp] theorem State.onMonitor_links (s : State) (h : HeadNo) (f : LoadMonitor → LoadMonitor) :
    (s.onMonitor h f).links = s.links := rfl
@[simp] theorem State.onMonitor_port (s : State) (h : HeadNo) (f : LoadMonitor → LoadMonitor) :
    (s.onMonitor h f).port = s.port := rfl
@[simp] theorem State.onMonitor_attn (s : State) (h : HeadNo) (f : LoadMonitor → LoadMonitor) :
    (s.onMonitor h f).attn = s.attn := rfl
@[simp] theorem State.onMonitor_pending (s : State) (h : HeadNo) (f : LoadMonitor → LoadMonitor) :
    (s.onMonitor h f).pending = s.pending := rfl

/-! ## `State.onLink` -/

@[simp] theorem State.onLink_copies (s : State) (h : HeadNo) (f : Link → Link) :
    (s.onLink h f).copies = s.copies := rfl
@[simp] theorem State.onLink_bands (s : State) (h : HeadNo) (f : Link → Link) :
    (s.onLink h f).bands = s.bands := rfl
@[simp] theorem State.onLink_dir (s : State) (h : HeadNo) (f : Link → Link) :
    (s.onLink h f).dir = s.dir := rfl
@[simp] theorem State.onLink_freeSlots (s : State) (h : HeadNo) (f : Link → Link) :
    (s.onLink h f).freeSlots = s.freeSlots := rfl
@[simp] theorem State.onLink_done (s : State) (h : HeadNo) (f : Link → Link) :
    (s.onLink h f).done = s.done := rfl
@[simp] theorem State.onLink_store (s : State) (h : HeadNo) (f : Link → Link) :
    (s.onLink h f).store = s.store := rfl
@[simp] theorem State.onLink_arb (s : State) (h : HeadNo) (f : Link → Link) :
    (s.onLink h f).arb = s.arb := rfl
@[simp] theorem State.onLink_load (s : State) (h : HeadNo) (f : Link → Link) :
    (s.onLink h f).load = s.load := rfl
@[simp] theorem State.onLink_engine (s : State) (h : HeadNo) (f : Link → Link) :
    (s.onLink h f).engine = s.engine := rfl
@[simp] theorem State.onLink_hold (s : State) (h : HeadNo) (f : Link → Link) :
    (s.onLink h f).hold = s.hold := rfl
@[simp] theorem State.onLink_claims (s : State) (h : HeadNo) (f : Link → Link) :
    (s.onLink h f).claims = s.claims := rfl
@[simp] theorem State.onLink_heads (s : State) (h : HeadNo) (f : Link → Link) :
    (s.onLink h f).heads = s.heads := rfl
@[simp] theorem State.onLink_monitors (s : State) (h : HeadNo) (f : Link → Link) :
    (s.onLink h f).monitors = s.monitors := rfl
@[simp] theorem State.onLink_timebase (s : State) (h : HeadNo) (f : Link → Link) :
    (s.onLink h f).timebase = s.timebase := rfl
@[simp] theorem State.onLink_links (s : State) (h : HeadNo) (f : Link → Link) :
    (s.onLink h f).links = Bank.put s.links h (f (s.link h)) := rfl
@[simp] theorem State.onLink_port (s : State) (h : HeadNo) (f : Link → Link) :
    (s.onLink h f).port = s.port := rfl
@[simp] theorem State.onLink_attn (s : State) (h : HeadNo) (f : Link → Link) :
    (s.onLink h f).attn = s.attn := rfl
@[simp] theorem State.onLink_pending (s : State) (h : HeadNo) (f : Link → Link) :
    (s.onLink h f).pending = s.pending := rfl

/-! ## `State.onCopy` -/

@[simp] theorem State.onCopy_copies (s : State) (y : CopyNo) (f : CopyRecord → CopyRecord) :
    (s.onCopy y f).copies = Bank.put s.copies y (f (s.copy y)) := rfl
@[simp] theorem State.onCopy_bands (s : State) (y : CopyNo) (f : CopyRecord → CopyRecord) :
    (s.onCopy y f).bands = s.bands := rfl
@[simp] theorem State.onCopy_dir (s : State) (y : CopyNo) (f : CopyRecord → CopyRecord) :
    (s.onCopy y f).dir = s.dir := rfl
@[simp] theorem State.onCopy_freeSlots (s : State) (y : CopyNo) (f : CopyRecord → CopyRecord) :
    (s.onCopy y f).freeSlots = s.freeSlots := rfl
@[simp] theorem State.onCopy_done (s : State) (y : CopyNo) (f : CopyRecord → CopyRecord) :
    (s.onCopy y f).done = s.done := rfl
@[simp] theorem State.onCopy_store (s : State) (y : CopyNo) (f : CopyRecord → CopyRecord) :
    (s.onCopy y f).store = s.store := rfl
@[simp] theorem State.onCopy_arb (s : State) (y : CopyNo) (f : CopyRecord → CopyRecord) :
    (s.onCopy y f).arb = s.arb := rfl
@[simp] theorem State.onCopy_load (s : State) (y : CopyNo) (f : CopyRecord → CopyRecord) :
    (s.onCopy y f).load = s.load := rfl
@[simp] theorem State.onCopy_engine (s : State) (y : CopyNo) (f : CopyRecord → CopyRecord) :
    (s.onCopy y f).engine = s.engine := rfl
@[simp] theorem State.onCopy_hold (s : State) (y : CopyNo) (f : CopyRecord → CopyRecord) :
    (s.onCopy y f).hold = s.hold := rfl
@[simp] theorem State.onCopy_claims (s : State) (y : CopyNo) (f : CopyRecord → CopyRecord) :
    (s.onCopy y f).claims = s.claims := rfl
@[simp] theorem State.onCopy_heads (s : State) (y : CopyNo) (f : CopyRecord → CopyRecord) :
    (s.onCopy y f).heads = s.heads := rfl
@[simp] theorem State.onCopy_monitors (s : State) (y : CopyNo) (f : CopyRecord → CopyRecord) :
    (s.onCopy y f).monitors = s.monitors := rfl
@[simp] theorem State.onCopy_timebase (s : State) (y : CopyNo) (f : CopyRecord → CopyRecord) :
    (s.onCopy y f).timebase = s.timebase := rfl
@[simp] theorem State.onCopy_links (s : State) (y : CopyNo) (f : CopyRecord → CopyRecord) :
    (s.onCopy y f).links = s.links := rfl
@[simp] theorem State.onCopy_port (s : State) (y : CopyNo) (f : CopyRecord → CopyRecord) :
    (s.onCopy y f).port = s.port := rfl
@[simp] theorem State.onCopy_attn (s : State) (y : CopyNo) (f : CopyRecord → CopyRecord) :
    (s.onCopy y f).attn = s.attn := rfl
@[simp] theorem State.onCopy_pending (s : State) (y : CopyNo) (f : CopyRecord → CopyRecord) :
    (s.onCopy y f).pending = s.pending := rfl

/-! ## `State.onBand` -/

@[simp] theorem State.onBand_copies (s : State) (y : CopyNo) (b : Fin 8) (f : BandRecord → BandRecord) :
    (s.onBand y b f).copies = s.copies := rfl
@[simp] theorem State.onBand_bands (s : State) (y : CopyNo) (b : Fin 8) (f : BandRecord → BandRecord) :
    (s.onBand y b f).bands = Bank.put s.bands y (Bank.put (Bank.at s.bands y) b (f (s.band y b))) := rfl
@[simp] theorem State.onBand_dir (s : State) (y : CopyNo) (b : Fin 8) (f : BandRecord → BandRecord) :
    (s.onBand y b f).dir = s.dir := rfl
@[simp] theorem State.onBand_freeSlots (s : State) (y : CopyNo) (b : Fin 8) (f : BandRecord → BandRecord) :
    (s.onBand y b f).freeSlots = s.freeSlots := rfl
@[simp] theorem State.onBand_done (s : State) (y : CopyNo) (b : Fin 8) (f : BandRecord → BandRecord) :
    (s.onBand y b f).done = s.done := rfl
@[simp] theorem State.onBand_store (s : State) (y : CopyNo) (b : Fin 8) (f : BandRecord → BandRecord) :
    (s.onBand y b f).store = s.store := rfl
@[simp] theorem State.onBand_arb (s : State) (y : CopyNo) (b : Fin 8) (f : BandRecord → BandRecord) :
    (s.onBand y b f).arb = s.arb := rfl
@[simp] theorem State.onBand_load (s : State) (y : CopyNo) (b : Fin 8) (f : BandRecord → BandRecord) :
    (s.onBand y b f).load = s.load := rfl
@[simp] theorem State.onBand_engine (s : State) (y : CopyNo) (b : Fin 8) (f : BandRecord → BandRecord) :
    (s.onBand y b f).engine = s.engine := rfl
@[simp] theorem State.onBand_hold (s : State) (y : CopyNo) (b : Fin 8) (f : BandRecord → BandRecord) :
    (s.onBand y b f).hold = s.hold := rfl
@[simp] theorem State.onBand_claims (s : State) (y : CopyNo) (b : Fin 8) (f : BandRecord → BandRecord) :
    (s.onBand y b f).claims = s.claims := rfl
@[simp] theorem State.onBand_heads (s : State) (y : CopyNo) (b : Fin 8) (f : BandRecord → BandRecord) :
    (s.onBand y b f).heads = s.heads := rfl
@[simp] theorem State.onBand_monitors (s : State) (y : CopyNo) (b : Fin 8) (f : BandRecord → BandRecord) :
    (s.onBand y b f).monitors = s.monitors := rfl
@[simp] theorem State.onBand_timebase (s : State) (y : CopyNo) (b : Fin 8) (f : BandRecord → BandRecord) :
    (s.onBand y b f).timebase = s.timebase := rfl
@[simp] theorem State.onBand_links (s : State) (y : CopyNo) (b : Fin 8) (f : BandRecord → BandRecord) :
    (s.onBand y b f).links = s.links := rfl
@[simp] theorem State.onBand_port (s : State) (y : CopyNo) (b : Fin 8) (f : BandRecord → BandRecord) :
    (s.onBand y b f).port = s.port := rfl
@[simp] theorem State.onBand_attn (s : State) (y : CopyNo) (b : Fin 8) (f : BandRecord → BandRecord) :
    (s.onBand y b f).attn = s.attn := rfl
@[simp] theorem State.onBand_pending (s : State) (y : CopyNo) (b : Fin 8) (f : BandRecord → BandRecord) :
    (s.onBand y b f).pending = s.pending := rfl

/-! ## `State.onPort` -/

@[simp] theorem State.onPort_copies (s : State) (f : Port → Port) :
    (s.onPort f).copies = s.copies := rfl
@[simp] theorem State.onPort_bands (s : State) (f : Port → Port) :
    (s.onPort f).bands = s.bands := rfl
@[simp] theorem State.onPort_dir (s : State) (f : Port → Port) :
    (s.onPort f).dir = s.dir := rfl
@[simp] theorem State.onPort_freeSlots (s : State) (f : Port → Port) :
    (s.onPort f).freeSlots = s.freeSlots := rfl
@[simp] theorem State.onPort_done (s : State) (f : Port → Port) :
    (s.onPort f).done = s.done := rfl
@[simp] theorem State.onPort_store (s : State) (f : Port → Port) :
    (s.onPort f).store = s.store := rfl
@[simp] theorem State.onPort_arb (s : State) (f : Port → Port) :
    (s.onPort f).arb = s.arb := rfl
@[simp] theorem State.onPort_load (s : State) (f : Port → Port) :
    (s.onPort f).load = s.load := rfl
@[simp] theorem State.onPort_engine (s : State) (f : Port → Port) :
    (s.onPort f).engine = s.engine := rfl
@[simp] theorem State.onPort_hold (s : State) (f : Port → Port) :
    (s.onPort f).hold = s.hold := rfl
@[simp] theorem State.onPort_claims (s : State) (f : Port → Port) :
    (s.onPort f).claims = s.claims := rfl
@[simp] theorem State.onPort_heads (s : State) (f : Port → Port) :
    (s.onPort f).heads = s.heads := rfl
@[simp] theorem State.onPort_monitors (s : State) (f : Port → Port) :
    (s.onPort f).monitors = s.monitors := rfl
@[simp] theorem State.onPort_timebase (s : State) (f : Port → Port) :
    (s.onPort f).timebase = s.timebase := rfl
@[simp] theorem State.onPort_links (s : State) (f : Port → Port) :
    (s.onPort f).links = s.links := rfl
@[simp] theorem State.onPort_port (s : State) (f : Port → Port) :
    (s.onPort f).port = f s.port := rfl
@[simp] theorem State.onPort_attn (s : State) (f : Port → Port) :
    (s.onPort f).attn = s.attn := rfl
@[simp] theorem State.onPort_pending (s : State) (f : Port → Port) :
    (s.onPort f).pending = s.pending := rfl

/-! ## `State.onLoad` -/

@[simp] theorem State.onLoad_copies (s : State) (f : LoadUnit → LoadUnit) :
    (s.onLoad f).copies = s.copies := rfl
@[simp] theorem State.onLoad_bands (s : State) (f : LoadUnit → LoadUnit) :
    (s.onLoad f).bands = s.bands := rfl
@[simp] theorem State.onLoad_dir (s : State) (f : LoadUnit → LoadUnit) :
    (s.onLoad f).dir = s.dir := rfl
@[simp] theorem State.onLoad_freeSlots (s : State) (f : LoadUnit → LoadUnit) :
    (s.onLoad f).freeSlots = s.freeSlots := rfl
@[simp] theorem State.onLoad_done (s : State) (f : LoadUnit → LoadUnit) :
    (s.onLoad f).done = s.done := rfl
@[simp] theorem State.onLoad_store (s : State) (f : LoadUnit → LoadUnit) :
    (s.onLoad f).store = s.store := rfl
@[simp] theorem State.onLoad_arb (s : State) (f : LoadUnit → LoadUnit) :
    (s.onLoad f).arb = s.arb := rfl
@[simp] theorem State.onLoad_load (s : State) (f : LoadUnit → LoadUnit) :
    (s.onLoad f).load = f s.load := rfl
@[simp] theorem State.onLoad_engine (s : State) (f : LoadUnit → LoadUnit) :
    (s.onLoad f).engine = s.engine := rfl
@[simp] theorem State.onLoad_hold (s : State) (f : LoadUnit → LoadUnit) :
    (s.onLoad f).hold = s.hold := rfl
@[simp] theorem State.onLoad_claims (s : State) (f : LoadUnit → LoadUnit) :
    (s.onLoad f).claims = s.claims := rfl
@[simp] theorem State.onLoad_heads (s : State) (f : LoadUnit → LoadUnit) :
    (s.onLoad f).heads = s.heads := rfl
@[simp] theorem State.onLoad_monitors (s : State) (f : LoadUnit → LoadUnit) :
    (s.onLoad f).monitors = s.monitors := rfl
@[simp] theorem State.onLoad_timebase (s : State) (f : LoadUnit → LoadUnit) :
    (s.onLoad f).timebase = s.timebase := rfl
@[simp] theorem State.onLoad_links (s : State) (f : LoadUnit → LoadUnit) :
    (s.onLoad f).links = s.links := rfl
@[simp] theorem State.onLoad_port (s : State) (f : LoadUnit → LoadUnit) :
    (s.onLoad f).port = s.port := rfl
@[simp] theorem State.onLoad_attn (s : State) (f : LoadUnit → LoadUnit) :
    (s.onLoad f).attn = s.attn := rfl
@[simp] theorem State.onLoad_pending (s : State) (f : LoadUnit → LoadUnit) :
    (s.onLoad f).pending = s.pending := rfl

/-! ## `State.onEngine` -/

@[simp] theorem State.onEngine_copies (s : State) (f : CopyEngine → CopyEngine) :
    (s.onEngine f).copies = s.copies := rfl
@[simp] theorem State.onEngine_bands (s : State) (f : CopyEngine → CopyEngine) :
    (s.onEngine f).bands = s.bands := rfl
@[simp] theorem State.onEngine_dir (s : State) (f : CopyEngine → CopyEngine) :
    (s.onEngine f).dir = s.dir := rfl
@[simp] theorem State.onEngine_freeSlots (s : State) (f : CopyEngine → CopyEngine) :
    (s.onEngine f).freeSlots = s.freeSlots := rfl
@[simp] theorem State.onEngine_done (s : State) (f : CopyEngine → CopyEngine) :
    (s.onEngine f).done = s.done := rfl
@[simp] theorem State.onEngine_store (s : State) (f : CopyEngine → CopyEngine) :
    (s.onEngine f).store = s.store := rfl
@[simp] theorem State.onEngine_arb (s : State) (f : CopyEngine → CopyEngine) :
    (s.onEngine f).arb = s.arb := rfl
@[simp] theorem State.onEngine_load (s : State) (f : CopyEngine → CopyEngine) :
    (s.onEngine f).load = s.load := rfl
@[simp] theorem State.onEngine_engine (s : State) (f : CopyEngine → CopyEngine) :
    (s.onEngine f).engine = f s.engine := rfl
@[simp] theorem State.onEngine_hold (s : State) (f : CopyEngine → CopyEngine) :
    (s.onEngine f).hold = s.hold := rfl
@[simp] theorem State.onEngine_claims (s : State) (f : CopyEngine → CopyEngine) :
    (s.onEngine f).claims = s.claims := rfl
@[simp] theorem State.onEngine_heads (s : State) (f : CopyEngine → CopyEngine) :
    (s.onEngine f).heads = s.heads := rfl
@[simp] theorem State.onEngine_monitors (s : State) (f : CopyEngine → CopyEngine) :
    (s.onEngine f).monitors = s.monitors := rfl
@[simp] theorem State.onEngine_timebase (s : State) (f : CopyEngine → CopyEngine) :
    (s.onEngine f).timebase = s.timebase := rfl
@[simp] theorem State.onEngine_links (s : State) (f : CopyEngine → CopyEngine) :
    (s.onEngine f).links = s.links := rfl
@[simp] theorem State.onEngine_port (s : State) (f : CopyEngine → CopyEngine) :
    (s.onEngine f).port = s.port := rfl
@[simp] theorem State.onEngine_attn (s : State) (f : CopyEngine → CopyEngine) :
    (s.onEngine f).attn = s.attn := rfl
@[simp] theorem State.onEngine_pending (s : State) (f : CopyEngine → CopyEngine) :
    (s.onEngine f).pending = s.pending := rfl

/-! ## `State.onEntry` -/

@[simp] theorem State.onEntry_copies (s : State) (k : TileKey) (f : Entry → Entry) :
    (s.onEntry k f).copies = s.copies := rfl
@[simp] theorem State.onEntry_bands (s : State) (k : TileKey) (f : Entry → Entry) :
    (s.onEntry k f).bands = s.bands := rfl
@[simp] theorem State.onEntry_dir (s : State) (k : TileKey) (f : Entry → Entry) :
    (s.onEntry k f).dir = s.dir.map (fun e => if e.key = k then f e else e) := rfl
@[simp] theorem State.onEntry_freeSlots (s : State) (k : TileKey) (f : Entry → Entry) :
    (s.onEntry k f).freeSlots = s.freeSlots := rfl
@[simp] theorem State.onEntry_done (s : State) (k : TileKey) (f : Entry → Entry) :
    (s.onEntry k f).done = s.done := rfl
@[simp] theorem State.onEntry_store (s : State) (k : TileKey) (f : Entry → Entry) :
    (s.onEntry k f).store = s.store := rfl
@[simp] theorem State.onEntry_arb (s : State) (k : TileKey) (f : Entry → Entry) :
    (s.onEntry k f).arb = s.arb := rfl
@[simp] theorem State.onEntry_load (s : State) (k : TileKey) (f : Entry → Entry) :
    (s.onEntry k f).load = s.load := rfl
@[simp] theorem State.onEntry_engine (s : State) (k : TileKey) (f : Entry → Entry) :
    (s.onEntry k f).engine = s.engine := rfl
@[simp] theorem State.onEntry_hold (s : State) (k : TileKey) (f : Entry → Entry) :
    (s.onEntry k f).hold = s.hold := rfl
@[simp] theorem State.onEntry_claims (s : State) (k : TileKey) (f : Entry → Entry) :
    (s.onEntry k f).claims = s.claims := rfl
@[simp] theorem State.onEntry_heads (s : State) (k : TileKey) (f : Entry → Entry) :
    (s.onEntry k f).heads = s.heads := rfl
@[simp] theorem State.onEntry_monitors (s : State) (k : TileKey) (f : Entry → Entry) :
    (s.onEntry k f).monitors = s.monitors := rfl
@[simp] theorem State.onEntry_timebase (s : State) (k : TileKey) (f : Entry → Entry) :
    (s.onEntry k f).timebase = s.timebase := rfl
@[simp] theorem State.onEntry_links (s : State) (k : TileKey) (f : Entry → Entry) :
    (s.onEntry k f).links = s.links := rfl
@[simp] theorem State.onEntry_port (s : State) (k : TileKey) (f : Entry → Entry) :
    (s.onEntry k f).port = s.port := rfl
@[simp] theorem State.onEntry_attn (s : State) (k : TileKey) (f : Entry → Entry) :
    (s.onEntry k f).attn = s.attn := rfl
@[simp] theorem State.onEntry_pending (s : State) (k : TileKey) (f : Entry → Entry) :
    (s.onEntry k f).pending = s.pending := rfl

/-! ## `State.onCell` -/

@[simp] theorem State.onCell_copies (s : State) (e : Entry) (c : Nat) (f : Cell → Cell) :
    (s.onCell e c f).copies = s.copies := rfl
@[simp] theorem State.onCell_bands (s : State) (e : Entry) (c : Nat) (f : Cell → Cell) :
    (s.onCell e c f).bands = s.bands := rfl
@[simp] theorem State.onCell_dir (s : State) (e : Entry) (c : Nat) (f : Cell → Cell) :
    (s.onCell e c f).dir = s.dir := rfl
@[simp] theorem State.onCell_freeSlots (s : State) (e : Entry) (c : Nat) (f : Cell → Cell) :
    (s.onCell e c f).freeSlots = s.freeSlots := rfl
@[simp] theorem State.onCell_done (s : State) (e : Entry) (c : Nat) (f : Cell → Cell) :
    (s.onCell e c f).done = s.done := rfl
@[simp] theorem State.onCell_store (s : State) (e : Entry) (c : Nat) (f : Cell → Cell) :
    (s.onCell e c f).store = s.store.write (cellAddr e.slot c) (f (s.cell e c)) := rfl
@[simp] theorem State.onCell_arb (s : State) (e : Entry) (c : Nat) (f : Cell → Cell) :
    (s.onCell e c f).arb = s.arb := rfl
@[simp] theorem State.onCell_load (s : State) (e : Entry) (c : Nat) (f : Cell → Cell) :
    (s.onCell e c f).load = s.load := rfl
@[simp] theorem State.onCell_engine (s : State) (e : Entry) (c : Nat) (f : Cell → Cell) :
    (s.onCell e c f).engine = s.engine := rfl
@[simp] theorem State.onCell_hold (s : State) (e : Entry) (c : Nat) (f : Cell → Cell) :
    (s.onCell e c f).hold = s.hold := rfl
@[simp] theorem State.onCell_claims (s : State) (e : Entry) (c : Nat) (f : Cell → Cell) :
    (s.onCell e c f).claims = s.claims := rfl
@[simp] theorem State.onCell_heads (s : State) (e : Entry) (c : Nat) (f : Cell → Cell) :
    (s.onCell e c f).heads = s.heads := rfl
@[simp] theorem State.onCell_monitors (s : State) (e : Entry) (c : Nat) (f : Cell → Cell) :
    (s.onCell e c f).monitors = s.monitors := rfl
@[simp] theorem State.onCell_timebase (s : State) (e : Entry) (c : Nat) (f : Cell → Cell) :
    (s.onCell e c f).timebase = s.timebase := rfl
@[simp] theorem State.onCell_links (s : State) (e : Entry) (c : Nat) (f : Cell → Cell) :
    (s.onCell e c f).links = s.links := rfl
@[simp] theorem State.onCell_port (s : State) (e : Entry) (c : Nat) (f : Cell → Cell) :
    (s.onCell e c f).port = s.port := rfl
@[simp] theorem State.onCell_attn (s : State) (e : Entry) (c : Nat) (f : Cell → Cell) :
    (s.onCell e c f).attn = s.attn := rfl
@[simp] theorem State.onCell_pending (s : State) (e : Entry) (c : Nat) (f : Cell → Cell) :
    (s.onCell e c f).pending = s.pending := rfl

/-! ## `State.onCells` -/

@[simp] theorem State.onCells_copies (s : State) (e : Entry) (cs : List Nat) (f : Nat → Cell → Cell) :
    (s.onCells e cs f).copies = s.copies := rfl
@[simp] theorem State.onCells_bands (s : State) (e : Entry) (cs : List Nat) (f : Nat → Cell → Cell) :
    (s.onCells e cs f).bands = s.bands := rfl
@[simp] theorem State.onCells_dir (s : State) (e : Entry) (cs : List Nat) (f : Nat → Cell → Cell) :
    (s.onCells e cs f).dir = s.dir := rfl
@[simp] theorem State.onCells_freeSlots (s : State) (e : Entry) (cs : List Nat) (f : Nat → Cell → Cell) :
    (s.onCells e cs f).freeSlots = s.freeSlots := rfl
@[simp] theorem State.onCells_done (s : State) (e : Entry) (cs : List Nat) (f : Nat → Cell → Cell) :
    (s.onCells e cs f).done = s.done := rfl
@[simp] theorem State.onCells_store (s : State) (e : Entry) (cs : List Nat) (f : Nat → Cell → Cell) :
    (s.onCells e cs f).store = s.store.updateCells e.slot cs f := rfl
@[simp] theorem State.onCells_arb (s : State) (e : Entry) (cs : List Nat) (f : Nat → Cell → Cell) :
    (s.onCells e cs f).arb = s.arb := rfl
@[simp] theorem State.onCells_load (s : State) (e : Entry) (cs : List Nat) (f : Nat → Cell → Cell) :
    (s.onCells e cs f).load = s.load := rfl
@[simp] theorem State.onCells_engine (s : State) (e : Entry) (cs : List Nat) (f : Nat → Cell → Cell) :
    (s.onCells e cs f).engine = s.engine := rfl
@[simp] theorem State.onCells_hold (s : State) (e : Entry) (cs : List Nat) (f : Nat → Cell → Cell) :
    (s.onCells e cs f).hold = s.hold := rfl
@[simp] theorem State.onCells_claims (s : State) (e : Entry) (cs : List Nat) (f : Nat → Cell → Cell) :
    (s.onCells e cs f).claims = s.claims := rfl
@[simp] theorem State.onCells_heads (s : State) (e : Entry) (cs : List Nat) (f : Nat → Cell → Cell) :
    (s.onCells e cs f).heads = s.heads := rfl
@[simp] theorem State.onCells_monitors (s : State) (e : Entry) (cs : List Nat) (f : Nat → Cell → Cell) :
    (s.onCells e cs f).monitors = s.monitors := rfl
@[simp] theorem State.onCells_timebase (s : State) (e : Entry) (cs : List Nat) (f : Nat → Cell → Cell) :
    (s.onCells e cs f).timebase = s.timebase := rfl
@[simp] theorem State.onCells_links (s : State) (e : Entry) (cs : List Nat) (f : Nat → Cell → Cell) :
    (s.onCells e cs f).links = s.links := rfl
@[simp] theorem State.onCells_port (s : State) (e : Entry) (cs : List Nat) (f : Nat → Cell → Cell) :
    (s.onCells e cs f).port = s.port := rfl
@[simp] theorem State.onCells_attn (s : State) (e : Entry) (cs : List Nat) (f : Nat → Cell → Cell) :
    (s.onCells e cs f).attn = s.attn := rfl
@[simp] theorem State.onCells_pending (s : State) (e : Entry) (cs : List Nat) (f : Nat → Cell → Cell) :
    (s.onCells e cs f).pending = s.pending := rfl

/-! ## `State.raise` -/

@[simp] theorem State.raise_copies (s : State) (x : EventFlag) :
    (s.raise x).copies = s.copies := rfl
@[simp] theorem State.raise_bands (s : State) (x : EventFlag) :
    (s.raise x).bands = s.bands := rfl
@[simp] theorem State.raise_dir (s : State) (x : EventFlag) :
    (s.raise x).dir = s.dir := rfl
@[simp] theorem State.raise_freeSlots (s : State) (x : EventFlag) :
    (s.raise x).freeSlots = s.freeSlots := rfl
@[simp] theorem State.raise_done (s : State) (x : EventFlag) :
    (s.raise x).done = s.done := rfl
@[simp] theorem State.raise_store (s : State) (x : EventFlag) :
    (s.raise x).store = s.store := rfl
@[simp] theorem State.raise_arb (s : State) (x : EventFlag) :
    (s.raise x).arb = s.arb := rfl
@[simp] theorem State.raise_load (s : State) (x : EventFlag) :
    (s.raise x).load = s.load := rfl
@[simp] theorem State.raise_engine (s : State) (x : EventFlag) :
    (s.raise x).engine = s.engine := rfl
@[simp] theorem State.raise_hold (s : State) (x : EventFlag) :
    (s.raise x).hold = s.hold := rfl
@[simp] theorem State.raise_claims (s : State) (x : EventFlag) :
    (s.raise x).claims = s.claims := rfl
@[simp] theorem State.raise_heads (s : State) (x : EventFlag) :
    (s.raise x).heads = s.heads := rfl
@[simp] theorem State.raise_monitors (s : State) (x : EventFlag) :
    (s.raise x).monitors = s.monitors := rfl
@[simp] theorem State.raise_timebase (s : State) (x : EventFlag) :
    (s.raise x).timebase = s.timebase := rfl
@[simp] theorem State.raise_links (s : State) (x : EventFlag) :
    (s.raise x).links = s.links := rfl
@[simp] theorem State.raise_port (s : State) (x : EventFlag) :
    (s.raise x).port = s.port := rfl
@[simp] theorem State.raise_attn (s : State) (x : EventFlag) :
    (s.raise x).attn = s.attn.raise x := rfl
@[simp] theorem State.raise_pending (s : State) (x : EventFlag) :
    (s.raise x).pending = s.pending := rfl

end Sys2Proof.Machine
end

