-- ==== Sys2Proof/Laws/Frame.lean ====
section
/-! SUPPORT. What each shared operation leaves alone: one lemma per operation and field it does not touch. -/

set_option linter.unnecessarySeqFocus false
set_option linter.unreachableTactic false
set_option linter.unusedTactic false

namespace Sys2Proof.Machine

/-! ## `State.present`: it touches only arb -/

@[simp] theorem State.present_copies (s : State) (r : Requester) :
    (s.present r).copies = s.copies := by
  simp only [State.present] <;> (repeat' split) <;> simp
@[simp] theorem State.present_bands (s : State) (r : Requester) :
    (s.present r).bands = s.bands := by
  simp only [State.present] <;> (repeat' split) <;> simp
@[simp] theorem State.present_dir (s : State) (r : Requester) :
    (s.present r).dir = s.dir := by
  simp only [State.present] <;> (repeat' split) <;> simp
@[simp] theorem State.present_freeSlots (s : State) (r : Requester) :
    (s.present r).freeSlots = s.freeSlots := by
  simp only [State.present] <;> (repeat' split) <;> simp
@[simp] theorem State.present_done (s : State) (r : Requester) :
    (s.present r).done = s.done := by
  simp only [State.present] <;> (repeat' split) <;> simp
@[simp] theorem State.present_store (s : State) (r : Requester) :
    (s.present r).store = s.store := by
  simp only [State.present] <;> (repeat' split) <;> simp
@[simp] theorem State.present_load (s : State) (r : Requester) :
    (s.present r).load = s.load := by
  simp only [State.present] <;> (repeat' split) <;> simp
@[simp] theorem State.present_engine (s : State) (r : Requester) :
    (s.present r).engine = s.engine := by
  simp only [State.present] <;> (repeat' split) <;> simp
@[simp] theorem State.present_hold (s : State) (r : Requester) :
    (s.present r).hold = s.hold := by
  simp only [State.present] <;> (repeat' split) <;> simp
@[simp] theorem State.present_claims (s : State) (r : Requester) :
    (s.present r).claims = s.claims := by
  simp only [State.present] <;> (repeat' split) <;> simp
@[simp] theorem State.present_heads (s : State) (r : Requester) :
    (s.present r).heads = s.heads := by
  simp only [State.present] <;> (repeat' split) <;> simp
@[simp] theorem State.present_monitors (s : State) (r : Requester) :
    (s.present r).monitors = s.monitors := by
  simp only [State.present] <;> (repeat' split) <;> simp
@[simp] theorem State.present_timebase (s : State) (r : Requester) :
    (s.present r).timebase = s.timebase := by
  simp only [State.present] <;> (repeat' split) <;> simp
@[simp] theorem State.present_links (s : State) (r : Requester) :
    (s.present r).links = s.links := by
  simp only [State.present] <;> (repeat' split) <;> simp
@[simp] theorem State.present_port (s : State) (r : Requester) :
    (s.present r).port = s.port := by
  simp only [State.present] <;> (repeat' split) <;> simp
@[simp] theorem State.present_attn (s : State) (r : Requester) :
    (s.present r).attn = s.attn := by
  simp only [State.present] <;> (repeat' split) <;> simp
@[simp] theorem State.present_pending (s : State) (r : Requester) :
    (s.present r).pending = s.pending := by
  simp only [State.present] <;> (repeat' split) <;> simp
/-! ## `State.withdraw`: it touches only arb -/

@[simp] theorem State.withdraw_copies (s : State) (r : Requester) :
    (s.withdraw r).copies = s.copies := by
  simp only [State.withdraw] <;> (repeat' split) <;> simp
@[simp] theorem State.withdraw_bands (s : State) (r : Requester) :
    (s.withdraw r).bands = s.bands := by
  simp only [State.withdraw] <;> (repeat' split) <;> simp
@[simp] theorem State.withdraw_dir (s : State) (r : Requester) :
    (s.withdraw r).dir = s.dir := by
  simp only [State.withdraw] <;> (repeat' split) <;> simp
@[simp] theorem State.withdraw_freeSlots (s : State) (r : Requester) :
    (s.withdraw r).freeSlots = s.freeSlots := by
  simp only [State.withdraw] <;> (repeat' split) <;> simp
@[simp] theorem State.withdraw_done (s : State) (r : Requester) :
    (s.withdraw r).done = s.done := by
  simp only [State.withdraw] <;> (repeat' split) <;> simp
@[simp] theorem State.withdraw_store (s : State) (r : Requester) :
    (s.withdraw r).store = s.store := by
  simp only [State.withdraw] <;> (repeat' split) <;> simp
@[simp] theorem State.withdraw_load (s : State) (r : Requester) :
    (s.withdraw r).load = s.load := by
  simp only [State.withdraw] <;> (repeat' split) <;> simp
@[simp] theorem State.withdraw_engine (s : State) (r : Requester) :
    (s.withdraw r).engine = s.engine := by
  simp only [State.withdraw] <;> (repeat' split) <;> simp
@[simp] theorem State.withdraw_hold (s : State) (r : Requester) :
    (s.withdraw r).hold = s.hold := by
  simp only [State.withdraw] <;> (repeat' split) <;> simp
@[simp] theorem State.withdraw_claims (s : State) (r : Requester) :
    (s.withdraw r).claims = s.claims := by
  simp only [State.withdraw] <;> (repeat' split) <;> simp
@[simp] theorem State.withdraw_heads (s : State) (r : Requester) :
    (s.withdraw r).heads = s.heads := by
  simp only [State.withdraw] <;> (repeat' split) <;> simp
@[simp] theorem State.withdraw_monitors (s : State) (r : Requester) :
    (s.withdraw r).monitors = s.monitors := by
  simp only [State.withdraw] <;> (repeat' split) <;> simp
@[simp] theorem State.withdraw_timebase (s : State) (r : Requester) :
    (s.withdraw r).timebase = s.timebase := by
  simp only [State.withdraw] <;> (repeat' split) <;> simp
@[simp] theorem State.withdraw_links (s : State) (r : Requester) :
    (s.withdraw r).links = s.links := by
  simp only [State.withdraw] <;> (repeat' split) <;> simp
@[simp] theorem State.withdraw_port (s : State) (r : Requester) :
    (s.withdraw r).port = s.port := by
  simp only [State.withdraw] <;> (repeat' split) <;> simp
@[simp] theorem State.withdraw_attn (s : State) (r : Requester) :
    (s.withdraw r).attn = s.attn := by
  simp only [State.withdraw] <;> (repeat' split) <;> simp
@[simp] theorem State.withdraw_pending (s : State) (r : Requester) :
    (s.withdraw r).pending = s.pending := by
  simp only [State.withdraw] <;> (repeat' split) <;> simp
/-! ## `State.endUnit`: it touches only arb -/

@[simp] theorem State.endUnit_copies (s : State) (r : Requester) :
    (s.endUnit r).copies = s.copies := by
  simp only [State.endUnit] <;> (repeat' split) <;> simp
@[simp] theorem State.endUnit_bands (s : State) (r : Requester) :
    (s.endUnit r).bands = s.bands := by
  simp only [State.endUnit] <;> (repeat' split) <;> simp
@[simp] theorem State.endUnit_dir (s : State) (r : Requester) :
    (s.endUnit r).dir = s.dir := by
  simp only [State.endUnit] <;> (repeat' split) <;> simp
@[simp] theorem State.endUnit_freeSlots (s : State) (r : Requester) :
    (s.endUnit r).freeSlots = s.freeSlots := by
  simp only [State.endUnit] <;> (repeat' split) <;> simp
@[simp] theorem State.endUnit_done (s : State) (r : Requester) :
    (s.endUnit r).done = s.done := by
  simp only [State.endUnit] <;> (repeat' split) <;> simp
@[simp] theorem State.endUnit_store (s : State) (r : Requester) :
    (s.endUnit r).store = s.store := by
  simp only [State.endUnit] <;> (repeat' split) <;> simp
@[simp] theorem State.endUnit_load (s : State) (r : Requester) :
    (s.endUnit r).load = s.load := by
  simp only [State.endUnit] <;> (repeat' split) <;> simp
@[simp] theorem State.endUnit_engine (s : State) (r : Requester) :
    (s.endUnit r).engine = s.engine := by
  simp only [State.endUnit] <;> (repeat' split) <;> simp
@[simp] theorem State.endUnit_hold (s : State) (r : Requester) :
    (s.endUnit r).hold = s.hold := by
  simp only [State.endUnit] <;> (repeat' split) <;> simp
@[simp] theorem State.endUnit_claims (s : State) (r : Requester) :
    (s.endUnit r).claims = s.claims := by
  simp only [State.endUnit] <;> (repeat' split) <;> simp
@[simp] theorem State.endUnit_heads (s : State) (r : Requester) :
    (s.endUnit r).heads = s.heads := by
  simp only [State.endUnit] <;> (repeat' split) <;> simp
@[simp] theorem State.endUnit_monitors (s : State) (r : Requester) :
    (s.endUnit r).monitors = s.monitors := by
  simp only [State.endUnit] <;> (repeat' split) <;> simp
@[simp] theorem State.endUnit_timebase (s : State) (r : Requester) :
    (s.endUnit r).timebase = s.timebase := by
  simp only [State.endUnit] <;> (repeat' split) <;> simp
@[simp] theorem State.endUnit_links (s : State) (r : Requester) :
    (s.endUnit r).links = s.links := by
  simp only [State.endUnit] <;> (repeat' split) <;> simp
@[simp] theorem State.endUnit_port (s : State) (r : Requester) :
    (s.endUnit r).port = s.port := by
  simp only [State.endUnit] <;> (repeat' split) <;> simp
@[simp] theorem State.endUnit_attn (s : State) (r : Requester) :
    (s.endUnit r).attn = s.attn := by
  simp only [State.endUnit] <;> (repeat' split) <;> simp
@[simp] theorem State.endUnit_pending (s : State) (r : Requester) :
    (s.endUnit r).pending = s.pending := by
  simp only [State.endUnit] <;> (repeat' split) <;> simp
/-! ## `State.queueAnswer`: it touches only links -/

@[simp] theorem State.queueAnswer_copies (s : State) (h : HeadNo) (a : Answer) :
    (s.queueAnswer h a).copies = s.copies := by
  simp only [State.queueAnswer] <;> (repeat' split) <;> simp
@[simp] theorem State.queueAnswer_bands (s : State) (h : HeadNo) (a : Answer) :
    (s.queueAnswer h a).bands = s.bands := by
  simp only [State.queueAnswer] <;> (repeat' split) <;> simp
@[simp] theorem State.queueAnswer_dir (s : State) (h : HeadNo) (a : Answer) :
    (s.queueAnswer h a).dir = s.dir := by
  simp only [State.queueAnswer] <;> (repeat' split) <;> simp
@[simp] theorem State.queueAnswer_freeSlots (s : State) (h : HeadNo) (a : Answer) :
    (s.queueAnswer h a).freeSlots = s.freeSlots := by
  simp only [State.queueAnswer] <;> (repeat' split) <;> simp
@[simp] theorem State.queueAnswer_done (s : State) (h : HeadNo) (a : Answer) :
    (s.queueAnswer h a).done = s.done := by
  simp only [State.queueAnswer] <;> (repeat' split) <;> simp
@[simp] theorem State.queueAnswer_store (s : State) (h : HeadNo) (a : Answer) :
    (s.queueAnswer h a).store = s.store := by
  simp only [State.queueAnswer] <;> (repeat' split) <;> simp
@[simp] theorem State.queueAnswer_arb (s : State) (h : HeadNo) (a : Answer) :
    (s.queueAnswer h a).arb = s.arb := by
  simp only [State.queueAnswer] <;> (repeat' split) <;> simp
@[simp] theorem State.queueAnswer_load (s : State) (h : HeadNo) (a : Answer) :
    (s.queueAnswer h a).load = s.load := by
  simp only [State.queueAnswer] <;> (repeat' split) <;> simp
@[simp] theorem State.queueAnswer_engine (s : State) (h : HeadNo) (a : Answer) :
    (s.queueAnswer h a).engine = s.engine := by
  simp only [State.queueAnswer] <;> (repeat' split) <;> simp
@[simp] theorem State.queueAnswer_hold (s : State) (h : HeadNo) (a : Answer) :
    (s.queueAnswer h a).hold = s.hold := by
  simp only [State.queueAnswer] <;> (repeat' split) <;> simp
@[simp] theorem State.queueAnswer_claims (s : State) (h : HeadNo) (a : Answer) :
    (s.queueAnswer h a).claims = s.claims := by
  simp only [State.queueAnswer] <;> (repeat' split) <;> simp
@[simp] theorem State.queueAnswer_heads (s : State) (h : HeadNo) (a : Answer) :
    (s.queueAnswer h a).heads = s.heads := by
  simp only [State.queueAnswer] <;> (repeat' split) <;> simp
@[simp] theorem State.queueAnswer_monitors (s : State) (h : HeadNo) (a : Answer) :
    (s.queueAnswer h a).monitors = s.monitors := by
  simp only [State.queueAnswer] <;> (repeat' split) <;> simp
@[simp] theorem State.queueAnswer_timebase (s : State) (h : HeadNo) (a : Answer) :
    (s.queueAnswer h a).timebase = s.timebase := by
  simp only [State.queueAnswer] <;> (repeat' split) <;> simp
@[simp] theorem State.queueAnswer_port (s : State) (h : HeadNo) (a : Answer) :
    (s.queueAnswer h a).port = s.port := by
  simp only [State.queueAnswer] <;> (repeat' split) <;> simp
@[simp] theorem State.queueAnswer_attn (s : State) (h : HeadNo) (a : Answer) :
    (s.queueAnswer h a).attn = s.attn := by
  simp only [State.queueAnswer] <;> (repeat' split) <;> simp
@[simp] theorem State.queueAnswer_pending (s : State) (h : HeadNo) (a : Answer) :
    (s.queueAnswer h a).pending = s.pending := by
  simp only [State.queueAnswer] <;> (repeat' split) <;> simp
/-! ## `State.queueBadFrame`: it touches only links -/

@[simp] theorem State.queueBadFrame_copies (s : State) (h : HeadNo) :
    (s.queueBadFrame h).copies = s.copies := by
  simp only [State.queueBadFrame] <;> (repeat' split) <;> simp
@[simp] theorem State.queueBadFrame_bands (s : State) (h : HeadNo) :
    (s.queueBadFrame h).bands = s.bands := by
  simp only [State.queueBadFrame] <;> (repeat' split) <;> simp
@[simp] theorem State.queueBadFrame_dir (s : State) (h : HeadNo) :
    (s.queueBadFrame h).dir = s.dir := by
  simp only [State.queueBadFrame] <;> (repeat' split) <;> simp
@[simp] theorem State.queueBadFrame_freeSlots (s : State) (h : HeadNo) :
    (s.queueBadFrame h).freeSlots = s.freeSlots := by
  simp only [State.queueBadFrame] <;> (repeat' split) <;> simp
@[simp] theorem State.queueBadFrame_done (s : State) (h : HeadNo) :
    (s.queueBadFrame h).done = s.done := by
  simp only [State.queueBadFrame] <;> (repeat' split) <;> simp
@[simp] theorem State.queueBadFrame_store (s : State) (h : HeadNo) :
    (s.queueBadFrame h).store = s.store := by
  simp only [State.queueBadFrame] <;> (repeat' split) <;> simp
@[simp] theorem State.queueBadFrame_arb (s : State) (h : HeadNo) :
    (s.queueBadFrame h).arb = s.arb := by
  simp only [State.queueBadFrame] <;> (repeat' split) <;> simp
@[simp] theorem State.queueBadFrame_load (s : State) (h : HeadNo) :
    (s.queueBadFrame h).load = s.load := by
  simp only [State.queueBadFrame] <;> (repeat' split) <;> simp
@[simp] theorem State.queueBadFrame_engine (s : State) (h : HeadNo) :
    (s.queueBadFrame h).engine = s.engine := by
  simp only [State.queueBadFrame] <;> (repeat' split) <;> simp
@[simp] theorem State.queueBadFrame_hold (s : State) (h : HeadNo) :
    (s.queueBadFrame h).hold = s.hold := by
  simp only [State.queueBadFrame] <;> (repeat' split) <;> simp
@[simp] theorem State.queueBadFrame_claims (s : State) (h : HeadNo) :
    (s.queueBadFrame h).claims = s.claims := by
  simp only [State.queueBadFrame] <;> (repeat' split) <;> simp
@[simp] theorem State.queueBadFrame_heads (s : State) (h : HeadNo) :
    (s.queueBadFrame h).heads = s.heads := by
  simp only [State.queueBadFrame] <;> (repeat' split) <;> simp
@[simp] theorem State.queueBadFrame_monitors (s : State) (h : HeadNo) :
    (s.queueBadFrame h).monitors = s.monitors := by
  simp only [State.queueBadFrame] <;> (repeat' split) <;> simp
@[simp] theorem State.queueBadFrame_timebase (s : State) (h : HeadNo) :
    (s.queueBadFrame h).timebase = s.timebase := by
  simp only [State.queueBadFrame] <;> (repeat' split) <;> simp
@[simp] theorem State.queueBadFrame_port (s : State) (h : HeadNo) :
    (s.queueBadFrame h).port = s.port := by
  simp only [State.queueBadFrame] <;> (repeat' split) <;> simp
@[simp] theorem State.queueBadFrame_attn (s : State) (h : HeadNo) :
    (s.queueBadFrame h).attn = s.attn := by
  simp only [State.queueBadFrame] <;> (repeat' split) <;> simp
@[simp] theorem State.queueBadFrame_pending (s : State) (h : HeadNo) :
    (s.queueBadFrame h).pending = s.pending := by
  simp only [State.queueBadFrame] <;> (repeat' split) <;> simp
/-! ## `State.setOutstanding`: it touches only heads -/

@[simp] theorem State.setOutstanding_copies (s : State) (h : HeadNo) (o : Option Outstanding) :
    (s.setOutstanding h o).copies = s.copies := by
  simp only [State.setOutstanding] <;> (repeat' split) <;> simp
@[simp] theorem State.setOutstanding_bands (s : State) (h : HeadNo) (o : Option Outstanding) :
    (s.setOutstanding h o).bands = s.bands := by
  simp only [State.setOutstanding] <;> (repeat' split) <;> simp
@[simp] theorem State.setOutstanding_dir (s : State) (h : HeadNo) (o : Option Outstanding) :
    (s.setOutstanding h o).dir = s.dir := by
  simp only [State.setOutstanding] <;> (repeat' split) <;> simp
@[simp] theorem State.setOutstanding_freeSlots (s : State) (h : HeadNo) (o : Option Outstanding) :
    (s.setOutstanding h o).freeSlots = s.freeSlots := by
  simp only [State.setOutstanding] <;> (repeat' split) <;> simp
@[simp] theorem State.setOutstanding_done (s : State) (h : HeadNo) (o : Option Outstanding) :
    (s.setOutstanding h o).done = s.done := by
  simp only [State.setOutstanding] <;> (repeat' split) <;> simp
@[simp] theorem State.setOutstanding_store (s : State) (h : HeadNo) (o : Option Outstanding) :
    (s.setOutstanding h o).store = s.store := by
  simp only [State.setOutstanding] <;> (repeat' split) <;> simp
@[simp] theorem State.setOutstanding_arb (s : State) (h : HeadNo) (o : Option Outstanding) :
    (s.setOutstanding h o).arb = s.arb := by
  simp only [State.setOutstanding] <;> (repeat' split) <;> simp
@[simp] theorem State.setOutstanding_load (s : State) (h : HeadNo) (o : Option Outstanding) :
    (s.setOutstanding h o).load = s.load := by
  simp only [State.setOutstanding] <;> (repeat' split) <;> simp
@[simp] theorem State.setOutstanding_engine (s : State) (h : HeadNo) (o : Option Outstanding) :
    (s.setOutstanding h o).engine = s.engine := by
  simp only [State.setOutstanding] <;> (repeat' split) <;> simp
@[simp] theorem State.setOutstanding_hold (s : State) (h : HeadNo) (o : Option Outstanding) :
    (s.setOutstanding h o).hold = s.hold := by
  simp only [State.setOutstanding] <;> (repeat' split) <;> simp
@[simp] theorem State.setOutstanding_claims (s : State) (h : HeadNo) (o : Option Outstanding) :
    (s.setOutstanding h o).claims = s.claims := by
  simp only [State.setOutstanding] <;> (repeat' split) <;> simp
@[simp] theorem State.setOutstanding_monitors (s : State) (h : HeadNo) (o : Option Outstanding) :
    (s.setOutstanding h o).monitors = s.monitors := by
  simp only [State.setOutstanding] <;> (repeat' split) <;> simp
@[simp] theorem State.setOutstanding_timebase (s : State) (h : HeadNo) (o : Option Outstanding) :
    (s.setOutstanding h o).timebase = s.timebase := by
  simp only [State.setOutstanding] <;> (repeat' split) <;> simp
@[simp] theorem State.setOutstanding_links (s : State) (h : HeadNo) (o : Option Outstanding) :
    (s.setOutstanding h o).links = s.links := by
  simp only [State.setOutstanding] <;> (repeat' split) <;> simp
@[simp] theorem State.setOutstanding_port (s : State) (h : HeadNo) (o : Option Outstanding) :
    (s.setOutstanding h o).port = s.port := by
  simp only [State.setOutstanding] <;> (repeat' split) <;> simp
@[simp] theorem State.setOutstanding_attn (s : State) (h : HeadNo) (o : Option Outstanding) :
    (s.setOutstanding h o).attn = s.attn := by
  simp only [State.setOutstanding] <;> (repeat' split) <;> simp
@[simp] theorem State.setOutstanding_pending (s : State) (h : HeadNo) (o : Option Outstanding) :
    (s.setOutstanding h o).pending = s.pending := by
  simp only [State.setOutstanding] <;> (repeat' split) <;> simp
/-! ## `State.setWait`: it touches only heads -/

@[simp] theorem State.setWait_copies (s : State) (h : HeadNo) (w : WaitKind) :
    (s.setWait h w).copies = s.copies := by
  simp only [State.setWait] <;> (repeat' split) <;> simp
@[simp] theorem State.setWait_bands (s : State) (h : HeadNo) (w : WaitKind) :
    (s.setWait h w).bands = s.bands := by
  simp only [State.setWait] <;> (repeat' split) <;> simp
@[simp] theorem State.setWait_dir (s : State) (h : HeadNo) (w : WaitKind) :
    (s.setWait h w).dir = s.dir := by
  simp only [State.setWait] <;> (repeat' split) <;> simp
@[simp] theorem State.setWait_freeSlots (s : State) (h : HeadNo) (w : WaitKind) :
    (s.setWait h w).freeSlots = s.freeSlots := by
  simp only [State.setWait] <;> (repeat' split) <;> simp
@[simp] theorem State.setWait_done (s : State) (h : HeadNo) (w : WaitKind) :
    (s.setWait h w).done = s.done := by
  simp only [State.setWait] <;> (repeat' split) <;> simp
@[simp] theorem State.setWait_store (s : State) (h : HeadNo) (w : WaitKind) :
    (s.setWait h w).store = s.store := by
  simp only [State.setWait] <;> (repeat' split) <;> simp
@[simp] theorem State.setWait_arb (s : State) (h : HeadNo) (w : WaitKind) :
    (s.setWait h w).arb = s.arb := by
  simp only [State.setWait] <;> (repeat' split) <;> simp
@[simp] theorem State.setWait_load (s : State) (h : HeadNo) (w : WaitKind) :
    (s.setWait h w).load = s.load := by
  simp only [State.setWait] <;> (repeat' split) <;> simp
@[simp] theorem State.setWait_engine (s : State) (h : HeadNo) (w : WaitKind) :
    (s.setWait h w).engine = s.engine := by
  simp only [State.setWait] <;> (repeat' split) <;> simp
@[simp] theorem State.setWait_hold (s : State) (h : HeadNo) (w : WaitKind) :
    (s.setWait h w).hold = s.hold := by
  simp only [State.setWait] <;> (repeat' split) <;> simp
@[simp] theorem State.setWait_claims (s : State) (h : HeadNo) (w : WaitKind) :
    (s.setWait h w).claims = s.claims := by
  simp only [State.setWait] <;> (repeat' split) <;> simp
@[simp] theorem State.setWait_monitors (s : State) (h : HeadNo) (w : WaitKind) :
    (s.setWait h w).monitors = s.monitors := by
  simp only [State.setWait] <;> (repeat' split) <;> simp
@[simp] theorem State.setWait_timebase (s : State) (h : HeadNo) (w : WaitKind) :
    (s.setWait h w).timebase = s.timebase := by
  simp only [State.setWait] <;> (repeat' split) <;> simp
@[simp] theorem State.setWait_links (s : State) (h : HeadNo) (w : WaitKind) :
    (s.setWait h w).links = s.links := by
  simp only [State.setWait] <;> (repeat' split) <;> simp
@[simp] theorem State.setWait_port (s : State) (h : HeadNo) (w : WaitKind) :
    (s.setWait h w).port = s.port := by
  simp only [State.setWait] <;> (repeat' split) <;> simp
@[simp] theorem State.setWait_attn (s : State) (h : HeadNo) (w : WaitKind) :
    (s.setWait h w).attn = s.attn := by
  simp only [State.setWait] <;> (repeat' split) <;> simp
@[simp] theorem State.setWait_pending (s : State) (h : HeadNo) (w : WaitKind) :
    (s.setWait h w).pending = s.pending := by
  simp only [State.setWait] <;> (repeat' split) <;> simp
/-! ## `State.endRequest`: it touches only heads, links -/

@[simp] theorem State.endRequest_copies (s : State) (h : HeadNo) (st : Status) (v d : Nat) :
    (s.endRequest h st v d).copies = s.copies := by
  simp only [State.endRequest] <;> (repeat' split) <;> simp
@[simp] theorem State.endRequest_bands (s : State) (h : HeadNo) (st : Status) (v d : Nat) :
    (s.endRequest h st v d).bands = s.bands := by
  simp only [State.endRequest] <;> (repeat' split) <;> simp
@[simp] theorem State.endRequest_dir (s : State) (h : HeadNo) (st : Status) (v d : Nat) :
    (s.endRequest h st v d).dir = s.dir := by
  simp only [State.endRequest] <;> (repeat' split) <;> simp
@[simp] theorem State.endRequest_freeSlots (s : State) (h : HeadNo) (st : Status) (v d : Nat) :
    (s.endRequest h st v d).freeSlots = s.freeSlots := by
  simp only [State.endRequest] <;> (repeat' split) <;> simp
@[simp] theorem State.endRequest_done (s : State) (h : HeadNo) (st : Status) (v d : Nat) :
    (s.endRequest h st v d).done = s.done := by
  simp only [State.endRequest] <;> (repeat' split) <;> simp
@[simp] theorem State.endRequest_store (s : State) (h : HeadNo) (st : Status) (v d : Nat) :
    (s.endRequest h st v d).store = s.store := by
  simp only [State.endRequest] <;> (repeat' split) <;> simp
@[simp] theorem State.endRequest_arb (s : State) (h : HeadNo) (st : Status) (v d : Nat) :
    (s.endRequest h st v d).arb = s.arb := by
  simp only [State.endRequest] <;> (repeat' split) <;> simp
@[simp] theorem State.endRequest_load (s : State) (h : HeadNo) (st : Status) (v d : Nat) :
    (s.endRequest h st v d).load = s.load := by
  simp only [State.endRequest] <;> (repeat' split) <;> simp
@[simp] theorem State.endRequest_engine (s : State) (h : HeadNo) (st : Status) (v d : Nat) :
    (s.endRequest h st v d).engine = s.engine := by
  simp only [State.endRequest] <;> (repeat' split) <;> simp
@[simp] theorem State.endRequest_hold (s : State) (h : HeadNo) (st : Status) (v d : Nat) :
    (s.endRequest h st v d).hold = s.hold := by
  simp only [State.endRequest] <;> (repeat' split) <;> simp
@[simp] theorem State.endRequest_claims (s : State) (h : HeadNo) (st : Status) (v d : Nat) :
    (s.endRequest h st v d).claims = s.claims := by
  simp only [State.endRequest] <;> (repeat' split) <;> simp
@[simp] theorem State.endRequest_monitors (s : State) (h : HeadNo) (st : Status) (v d : Nat) :
    (s.endRequest h st v d).monitors = s.monitors := by
  simp only [State.endRequest] <;> (repeat' split) <;> simp
@[simp] theorem State.endRequest_timebase (s : State) (h : HeadNo) (st : Status) (v d : Nat) :
    (s.endRequest h st v d).timebase = s.timebase := by
  simp only [State.endRequest] <;> (repeat' split) <;> simp
@[simp] theorem State.endRequest_port (s : State) (h : HeadNo) (st : Status) (v d : Nat) :
    (s.endRequest h st v d).port = s.port := by
  simp only [State.endRequest] <;> (repeat' split) <;> simp
@[simp] theorem State.endRequest_attn (s : State) (h : HeadNo) (st : Status) (v d : Nat) :
    (s.endRequest h st v d).attn = s.attn := by
  simp only [State.endRequest] <;> (repeat' split) <;> simp
@[simp] theorem State.endRequest_pending (s : State) (h : HeadNo) (st : Status) (v d : Nat) :
    (s.endRequest h st v d).pending = s.pending := by
  simp only [State.endRequest] <;> (repeat' split) <;> simp
/-! ## `State.proceed`: it touches only heads, arb -/

@[simp] theorem State.proceed_copies (s : State) (h : HeadNo) :
    (s.proceed h).copies = s.copies := by
  simp only [State.proceed] <;> (repeat' split) <;> simp
@[simp] theorem State.proceed_bands (s : State) (h : HeadNo) :
    (s.proceed h).bands = s.bands := by
  simp only [State.proceed] <;> (repeat' split) <;> simp
@[simp] theorem State.proceed_dir (s : State) (h : HeadNo) :
    (s.proceed h).dir = s.dir := by
  simp only [State.proceed] <;> (repeat' split) <;> simp
@[simp] theorem State.proceed_freeSlots (s : State) (h : HeadNo) :
    (s.proceed h).freeSlots = s.freeSlots := by
  simp only [State.proceed] <;> (repeat' split) <;> simp
@[simp] theorem State.proceed_done (s : State) (h : HeadNo) :
    (s.proceed h).done = s.done := by
  simp only [State.proceed] <;> (repeat' split) <;> simp
@[simp] theorem State.proceed_store (s : State) (h : HeadNo) :
    (s.proceed h).store = s.store := by
  simp only [State.proceed] <;> (repeat' split) <;> simp
@[simp] theorem State.proceed_load (s : State) (h : HeadNo) :
    (s.proceed h).load = s.load := by
  simp only [State.proceed] <;> (repeat' split) <;> simp
@[simp] theorem State.proceed_engine (s : State) (h : HeadNo) :
    (s.proceed h).engine = s.engine := by
  simp only [State.proceed] <;> (repeat' split) <;> simp
@[simp] theorem State.proceed_hold (s : State) (h : HeadNo) :
    (s.proceed h).hold = s.hold := by
  simp only [State.proceed] <;> (repeat' split) <;> simp
@[simp] theorem State.proceed_claims (s : State) (h : HeadNo) :
    (s.proceed h).claims = s.claims := by
  simp only [State.proceed] <;> (repeat' split) <;> simp
@[simp] theorem State.proceed_monitors (s : State) (h : HeadNo) :
    (s.proceed h).monitors = s.monitors := by
  simp only [State.proceed] <;> (repeat' split) <;> simp
@[simp] theorem State.proceed_timebase (s : State) (h : HeadNo) :
    (s.proceed h).timebase = s.timebase := by
  simp only [State.proceed] <;> (repeat' split) <;> simp
@[simp] theorem State.proceed_links (s : State) (h : HeadNo) :
    (s.proceed h).links = s.links := by
  simp only [State.proceed] <;> (repeat' split) <;> simp
@[simp] theorem State.proceed_port (s : State) (h : HeadNo) :
    (s.proceed h).port = s.port := by
  simp only [State.proceed] <;> (repeat' split) <;> simp
@[simp] theorem State.proceed_attn (s : State) (h : HeadNo) :
    (s.proceed h).attn = s.attn := by
  simp only [State.proceed] <;> (repeat' split) <;> simp
@[simp] theorem State.proceed_pending (s : State) (h : HeadNo) :
    (s.proceed h).pending = s.pending := by
  simp only [State.proceed] <;> (repeat' split) <;> simp
/-! ## `State.setResult`: it touches only port -/

@[simp] theorem State.setResult_copies (s : State) (r : ResultCode) :
    (s.setResult r).copies = s.copies := by
  simp only [State.setResult] <;> (repeat' split) <;> simp
@[simp] theorem State.setResult_bands (s : State) (r : ResultCode) :
    (s.setResult r).bands = s.bands := by
  simp only [State.setResult] <;> (repeat' split) <;> simp
@[simp] theorem State.setResult_dir (s : State) (r : ResultCode) :
    (s.setResult r).dir = s.dir := by
  simp only [State.setResult] <;> (repeat' split) <;> simp
@[simp] theorem State.setResult_freeSlots (s : State) (r : ResultCode) :
    (s.setResult r).freeSlots = s.freeSlots := by
  simp only [State.setResult] <;> (repeat' split) <;> simp
@[simp] theorem State.setResult_done (s : State) (r : ResultCode) :
    (s.setResult r).done = s.done := by
  simp only [State.setResult] <;> (repeat' split) <;> simp
@[simp] theorem State.setResult_store (s : State) (r : ResultCode) :
    (s.setResult r).store = s.store := by
  simp only [State.setResult] <;> (repeat' split) <;> simp
@[simp] theorem State.setResult_arb (s : State) (r : ResultCode) :
    (s.setResult r).arb = s.arb := by
  simp only [State.setResult] <;> (repeat' split) <;> simp
@[simp] theorem State.setResult_load (s : State) (r : ResultCode) :
    (s.setResult r).load = s.load := by
  simp only [State.setResult] <;> (repeat' split) <;> simp
@[simp] theorem State.setResult_engine (s : State) (r : ResultCode) :
    (s.setResult r).engine = s.engine := by
  simp only [State.setResult] <;> (repeat' split) <;> simp
@[simp] theorem State.setResult_hold (s : State) (r : ResultCode) :
    (s.setResult r).hold = s.hold := by
  simp only [State.setResult] <;> (repeat' split) <;> simp
@[simp] theorem State.setResult_claims (s : State) (r : ResultCode) :
    (s.setResult r).claims = s.claims := by
  simp only [State.setResult] <;> (repeat' split) <;> simp
@[simp] theorem State.setResult_heads (s : State) (r : ResultCode) :
    (s.setResult r).heads = s.heads := by
  simp only [State.setResult] <;> (repeat' split) <;> simp
@[simp] theorem State.setResult_monitors (s : State) (r : ResultCode) :
    (s.setResult r).monitors = s.monitors := by
  simp only [State.setResult] <;> (repeat' split) <;> simp
@[simp] theorem State.setResult_timebase (s : State) (r : ResultCode) :
    (s.setResult r).timebase = s.timebase := by
  simp only [State.setResult] <;> (repeat' split) <;> simp
@[simp] theorem State.setResult_links (s : State) (r : ResultCode) :
    (s.setResult r).links = s.links := by
  simp only [State.setResult] <;> (repeat' split) <;> simp
@[simp] theorem State.setResult_attn (s : State) (r : ResultCode) :
    (s.setResult r).attn = s.attn := by
  simp only [State.setResult] <;> (repeat' split) <;> simp
@[simp] theorem State.setResult_pending (s : State) (r : ResultCode) :
    (s.setResult r).pending = s.pending := by
  simp only [State.setResult] <;> (repeat' split) <;> simp
/-! ## `State.accept`: it touches only port -/

@[simp] theorem State.accept_copies (s : State) :
    (s.accept).copies = s.copies := by
  simp only [State.accept] <;> (repeat' split) <;> simp
@[simp] theorem State.accept_bands (s : State) :
    (s.accept).bands = s.bands := by
  simp only [State.accept] <;> (repeat' split) <;> simp
@[simp] theorem State.accept_dir (s : State) :
    (s.accept).dir = s.dir := by
  simp only [State.accept] <;> (repeat' split) <;> simp
@[simp] theorem State.accept_freeSlots (s : State) :
    (s.accept).freeSlots = s.freeSlots := by
  simp only [State.accept] <;> (repeat' split) <;> simp
@[simp] theorem State.accept_done (s : State) :
    (s.accept).done = s.done := by
  simp only [State.accept] <;> (repeat' split) <;> simp
@[simp] theorem State.accept_store (s : State) :
    (s.accept).store = s.store := by
  simp only [State.accept] <;> (repeat' split) <;> simp
@[simp] theorem State.accept_arb (s : State) :
    (s.accept).arb = s.arb := by
  simp only [State.accept] <;> (repeat' split) <;> simp
@[simp] theorem State.accept_load (s : State) :
    (s.accept).load = s.load := by
  simp only [State.accept] <;> (repeat' split) <;> simp
@[simp] theorem State.accept_engine (s : State) :
    (s.accept).engine = s.engine := by
  simp only [State.accept] <;> (repeat' split) <;> simp
@[simp] theorem State.accept_hold (s : State) :
    (s.accept).hold = s.hold := by
  simp only [State.accept] <;> (repeat' split) <;> simp
@[simp] theorem State.accept_claims (s : State) :
    (s.accept).claims = s.claims := by
  simp only [State.accept] <;> (repeat' split) <;> simp
@[simp] theorem State.accept_heads (s : State) :
    (s.accept).heads = s.heads := by
  simp only [State.accept] <;> (repeat' split) <;> simp
@[simp] theorem State.accept_monitors (s : State) :
    (s.accept).monitors = s.monitors := by
  simp only [State.accept] <;> (repeat' split) <;> simp
@[simp] theorem State.accept_timebase (s : State) :
    (s.accept).timebase = s.timebase := by
  simp only [State.accept] <;> (repeat' split) <;> simp
@[simp] theorem State.accept_links (s : State) :
    (s.accept).links = s.links := by
  simp only [State.accept] <;> (repeat' split) <;> simp
@[simp] theorem State.accept_attn (s : State) :
    (s.accept).attn = s.attn := by
  simp only [State.accept] <;> (repeat' split) <;> simp
@[simp] theorem State.accept_pending (s : State) :
    (s.accept).pending = s.pending := by
  simp only [State.accept] <;> (repeat' split) <;> simp
/-! ## `State.refuse`: it touches only port, attn -/

@[simp] theorem State.refuse_copies (s : State) (r : ResultCode) :
    (s.refuse r).copies = s.copies := by
  simp only [State.refuse] <;> (repeat' split) <;> simp
@[simp] theorem State.refuse_bands (s : State) (r : ResultCode) :
    (s.refuse r).bands = s.bands := by
  simp only [State.refuse] <;> (repeat' split) <;> simp
@[simp] theorem State.refuse_dir (s : State) (r : ResultCode) :
    (s.refuse r).dir = s.dir := by
  simp only [State.refuse] <;> (repeat' split) <;> simp
@[simp] theorem State.refuse_freeSlots (s : State) (r : ResultCode) :
    (s.refuse r).freeSlots = s.freeSlots := by
  simp only [State.refuse] <;> (repeat' split) <;> simp
@[simp] theorem State.refuse_done (s : State) (r : ResultCode) :
    (s.refuse r).done = s.done := by
  simp only [State.refuse] <;> (repeat' split) <;> simp
@[simp] theorem State.refuse_store (s : State) (r : ResultCode) :
    (s.refuse r).store = s.store := by
  simp only [State.refuse] <;> (repeat' split) <;> simp
@[simp] theorem State.refuse_arb (s : State) (r : ResultCode) :
    (s.refuse r).arb = s.arb := by
  simp only [State.refuse] <;> (repeat' split) <;> simp
@[simp] theorem State.refuse_load (s : State) (r : ResultCode) :
    (s.refuse r).load = s.load := by
  simp only [State.refuse] <;> (repeat' split) <;> simp
@[simp] theorem State.refuse_engine (s : State) (r : ResultCode) :
    (s.refuse r).engine = s.engine := by
  simp only [State.refuse] <;> (repeat' split) <;> simp
@[simp] theorem State.refuse_hold (s : State) (r : ResultCode) :
    (s.refuse r).hold = s.hold := by
  simp only [State.refuse] <;> (repeat' split) <;> simp
@[simp] theorem State.refuse_claims (s : State) (r : ResultCode) :
    (s.refuse r).claims = s.claims := by
  simp only [State.refuse] <;> (repeat' split) <;> simp
@[simp] theorem State.refuse_heads (s : State) (r : ResultCode) :
    (s.refuse r).heads = s.heads := by
  simp only [State.refuse] <;> (repeat' split) <;> simp
@[simp] theorem State.refuse_monitors (s : State) (r : ResultCode) :
    (s.refuse r).monitors = s.monitors := by
  simp only [State.refuse] <;> (repeat' split) <;> simp
@[simp] theorem State.refuse_timebase (s : State) (r : ResultCode) :
    (s.refuse r).timebase = s.timebase := by
  simp only [State.refuse] <;> (repeat' split) <;> simp
@[simp] theorem State.refuse_links (s : State) (r : ResultCode) :
    (s.refuse r).links = s.links := by
  simp only [State.refuse] <;> (repeat' split) <;> simp
@[simp] theorem State.refuse_pending (s : State) (r : ResultCode) :
    (s.refuse r).pending = s.pending := by
  simp only [State.refuse] <;> (repeat' split) <;> simp
/-! ## `State.refuseSetting`: it touches only port, attn -/

@[simp] theorem State.refuseSetting_copies (s : State) (r : ResultCode) :
    (s.refuseSetting r).copies = s.copies := by
  simp only [State.refuseSetting] <;> (repeat' split) <;> simp
@[simp] theorem State.refuseSetting_bands (s : State) (r : ResultCode) :
    (s.refuseSetting r).bands = s.bands := by
  simp only [State.refuseSetting] <;> (repeat' split) <;> simp
@[simp] theorem State.refuseSetting_dir (s : State) (r : ResultCode) :
    (s.refuseSetting r).dir = s.dir := by
  simp only [State.refuseSetting] <;> (repeat' split) <;> simp
@[simp] theorem State.refuseSetting_freeSlots (s : State) (r : ResultCode) :
    (s.refuseSetting r).freeSlots = s.freeSlots := by
  simp only [State.refuseSetting] <;> (repeat' split) <;> simp
@[simp] theorem State.refuseSetting_done (s : State) (r : ResultCode) :
    (s.refuseSetting r).done = s.done := by
  simp only [State.refuseSetting] <;> (repeat' split) <;> simp
@[simp] theorem State.refuseSetting_store (s : State) (r : ResultCode) :
    (s.refuseSetting r).store = s.store := by
  simp only [State.refuseSetting] <;> (repeat' split) <;> simp
@[simp] theorem State.refuseSetting_arb (s : State) (r : ResultCode) :
    (s.refuseSetting r).arb = s.arb := by
  simp only [State.refuseSetting] <;> (repeat' split) <;> simp
@[simp] theorem State.refuseSetting_load (s : State) (r : ResultCode) :
    (s.refuseSetting r).load = s.load := by
  simp only [State.refuseSetting] <;> (repeat' split) <;> simp
@[simp] theorem State.refuseSetting_engine (s : State) (r : ResultCode) :
    (s.refuseSetting r).engine = s.engine := by
  simp only [State.refuseSetting] <;> (repeat' split) <;> simp
@[simp] theorem State.refuseSetting_hold (s : State) (r : ResultCode) :
    (s.refuseSetting r).hold = s.hold := by
  simp only [State.refuseSetting] <;> (repeat' split) <;> simp
@[simp] theorem State.refuseSetting_claims (s : State) (r : ResultCode) :
    (s.refuseSetting r).claims = s.claims := by
  simp only [State.refuseSetting] <;> (repeat' split) <;> simp
@[simp] theorem State.refuseSetting_heads (s : State) (r : ResultCode) :
    (s.refuseSetting r).heads = s.heads := by
  simp only [State.refuseSetting] <;> (repeat' split) <;> simp
@[simp] theorem State.refuseSetting_monitors (s : State) (r : ResultCode) :
    (s.refuseSetting r).monitors = s.monitors := by
  simp only [State.refuseSetting] <;> (repeat' split) <;> simp
@[simp] theorem State.refuseSetting_timebase (s : State) (r : ResultCode) :
    (s.refuseSetting r).timebase = s.timebase := by
  simp only [State.refuseSetting] <;> (repeat' split) <;> simp
@[simp] theorem State.refuseSetting_links (s : State) (r : ResultCode) :
    (s.refuseSetting r).links = s.links := by
  simp only [State.refuseSetting] <;> (repeat' split) <;> simp
@[simp] theorem State.refuseSetting_pending (s : State) (r : ResultCode) :
    (s.refuseSetting r).pending = s.pending := by
  simp only [State.refuseSetting] <;> (repeat' split) <;> simp
/-! ## `State.latch`: it touches only port -/

@[simp] theorem State.latch_copies (s : State) (bytes : List Byte) :
    (s.latch bytes).copies = s.copies := by
  simp only [State.latch] <;> (repeat' split) <;> simp
@[simp] theorem State.latch_bands (s : State) (bytes : List Byte) :
    (s.latch bytes).bands = s.bands := by
  simp only [State.latch] <;> (repeat' split) <;> simp
@[simp] theorem State.latch_dir (s : State) (bytes : List Byte) :
    (s.latch bytes).dir = s.dir := by
  simp only [State.latch] <;> (repeat' split) <;> simp
@[simp] theorem State.latch_freeSlots (s : State) (bytes : List Byte) :
    (s.latch bytes).freeSlots = s.freeSlots := by
  simp only [State.latch] <;> (repeat' split) <;> simp
@[simp] theorem State.latch_done (s : State) (bytes : List Byte) :
    (s.latch bytes).done = s.done := by
  simp only [State.latch] <;> (repeat' split) <;> simp
@[simp] theorem State.latch_store (s : State) (bytes : List Byte) :
    (s.latch bytes).store = s.store := by
  simp only [State.latch] <;> (repeat' split) <;> simp
@[simp] theorem State.latch_arb (s : State) (bytes : List Byte) :
    (s.latch bytes).arb = s.arb := by
  simp only [State.latch] <;> (repeat' split) <;> simp
@[simp] theorem State.latch_load (s : State) (bytes : List Byte) :
    (s.latch bytes).load = s.load := by
  simp only [State.latch] <;> (repeat' split) <;> simp
@[simp] theorem State.latch_engine (s : State) (bytes : List Byte) :
    (s.latch bytes).engine = s.engine := by
  simp only [State.latch] <;> (repeat' split) <;> simp
@[simp] theorem State.latch_hold (s : State) (bytes : List Byte) :
    (s.latch bytes).hold = s.hold := by
  simp only [State.latch] <;> (repeat' split) <;> simp
@[simp] theorem State.latch_claims (s : State) (bytes : List Byte) :
    (s.latch bytes).claims = s.claims := by
  simp only [State.latch] <;> (repeat' split) <;> simp
@[simp] theorem State.latch_heads (s : State) (bytes : List Byte) :
    (s.latch bytes).heads = s.heads := by
  simp only [State.latch] <;> (repeat' split) <;> simp
@[simp] theorem State.latch_monitors (s : State) (bytes : List Byte) :
    (s.latch bytes).monitors = s.monitors := by
  simp only [State.latch] <;> (repeat' split) <;> simp
@[simp] theorem State.latch_timebase (s : State) (bytes : List Byte) :
    (s.latch bytes).timebase = s.timebase := by
  simp only [State.latch] <;> (repeat' split) <;> simp
@[simp] theorem State.latch_links (s : State) (bytes : List Byte) :
    (s.latch bytes).links = s.links := by
  simp only [State.latch] <;> (repeat' split) <;> simp
@[simp] theorem State.latch_attn (s : State) (bytes : List Byte) :
    (s.latch bytes).attn = s.attn := by
  simp only [State.latch] <;> (repeat' split) <;> simp
@[simp] theorem State.latch_pending (s : State) (bytes : List Byte) :
    (s.latch bytes).pending = s.pending := by
  simp only [State.latch] <;> (repeat' split) <;> simp
/-! ## `State.answerRead`: it touches only port -/

@[simp] theorem State.answerRead_copies (s : State) (bytes : List Byte) :
    (s.answerRead bytes).copies = s.copies := by
  simp only [State.answerRead] <;> (repeat' split) <;> simp
@[simp] theorem State.answerRead_bands (s : State) (bytes : List Byte) :
    (s.answerRead bytes).bands = s.bands := by
  simp only [State.answerRead] <;> (repeat' split) <;> simp
@[simp] theorem State.answerRead_dir (s : State) (bytes : List Byte) :
    (s.answerRead bytes).dir = s.dir := by
  simp only [State.answerRead] <;> (repeat' split) <;> simp
@[simp] theorem State.answerRead_freeSlots (s : State) (bytes : List Byte) :
    (s.answerRead bytes).freeSlots = s.freeSlots := by
  simp only [State.answerRead] <;> (repeat' split) <;> simp
@[simp] theorem State.answerRead_done (s : State) (bytes : List Byte) :
    (s.answerRead bytes).done = s.done := by
  simp only [State.answerRead] <;> (repeat' split) <;> simp
@[simp] theorem State.answerRead_store (s : State) (bytes : List Byte) :
    (s.answerRead bytes).store = s.store := by
  simp only [State.answerRead] <;> (repeat' split) <;> simp
@[simp] theorem State.answerRead_arb (s : State) (bytes : List Byte) :
    (s.answerRead bytes).arb = s.arb := by
  simp only [State.answerRead] <;> (repeat' split) <;> simp
@[simp] theorem State.answerRead_load (s : State) (bytes : List Byte) :
    (s.answerRead bytes).load = s.load := by
  simp only [State.answerRead] <;> (repeat' split) <;> simp
@[simp] theorem State.answerRead_engine (s : State) (bytes : List Byte) :
    (s.answerRead bytes).engine = s.engine := by
  simp only [State.answerRead] <;> (repeat' split) <;> simp
@[simp] theorem State.answerRead_hold (s : State) (bytes : List Byte) :
    (s.answerRead bytes).hold = s.hold := by
  simp only [State.answerRead] <;> (repeat' split) <;> simp
@[simp] theorem State.answerRead_claims (s : State) (bytes : List Byte) :
    (s.answerRead bytes).claims = s.claims := by
  simp only [State.answerRead] <;> (repeat' split) <;> simp
@[simp] theorem State.answerRead_heads (s : State) (bytes : List Byte) :
    (s.answerRead bytes).heads = s.heads := by
  simp only [State.answerRead] <;> (repeat' split) <;> simp
@[simp] theorem State.answerRead_monitors (s : State) (bytes : List Byte) :
    (s.answerRead bytes).monitors = s.monitors := by
  simp only [State.answerRead] <;> (repeat' split) <;> simp
@[simp] theorem State.answerRead_timebase (s : State) (bytes : List Byte) :
    (s.answerRead bytes).timebase = s.timebase := by
  simp only [State.answerRead] <;> (repeat' split) <;> simp
@[simp] theorem State.answerRead_links (s : State) (bytes : List Byte) :
    (s.answerRead bytes).links = s.links := by
  simp only [State.answerRead] <;> (repeat' split) <;> simp
@[simp] theorem State.answerRead_attn (s : State) (bytes : List Byte) :
    (s.answerRead bytes).attn = s.attn := by
  simp only [State.answerRead] <;> (repeat' split) <;> simp
@[simp] theorem State.answerRead_pending (s : State) (bytes : List Byte) :
    (s.answerRead bytes).pending = s.pending := by
  simp only [State.answerRead] <;> (repeat' split) <;> simp
/-! ## `State.refuseRead`: it touches only port, attn -/

@[simp] theorem State.refuseRead_copies (s : State) (r : ResultCode) :
    (s.refuseRead r).copies = s.copies := by
  simp only [State.refuseRead] <;> (repeat' split) <;> simp
@[simp] theorem State.refuseRead_bands (s : State) (r : ResultCode) :
    (s.refuseRead r).bands = s.bands := by
  simp only [State.refuseRead] <;> (repeat' split) <;> simp
@[simp] theorem State.refuseRead_dir (s : State) (r : ResultCode) :
    (s.refuseRead r).dir = s.dir := by
  simp only [State.refuseRead] <;> (repeat' split) <;> simp
@[simp] theorem State.refuseRead_freeSlots (s : State) (r : ResultCode) :
    (s.refuseRead r).freeSlots = s.freeSlots := by
  simp only [State.refuseRead] <;> (repeat' split) <;> simp
@[simp] theorem State.refuseRead_done (s : State) (r : ResultCode) :
    (s.refuseRead r).done = s.done := by
  simp only [State.refuseRead] <;> (repeat' split) <;> simp
@[simp] theorem State.refuseRead_store (s : State) (r : ResultCode) :
    (s.refuseRead r).store = s.store := by
  simp only [State.refuseRead] <;> (repeat' split) <;> simp
@[simp] theorem State.refuseRead_arb (s : State) (r : ResultCode) :
    (s.refuseRead r).arb = s.arb := by
  simp only [State.refuseRead] <;> (repeat' split) <;> simp
@[simp] theorem State.refuseRead_load (s : State) (r : ResultCode) :
    (s.refuseRead r).load = s.load := by
  simp only [State.refuseRead] <;> (repeat' split) <;> simp
@[simp] theorem State.refuseRead_engine (s : State) (r : ResultCode) :
    (s.refuseRead r).engine = s.engine := by
  simp only [State.refuseRead] <;> (repeat' split) <;> simp
@[simp] theorem State.refuseRead_hold (s : State) (r : ResultCode) :
    (s.refuseRead r).hold = s.hold := by
  simp only [State.refuseRead] <;> (repeat' split) <;> simp
@[simp] theorem State.refuseRead_claims (s : State) (r : ResultCode) :
    (s.refuseRead r).claims = s.claims := by
  simp only [State.refuseRead] <;> (repeat' split) <;> simp
@[simp] theorem State.refuseRead_heads (s : State) (r : ResultCode) :
    (s.refuseRead r).heads = s.heads := by
  simp only [State.refuseRead] <;> (repeat' split) <;> simp
@[simp] theorem State.refuseRead_monitors (s : State) (r : ResultCode) :
    (s.refuseRead r).monitors = s.monitors := by
  simp only [State.refuseRead] <;> (repeat' split) <;> simp
@[simp] theorem State.refuseRead_timebase (s : State) (r : ResultCode) :
    (s.refuseRead r).timebase = s.timebase := by
  simp only [State.refuseRead] <;> (repeat' split) <;> simp
@[simp] theorem State.refuseRead_links (s : State) (r : ResultCode) :
    (s.refuseRead r).links = s.links := by
  simp only [State.refuseRead] <;> (repeat' split) <;> simp
@[simp] theorem State.refuseRead_pending (s : State) (r : ResultCode) :
    (s.refuseRead r).pending = s.pending := by
  simp only [State.refuseRead] <;> (repeat' split) <;> simp
/-! ## `State.requestUnit`: it touches only port, arb -/

@[simp] theorem State.requestUnit_copies (s : State) (u : PortUnit) :
    (s.requestUnit u).copies = s.copies := by
  simp only [State.requestUnit] <;> (repeat' split) <;> simp
@[simp] theorem State.requestUnit_bands (s : State) (u : PortUnit) :
    (s.requestUnit u).bands = s.bands := by
  simp only [State.requestUnit] <;> (repeat' split) <;> simp
@[simp] theorem State.requestUnit_dir (s : State) (u : PortUnit) :
    (s.requestUnit u).dir = s.dir := by
  simp only [State.requestUnit] <;> (repeat' split) <;> simp
@[simp] theorem State.requestUnit_freeSlots (s : State) (u : PortUnit) :
    (s.requestUnit u).freeSlots = s.freeSlots := by
  simp only [State.requestUnit] <;> (repeat' split) <;> simp
@[simp] theorem State.requestUnit_done (s : State) (u : PortUnit) :
    (s.requestUnit u).done = s.done := by
  simp only [State.requestUnit] <;> (repeat' split) <;> simp
@[simp] theorem State.requestUnit_store (s : State) (u : PortUnit) :
    (s.requestUnit u).store = s.store := by
  simp only [State.requestUnit] <;> (repeat' split) <;> simp
@[simp] theorem State.requestUnit_load (s : State) (u : PortUnit) :
    (s.requestUnit u).load = s.load := by
  simp only [State.requestUnit] <;> (repeat' split) <;> simp
@[simp] theorem State.requestUnit_engine (s : State) (u : PortUnit) :
    (s.requestUnit u).engine = s.engine := by
  simp only [State.requestUnit] <;> (repeat' split) <;> simp
@[simp] theorem State.requestUnit_hold (s : State) (u : PortUnit) :
    (s.requestUnit u).hold = s.hold := by
  simp only [State.requestUnit] <;> (repeat' split) <;> simp
@[simp] theorem State.requestUnit_claims (s : State) (u : PortUnit) :
    (s.requestUnit u).claims = s.claims := by
  simp only [State.requestUnit] <;> (repeat' split) <;> simp
@[simp] theorem State.requestUnit_heads (s : State) (u : PortUnit) :
    (s.requestUnit u).heads = s.heads := by
  simp only [State.requestUnit] <;> (repeat' split) <;> simp
@[simp] theorem State.requestUnit_monitors (s : State) (u : PortUnit) :
    (s.requestUnit u).monitors = s.monitors := by
  simp only [State.requestUnit] <;> (repeat' split) <;> simp
@[simp] theorem State.requestUnit_timebase (s : State) (u : PortUnit) :
    (s.requestUnit u).timebase = s.timebase := by
  simp only [State.requestUnit] <;> (repeat' split) <;> simp
@[simp] theorem State.requestUnit_links (s : State) (u : PortUnit) :
    (s.requestUnit u).links = s.links := by
  simp only [State.requestUnit] <;> (repeat' split) <;> simp
@[simp] theorem State.requestUnit_attn (s : State) (u : PortUnit) :
    (s.requestUnit u).attn = s.attn := by
  simp only [State.requestUnit] <;> (repeat' split) <;> simp
@[simp] theorem State.requestUnit_pending (s : State) (u : PortUnit) :
    (s.requestUnit u).pending = s.pending := by
  simp only [State.requestUnit] <;> (repeat' split) <;> simp
/-! ## `State.endPortUnit`: it touches only port, arb -/

@[simp] theorem State.endPortUnit_copies (s : State) :
    (s.endPortUnit).copies = s.copies := by
  simp only [State.endPortUnit] <;> (repeat' split) <;> simp
@[simp] theorem State.endPortUnit_bands (s : State) :
    (s.endPortUnit).bands = s.bands := by
  simp only [State.endPortUnit] <;> (repeat' split) <;> simp
@[simp] theorem State.endPortUnit_dir (s : State) :
    (s.endPortUnit).dir = s.dir := by
  simp only [State.endPortUnit] <;> (repeat' split) <;> simp
@[simp] theorem State.endPortUnit_freeSlots (s : State) :
    (s.endPortUnit).freeSlots = s.freeSlots := by
  simp only [State.endPortUnit] <;> (repeat' split) <;> simp
@[simp] theorem State.endPortUnit_done (s : State) :
    (s.endPortUnit).done = s.done := by
  simp only [State.endPortUnit] <;> (repeat' split) <;> simp
@[simp] theorem State.endPortUnit_store (s : State) :
    (s.endPortUnit).store = s.store := by
  simp only [State.endPortUnit] <;> (repeat' split) <;> simp
@[simp] theorem State.endPortUnit_load (s : State) :
    (s.endPortUnit).load = s.load := by
  simp only [State.endPortUnit] <;> (repeat' split) <;> simp
@[simp] theorem State.endPortUnit_engine (s : State) :
    (s.endPortUnit).engine = s.engine := by
  simp only [State.endPortUnit] <;> (repeat' split) <;> simp
@[simp] theorem State.endPortUnit_hold (s : State) :
    (s.endPortUnit).hold = s.hold := by
  simp only [State.endPortUnit] <;> (repeat' split) <;> simp
@[simp] theorem State.endPortUnit_claims (s : State) :
    (s.endPortUnit).claims = s.claims := by
  simp only [State.endPortUnit] <;> (repeat' split) <;> simp
@[simp] theorem State.endPortUnit_heads (s : State) :
    (s.endPortUnit).heads = s.heads := by
  simp only [State.endPortUnit] <;> (repeat' split) <;> simp
@[simp] theorem State.endPortUnit_monitors (s : State) :
    (s.endPortUnit).monitors = s.monitors := by
  simp only [State.endPortUnit] <;> (repeat' split) <;> simp
@[simp] theorem State.endPortUnit_timebase (s : State) :
    (s.endPortUnit).timebase = s.timebase := by
  simp only [State.endPortUnit] <;> (repeat' split) <;> simp
@[simp] theorem State.endPortUnit_links (s : State) :
    (s.endPortUnit).links = s.links := by
  simp only [State.endPortUnit] <;> (repeat' split) <;> simp
@[simp] theorem State.endPortUnit_attn (s : State) :
    (s.endPortUnit).attn = s.attn := by
  simp only [State.endPortUnit] <;> (repeat' split) <;> simp
@[simp] theorem State.endPortUnit_pending (s : State) :
    (s.endPortUnit).pending = s.pending := by
  simp only [State.endPortUnit] <;> (repeat' split) <;> simp
/-! ## `State.createEntry`: it touches only dir, freeSlots -/

@[simp] theorem State.createEntry_copies (s : State) (k : TileKey) (t : TileState) :
    (s.createEntry k t).copies = s.copies := by
  simp only [State.createEntry] <;> (repeat' split) <;> simp
@[simp] theorem State.createEntry_bands (s : State) (k : TileKey) (t : TileState) :
    (s.createEntry k t).bands = s.bands := by
  simp only [State.createEntry] <;> (repeat' split) <;> simp
@[simp] theorem State.createEntry_done (s : State) (k : TileKey) (t : TileState) :
    (s.createEntry k t).done = s.done := by
  simp only [State.createEntry] <;> (repeat' split) <;> simp
@[simp] theorem State.createEntry_store (s : State) (k : TileKey) (t : TileState) :
    (s.createEntry k t).store = s.store := by
  simp only [State.createEntry] <;> (repeat' split) <;> simp
@[simp] theorem State.createEntry_arb (s : State) (k : TileKey) (t : TileState) :
    (s.createEntry k t).arb = s.arb := by
  simp only [State.createEntry] <;> (repeat' split) <;> simp
@[simp] theorem State.createEntry_load (s : State) (k : TileKey) (t : TileState) :
    (s.createEntry k t).load = s.load := by
  simp only [State.createEntry] <;> (repeat' split) <;> simp
@[simp] theorem State.createEntry_engine (s : State) (k : TileKey) (t : TileState) :
    (s.createEntry k t).engine = s.engine := by
  simp only [State.createEntry] <;> (repeat' split) <;> simp
@[simp] theorem State.createEntry_hold (s : State) (k : TileKey) (t : TileState) :
    (s.createEntry k t).hold = s.hold := by
  simp only [State.createEntry] <;> (repeat' split) <;> simp
@[simp] theorem State.createEntry_claims (s : State) (k : TileKey) (t : TileState) :
    (s.createEntry k t).claims = s.claims := by
  simp only [State.createEntry] <;> (repeat' split) <;> simp
@[simp] theorem State.createEntry_heads (s : State) (k : TileKey) (t : TileState) :
    (s.createEntry k t).heads = s.heads := by
  simp only [State.createEntry] <;> (repeat' split) <;> simp
@[simp] theorem State.createEntry_monitors (s : State) (k : TileKey) (t : TileState) :
    (s.createEntry k t).monitors = s.monitors := by
  simp only [State.createEntry] <;> (repeat' split) <;> simp
@[simp] theorem State.createEntry_timebase (s : State) (k : TileKey) (t : TileState) :
    (s.createEntry k t).timebase = s.timebase := by
  simp only [State.createEntry] <;> (repeat' split) <;> simp
@[simp] theorem State.createEntry_links (s : State) (k : TileKey) (t : TileState) :
    (s.createEntry k t).links = s.links := by
  simp only [State.createEntry] <;> (repeat' split) <;> simp
@[simp] theorem State.createEntry_port (s : State) (k : TileKey) (t : TileState) :
    (s.createEntry k t).port = s.port := by
  simp only [State.createEntry] <;> (repeat' split) <;> simp
@[simp] theorem State.createEntry_attn (s : State) (k : TileKey) (t : TileState) :
    (s.createEntry k t).attn = s.attn := by
  simp only [State.createEntry] <;> (repeat' split) <;> simp
@[simp] theorem State.createEntry_pending (s : State) (k : TileKey) (t : TileState) :
    (s.createEntry k t).pending = s.pending := by
  simp only [State.createEntry] <;> (repeat' split) <;> simp
/-! ## `State.removeEntry`: it touches only dir, freeSlots, heads -/

@[simp] theorem State.removeEntry_copies (s : State) (k : TileKey) :
    (s.removeEntry k).copies = s.copies := by
  simp only [State.removeEntry] <;> (repeat' split) <;> simp
@[simp] theorem State.removeEntry_bands (s : State) (k : TileKey) :
    (s.removeEntry k).bands = s.bands := by
  simp only [State.removeEntry] <;> (repeat' split) <;> simp
@[simp] theorem State.removeEntry_done (s : State) (k : TileKey) :
    (s.removeEntry k).done = s.done := by
  simp only [State.removeEntry] <;> (repeat' split) <;> simp
@[simp] theorem State.removeEntry_store (s : State) (k : TileKey) :
    (s.removeEntry k).store = s.store := by
  simp only [State.removeEntry] <;> (repeat' split) <;> simp
@[simp] theorem State.removeEntry_arb (s : State) (k : TileKey) :
    (s.removeEntry k).arb = s.arb := by
  simp only [State.removeEntry] <;> (repeat' split) <;> simp
@[simp] theorem State.removeEntry_load (s : State) (k : TileKey) :
    (s.removeEntry k).load = s.load := by
  simp only [State.removeEntry] <;> (repeat' split) <;> simp
@[simp] theorem State.removeEntry_engine (s : State) (k : TileKey) :
    (s.removeEntry k).engine = s.engine := by
  simp only [State.removeEntry] <;> (repeat' split) <;> simp
@[simp] theorem State.removeEntry_hold (s : State) (k : TileKey) :
    (s.removeEntry k).hold = s.hold := by
  simp only [State.removeEntry] <;> (repeat' split) <;> simp
@[simp] theorem State.removeEntry_claims (s : State) (k : TileKey) :
    (s.removeEntry k).claims = s.claims := by
  simp only [State.removeEntry] <;> (repeat' split) <;> simp
@[simp] theorem State.removeEntry_monitors (s : State) (k : TileKey) :
    (s.removeEntry k).monitors = s.monitors := by
  simp only [State.removeEntry] <;> (repeat' split) <;> simp
@[simp] theorem State.removeEntry_timebase (s : State) (k : TileKey) :
    (s.removeEntry k).timebase = s.timebase := by
  simp only [State.removeEntry] <;> (repeat' split) <;> simp
@[simp] theorem State.removeEntry_links (s : State) (k : TileKey) :
    (s.removeEntry k).links = s.links := by
  simp only [State.removeEntry] <;> (repeat' split) <;> simp
@[simp] theorem State.removeEntry_port (s : State) (k : TileKey) :
    (s.removeEntry k).port = s.port := by
  simp only [State.removeEntry] <;> (repeat' split) <;> simp
@[simp] theorem State.removeEntry_attn (s : State) (k : TileKey) :
    (s.removeEntry k).attn = s.attn := by
  simp only [State.removeEntry] <;> (repeat' split) <;> simp
@[simp] theorem State.removeEntry_pending (s : State) (k : TileKey) :
    (s.removeEntry k).pending = s.pending := by
  simp only [State.removeEntry] <;> (repeat' split) <;> simp
/-! ## `State.stopTimer`: it touches only claims -/

@[simp] theorem State.stopTimer_copies (s : State) (h : HeadNo) :
    (s.stopTimer h).copies = s.copies := by
  simp only [State.stopTimer] <;> (repeat' split) <;> simp
@[simp] theorem State.stopTimer_bands (s : State) (h : HeadNo) :
    (s.stopTimer h).bands = s.bands := by
  simp only [State.stopTimer] <;> (repeat' split) <;> simp
@[simp] theorem State.stopTimer_dir (s : State) (h : HeadNo) :
    (s.stopTimer h).dir = s.dir := by
  simp only [State.stopTimer] <;> (repeat' split) <;> simp
@[simp] theorem State.stopTimer_freeSlots (s : State) (h : HeadNo) :
    (s.stopTimer h).freeSlots = s.freeSlots := by
  simp only [State.stopTimer] <;> (repeat' split) <;> simp
@[simp] theorem State.stopTimer_done (s : State) (h : HeadNo) :
    (s.stopTimer h).done = s.done := by
  simp only [State.stopTimer] <;> (repeat' split) <;> simp
@[simp] theorem State.stopTimer_store (s : State) (h : HeadNo) :
    (s.stopTimer h).store = s.store := by
  simp only [State.stopTimer] <;> (repeat' split) <;> simp
@[simp] theorem State.stopTimer_arb (s : State) (h : HeadNo) :
    (s.stopTimer h).arb = s.arb := by
  simp only [State.stopTimer] <;> (repeat' split) <;> simp
@[simp] theorem State.stopTimer_load (s : State) (h : HeadNo) :
    (s.stopTimer h).load = s.load := by
  simp only [State.stopTimer] <;> (repeat' split) <;> simp
@[simp] theorem State.stopTimer_engine (s : State) (h : HeadNo) :
    (s.stopTimer h).engine = s.engine := by
  simp only [State.stopTimer] <;> (repeat' split) <;> simp
@[simp] theorem State.stopTimer_hold (s : State) (h : HeadNo) :
    (s.stopTimer h).hold = s.hold := by
  simp only [State.stopTimer] <;> (repeat' split) <;> simp
@[simp] theorem State.stopTimer_heads (s : State) (h : HeadNo) :
    (s.stopTimer h).heads = s.heads := by
  simp only [State.stopTimer] <;> (repeat' split) <;> simp
@[simp] theorem State.stopTimer_monitors (s : State) (h : HeadNo) :
    (s.stopTimer h).monitors = s.monitors := by
  simp only [State.stopTimer] <;> (repeat' split) <;> simp
@[simp] theorem State.stopTimer_timebase (s : State) (h : HeadNo) :
    (s.stopTimer h).timebase = s.timebase := by
  simp only [State.stopTimer] <;> (repeat' split) <;> simp
@[simp] theorem State.stopTimer_links (s : State) (h : HeadNo) :
    (s.stopTimer h).links = s.links := by
  simp only [State.stopTimer] <;> (repeat' split) <;> simp
@[simp] theorem State.stopTimer_port (s : State) (h : HeadNo) :
    (s.stopTimer h).port = s.port := by
  simp only [State.stopTimer] <;> (repeat' split) <;> simp
@[simp] theorem State.stopTimer_attn (s : State) (h : HeadNo) :
    (s.stopTimer h).attn = s.attn := by
  simp only [State.stopTimer] <;> (repeat' split) <;> simp
@[simp] theorem State.stopTimer_pending (s : State) (h : HeadNo) :
    (s.stopTimer h).pending = s.pending := by
  simp only [State.stopTimer] <;> (repeat' split) <;> simp
/-! ## `State.dropClaim`: it touches only dir, claims -/

@[simp] theorem State.dropClaim_copies (s : State) (g : HeadNo) (k : TileKey) :
    (s.dropClaim g k).copies = s.copies := by
  simp only [State.dropClaim] <;> (repeat' split) <;> simp
@[simp] theorem State.dropClaim_bands (s : State) (g : HeadNo) (k : TileKey) :
    (s.dropClaim g k).bands = s.bands := by
  simp only [State.dropClaim] <;> (repeat' split) <;> simp
@[simp] theorem State.dropClaim_freeSlots (s : State) (g : HeadNo) (k : TileKey) :
    (s.dropClaim g k).freeSlots = s.freeSlots := by
  simp only [State.dropClaim] <;> (repeat' split) <;> simp
@[simp] theorem State.dropClaim_done (s : State) (g : HeadNo) (k : TileKey) :
    (s.dropClaim g k).done = s.done := by
  simp only [State.dropClaim] <;> (repeat' split) <;> simp
@[simp] theorem State.dropClaim_store (s : State) (g : HeadNo) (k : TileKey) :
    (s.dropClaim g k).store = s.store := by
  simp only [State.dropClaim] <;> (repeat' split) <;> simp
@[simp] theorem State.dropClaim_arb (s : State) (g : HeadNo) (k : TileKey) :
    (s.dropClaim g k).arb = s.arb := by
  simp only [State.dropClaim] <;> (repeat' split) <;> simp
@[simp] theorem State.dropClaim_load (s : State) (g : HeadNo) (k : TileKey) :
    (s.dropClaim g k).load = s.load := by
  simp only [State.dropClaim] <;> (repeat' split) <;> simp
@[simp] theorem State.dropClaim_engine (s : State) (g : HeadNo) (k : TileKey) :
    (s.dropClaim g k).engine = s.engine := by
  simp only [State.dropClaim] <;> (repeat' split) <;> simp
@[simp] theorem State.dropClaim_hold (s : State) (g : HeadNo) (k : TileKey) :
    (s.dropClaim g k).hold = s.hold := by
  simp only [State.dropClaim] <;> (repeat' split) <;> simp
@[simp] theorem State.dropClaim_heads (s : State) (g : HeadNo) (k : TileKey) :
    (s.dropClaim g k).heads = s.heads := by
  simp only [State.dropClaim] <;> (repeat' split) <;> simp
@[simp] theorem State.dropClaim_monitors (s : State) (g : HeadNo) (k : TileKey) :
    (s.dropClaim g k).monitors = s.monitors := by
  simp only [State.dropClaim] <;> (repeat' split) <;> simp
@[simp] theorem State.dropClaim_timebase (s : State) (g : HeadNo) (k : TileKey) :
    (s.dropClaim g k).timebase = s.timebase := by
  simp only [State.dropClaim] <;> (repeat' split) <;> simp
@[simp] theorem State.dropClaim_links (s : State) (g : HeadNo) (k : TileKey) :
    (s.dropClaim g k).links = s.links := by
  simp only [State.dropClaim] <;> (repeat' split) <;> simp
@[simp] theorem State.dropClaim_port (s : State) (g : HeadNo) (k : TileKey) :
    (s.dropClaim g k).port = s.port := by
  simp only [State.dropClaim] <;> (repeat' split) <;> simp
@[simp] theorem State.dropClaim_attn (s : State) (g : HeadNo) (k : TileKey) :
    (s.dropClaim g k).attn = s.attn := by
  simp only [State.dropClaim] <;> (repeat' split) <;> simp
@[simp] theorem State.dropClaim_pending (s : State) (g : HeadNo) (k : TileKey) :
    (s.dropClaim g k).pending = s.pending := by
  simp only [State.dropClaim] <;> (repeat' split) <;> simp
/-! ## `State.giveClaim`: it touches only dir, claims -/

@[simp] theorem State.giveClaim_copies (s : State) (h : HeadNo) (k : TileKey) :
    (s.giveClaim h k).copies = s.copies := by
  simp only [State.giveClaim] <;> (repeat' split) <;> simp
@[simp] theorem State.giveClaim_bands (s : State) (h : HeadNo) (k : TileKey) :
    (s.giveClaim h k).bands = s.bands := by
  simp only [State.giveClaim] <;> (repeat' split) <;> simp
@[simp] theorem State.giveClaim_freeSlots (s : State) (h : HeadNo) (k : TileKey) :
    (s.giveClaim h k).freeSlots = s.freeSlots := by
  simp only [State.giveClaim] <;> (repeat' split) <;> simp
@[simp] theorem State.giveClaim_done (s : State) (h : HeadNo) (k : TileKey) :
    (s.giveClaim h k).done = s.done := by
  simp only [State.giveClaim] <;> (repeat' split) <;> simp
@[simp] theorem State.giveClaim_store (s : State) (h : HeadNo) (k : TileKey) :
    (s.giveClaim h k).store = s.store := by
  simp only [State.giveClaim] <;> (repeat' split) <;> simp
@[simp] theorem State.giveClaim_arb (s : State) (h : HeadNo) (k : TileKey) :
    (s.giveClaim h k).arb = s.arb := by
  simp only [State.giveClaim] <;> (repeat' split) <;> simp
@[simp] theorem State.giveClaim_load (s : State) (h : HeadNo) (k : TileKey) :
    (s.giveClaim h k).load = s.load := by
  simp only [State.giveClaim] <;> (repeat' split) <;> simp
@[simp] theorem State.giveClaim_engine (s : State) (h : HeadNo) (k : TileKey) :
    (s.giveClaim h k).engine = s.engine := by
  simp only [State.giveClaim] <;> (repeat' split) <;> simp
@[simp] theorem State.giveClaim_hold (s : State) (h : HeadNo) (k : TileKey) :
    (s.giveClaim h k).hold = s.hold := by
  simp only [State.giveClaim] <;> (repeat' split) <;> simp
@[simp] theorem State.giveClaim_heads (s : State) (h : HeadNo) (k : TileKey) :
    (s.giveClaim h k).heads = s.heads := by
  simp only [State.giveClaim] <;> (repeat' split) <;> simp
@[simp] theorem State.giveClaim_monitors (s : State) (h : HeadNo) (k : TileKey) :
    (s.giveClaim h k).monitors = s.monitors := by
  simp only [State.giveClaim] <;> (repeat' split) <;> simp
@[simp] theorem State.giveClaim_timebase (s : State) (h : HeadNo) (k : TileKey) :
    (s.giveClaim h k).timebase = s.timebase := by
  simp only [State.giveClaim] <;> (repeat' split) <;> simp
@[simp] theorem State.giveClaim_links (s : State) (h : HeadNo) (k : TileKey) :
    (s.giveClaim h k).links = s.links := by
  simp only [State.giveClaim] <;> (repeat' split) <;> simp
@[simp] theorem State.giveClaim_port (s : State) (h : HeadNo) (k : TileKey) :
    (s.giveClaim h k).port = s.port := by
  simp only [State.giveClaim] <;> (repeat' split) <;> simp
@[simp] theorem State.giveClaim_attn (s : State) (h : HeadNo) (k : TileKey) :
    (s.giveClaim h k).attn = s.attn := by
  simp only [State.giveClaim] <;> (repeat' split) <;> simp
@[simp] theorem State.giveClaim_pending (s : State) (h : HeadNo) (k : TileKey) :
    (s.giveClaim h k).pending = s.pending := by
  simp only [State.giveClaim] <;> (repeat' split) <;> simp
/-! ## `State.releaseFrom`: it touches only dir, claims, heads, arb -/

@[simp] theorem State.releaseFrom_copies (n : Nat) (s : State) (g : HeadNo) (k : TileKey) :
    (State.releaseFrom n s g k).copies = s.copies := by
  induction n generalizing s g k with
  | zero => simp [State.releaseFrom]
  | succ n ih =>
    simp only [State.releaseFrom]
    split <;> try simp
    split <;> simp [ih]
@[simp] theorem State.releaseFrom_bands (n : Nat) (s : State) (g : HeadNo) (k : TileKey) :
    (State.releaseFrom n s g k).bands = s.bands := by
  induction n generalizing s g k with
  | zero => simp [State.releaseFrom]
  | succ n ih =>
    simp only [State.releaseFrom]
    split <;> try simp
    split <;> simp [ih]
@[simp] theorem State.releaseFrom_freeSlots (n : Nat) (s : State) (g : HeadNo) (k : TileKey) :
    (State.releaseFrom n s g k).freeSlots = s.freeSlots := by
  induction n generalizing s g k with
  | zero => simp [State.releaseFrom]
  | succ n ih =>
    simp only [State.releaseFrom]
    split <;> try simp
    split <;> simp [ih]
@[simp] theorem State.releaseFrom_done (n : Nat) (s : State) (g : HeadNo) (k : TileKey) :
    (State.releaseFrom n s g k).done = s.done := by
  induction n generalizing s g k with
  | zero => simp [State.releaseFrom]
  | succ n ih =>
    simp only [State.releaseFrom]
    split <;> try simp
    split <;> simp [ih]
@[simp] theorem State.releaseFrom_store (n : Nat) (s : State) (g : HeadNo) (k : TileKey) :
    (State.releaseFrom n s g k).store = s.store := by
  induction n generalizing s g k with
  | zero => simp [State.releaseFrom]
  | succ n ih =>
    simp only [State.releaseFrom]
    split <;> try simp
    split <;> simp [ih]
@[simp] theorem State.releaseFrom_load (n : Nat) (s : State) (g : HeadNo) (k : TileKey) :
    (State.releaseFrom n s g k).load = s.load := by
  induction n generalizing s g k with
  | zero => simp [State.releaseFrom]
  | succ n ih =>
    simp only [State.releaseFrom]
    split <;> try simp
    split <;> simp [ih]
@[simp] theorem State.releaseFrom_engine (n : Nat) (s : State) (g : HeadNo) (k : TileKey) :
    (State.releaseFrom n s g k).engine = s.engine := by
  induction n generalizing s g k with
  | zero => simp [State.releaseFrom]
  | succ n ih =>
    simp only [State.releaseFrom]
    split <;> try simp
    split <;> simp [ih]
@[simp] theorem State.releaseFrom_hold (n : Nat) (s : State) (g : HeadNo) (k : TileKey) :
    (State.releaseFrom n s g k).hold = s.hold := by
  induction n generalizing s g k with
  | zero => simp [State.releaseFrom]
  | succ n ih =>
    simp only [State.releaseFrom]
    split <;> try simp
    split <;> simp [ih]
@[simp] theorem State.releaseFrom_monitors (n : Nat) (s : State) (g : HeadNo) (k : TileKey) :
    (State.releaseFrom n s g k).monitors = s.monitors := by
  induction n generalizing s g k with
  | zero => simp [State.releaseFrom]
  | succ n ih =>
    simp only [State.releaseFrom]
    split <;> try simp
    split <;> simp [ih]
@[simp] theorem State.releaseFrom_timebase (n : Nat) (s : State) (g : HeadNo) (k : TileKey) :
    (State.releaseFrom n s g k).timebase = s.timebase := by
  induction n generalizing s g k with
  | zero => simp [State.releaseFrom]
  | succ n ih =>
    simp only [State.releaseFrom]
    split <;> try simp
    split <;> simp [ih]
@[simp] theorem State.releaseFrom_links (n : Nat) (s : State) (g : HeadNo) (k : TileKey) :
    (State.releaseFrom n s g k).links = s.links := by
  induction n generalizing s g k with
  | zero => simp [State.releaseFrom]
  | succ n ih =>
    simp only [State.releaseFrom]
    split <;> try simp
    split <;> simp [ih]
@[simp] theorem State.releaseFrom_port (n : Nat) (s : State) (g : HeadNo) (k : TileKey) :
    (State.releaseFrom n s g k).port = s.port := by
  induction n generalizing s g k with
  | zero => simp [State.releaseFrom]
  | succ n ih =>
    simp only [State.releaseFrom]
    split <;> try simp
    split <;> simp [ih]
@[simp] theorem State.releaseFrom_attn (n : Nat) (s : State) (g : HeadNo) (k : TileKey) :
    (State.releaseFrom n s g k).attn = s.attn := by
  induction n generalizing s g k with
  | zero => simp [State.releaseFrom]
  | succ n ih =>
    simp only [State.releaseFrom]
    split <;> try simp
    split <;> simp [ih]
@[simp] theorem State.releaseFrom_pending (n : Nat) (s : State) (g : HeadNo) (k : TileKey) :
    (State.releaseFrom n s g k).pending = s.pending := by
  induction n generalizing s g k with
  | zero => simp [State.releaseFrom]
  | succ n ih =>
    simp only [State.releaseFrom]
    split <;> try simp
    split <;> simp [ih]
/-! ## `State.release`: it touches only dir, claims, heads, arb -/

@[simp] theorem State.release_copies (s : State) (g : HeadNo) (k : TileKey) :
    (s.release g k).copies = s.copies := by
  simp only [State.release] <;> (repeat' split) <;> simp
@[simp] theorem State.release_bands (s : State) (g : HeadNo) (k : TileKey) :
    (s.release g k).bands = s.bands := by
  simp only [State.release] <;> (repeat' split) <;> simp
@[simp] theorem State.release_freeSlots (s : State) (g : HeadNo) (k : TileKey) :
    (s.release g k).freeSlots = s.freeSlots := by
  simp only [State.release] <;> (repeat' split) <;> simp
@[simp] theorem State.release_done (s : State) (g : HeadNo) (k : TileKey) :
    (s.release g k).done = s.done := by
  simp only [State.release] <;> (repeat' split) <;> simp
@[simp] theorem State.release_store (s : State) (g : HeadNo) (k : TileKey) :
    (s.release g k).store = s.store := by
  simp only [State.release] <;> (repeat' split) <;> simp
@[simp] theorem State.release_load (s : State) (g : HeadNo) (k : TileKey) :
    (s.release g k).load = s.load := by
  simp only [State.release] <;> (repeat' split) <;> simp
@[simp] theorem State.release_engine (s : State) (g : HeadNo) (k : TileKey) :
    (s.release g k).engine = s.engine := by
  simp only [State.release] <;> (repeat' split) <;> simp
@[simp] theorem State.release_hold (s : State) (g : HeadNo) (k : TileKey) :
    (s.release g k).hold = s.hold := by
  simp only [State.release] <;> (repeat' split) <;> simp
@[simp] theorem State.release_monitors (s : State) (g : HeadNo) (k : TileKey) :
    (s.release g k).monitors = s.monitors := by
  simp only [State.release] <;> (repeat' split) <;> simp
@[simp] theorem State.release_timebase (s : State) (g : HeadNo) (k : TileKey) :
    (s.release g k).timebase = s.timebase := by
  simp only [State.release] <;> (repeat' split) <;> simp
@[simp] theorem State.release_links (s : State) (g : HeadNo) (k : TileKey) :
    (s.release g k).links = s.links := by
  simp only [State.release] <;> (repeat' split) <;> simp
@[simp] theorem State.release_port (s : State) (g : HeadNo) (k : TileKey) :
    (s.release g k).port = s.port := by
  simp only [State.release] <;> (repeat' split) <;> simp
@[simp] theorem State.release_attn (s : State) (g : HeadNo) (k : TileKey) :
    (s.release g k).attn = s.attn := by
  simp only [State.release] <;> (repeat' split) <;> simp
@[simp] theorem State.release_pending (s : State) (g : HeadNo) (k : TileKey) :
    (s.release g k).pending = s.pending := by
  simp only [State.release] <;> (repeat' split) <;> simp
/-! ## `State.releaseAll`: it touches only dir, claims, heads, arb -/

@[simp] theorem State.releaseAll_copies (s : State) (g : HeadNo) (ks : List TileKey) :
    (s.releaseAll g ks).copies = s.copies := by
  induction ks generalizing s with
  | nil => rfl
  | cons x xs ih => simp only [State.releaseAll, List.foldl_cons] at ih ⊢; rw [ih]; simp
@[simp] theorem State.releaseAll_bands (s : State) (g : HeadNo) (ks : List TileKey) :
    (s.releaseAll g ks).bands = s.bands := by
  induction ks generalizing s with
  | nil => rfl
  | cons x xs ih => simp only [State.releaseAll, List.foldl_cons] at ih ⊢; rw [ih]; simp
@[simp] theorem State.releaseAll_freeSlots (s : State) (g : HeadNo) (ks : List TileKey) :
    (s.releaseAll g ks).freeSlots = s.freeSlots := by
  induction ks generalizing s with
  | nil => rfl
  | cons x xs ih => simp only [State.releaseAll, List.foldl_cons] at ih ⊢; rw [ih]; simp
@[simp] theorem State.releaseAll_done (s : State) (g : HeadNo) (ks : List TileKey) :
    (s.releaseAll g ks).done = s.done := by
  induction ks generalizing s with
  | nil => rfl
  | cons x xs ih => simp only [State.releaseAll, List.foldl_cons] at ih ⊢; rw [ih]; simp
@[simp] theorem State.releaseAll_store (s : State) (g : HeadNo) (ks : List TileKey) :
    (s.releaseAll g ks).store = s.store := by
  induction ks generalizing s with
  | nil => rfl
  | cons x xs ih => simp only [State.releaseAll, List.foldl_cons] at ih ⊢; rw [ih]; simp
@[simp] theorem State.releaseAll_load (s : State) (g : HeadNo) (ks : List TileKey) :
    (s.releaseAll g ks).load = s.load := by
  induction ks generalizing s with
  | nil => rfl
  | cons x xs ih => simp only [State.releaseAll, List.foldl_cons] at ih ⊢; rw [ih]; simp
@[simp] theorem State.releaseAll_engine (s : State) (g : HeadNo) (ks : List TileKey) :
    (s.releaseAll g ks).engine = s.engine := by
  induction ks generalizing s with
  | nil => rfl
  | cons x xs ih => simp only [State.releaseAll, List.foldl_cons] at ih ⊢; rw [ih]; simp
@[simp] theorem State.releaseAll_hold (s : State) (g : HeadNo) (ks : List TileKey) :
    (s.releaseAll g ks).hold = s.hold := by
  induction ks generalizing s with
  | nil => rfl
  | cons x xs ih => simp only [State.releaseAll, List.foldl_cons] at ih ⊢; rw [ih]; simp
@[simp] theorem State.releaseAll_monitors (s : State) (g : HeadNo) (ks : List TileKey) :
    (s.releaseAll g ks).monitors = s.monitors := by
  induction ks generalizing s with
  | nil => rfl
  | cons x xs ih => simp only [State.releaseAll, List.foldl_cons] at ih ⊢; rw [ih]; simp
@[simp] theorem State.releaseAll_timebase (s : State) (g : HeadNo) (ks : List TileKey) :
    (s.releaseAll g ks).timebase = s.timebase := by
  induction ks generalizing s with
  | nil => rfl
  | cons x xs ih => simp only [State.releaseAll, List.foldl_cons] at ih ⊢; rw [ih]; simp
@[simp] theorem State.releaseAll_links (s : State) (g : HeadNo) (ks : List TileKey) :
    (s.releaseAll g ks).links = s.links := by
  induction ks generalizing s with
  | nil => rfl
  | cons x xs ih => simp only [State.releaseAll, List.foldl_cons] at ih ⊢; rw [ih]; simp
@[simp] theorem State.releaseAll_port (s : State) (g : HeadNo) (ks : List TileKey) :
    (s.releaseAll g ks).port = s.port := by
  induction ks generalizing s with
  | nil => rfl
  | cons x xs ih => simp only [State.releaseAll, List.foldl_cons] at ih ⊢; rw [ih]; simp
@[simp] theorem State.releaseAll_attn (s : State) (g : HeadNo) (ks : List TileKey) :
    (s.releaseAll g ks).attn = s.attn := by
  induction ks generalizing s with
  | nil => rfl
  | cons x xs ih => simp only [State.releaseAll, List.foldl_cons] at ih ⊢; rw [ih]; simp
@[simp] theorem State.releaseAll_pending (s : State) (g : HeadNo) (ks : List TileKey) :
    (s.releaseAll g ks).pending = s.pending := by
  induction ks generalizing s with
  | nil => rfl
  | cons x xs ih => simp only [State.releaseAll, List.foldl_cons] at ih ⊢; rw [ih]; simp
/-! ## `State.takeClaim`: it touches only dir, claims, heads, arb -/

@[simp] theorem State.takeClaim_copies (s : State) (h : HeadNo) (k : TileKey) :
    (s.takeClaim h k).copies = s.copies := by
  simp only [State.takeClaim] <;> (repeat' split) <;> simp
@[simp] theorem State.takeClaim_bands (s : State) (h : HeadNo) (k : TileKey) :
    (s.takeClaim h k).bands = s.bands := by
  simp only [State.takeClaim] <;> (repeat' split) <;> simp
@[simp] theorem State.takeClaim_freeSlots (s : State) (h : HeadNo) (k : TileKey) :
    (s.takeClaim h k).freeSlots = s.freeSlots := by
  simp only [State.takeClaim] <;> (repeat' split) <;> simp
@[simp] theorem State.takeClaim_done (s : State) (h : HeadNo) (k : TileKey) :
    (s.takeClaim h k).done = s.done := by
  simp only [State.takeClaim] <;> (repeat' split) <;> simp
@[simp] theorem State.takeClaim_store (s : State) (h : HeadNo) (k : TileKey) :
    (s.takeClaim h k).store = s.store := by
  simp only [State.takeClaim] <;> (repeat' split) <;> simp
@[simp] theorem State.takeClaim_load (s : State) (h : HeadNo) (k : TileKey) :
    (s.takeClaim h k).load = s.load := by
  simp only [State.takeClaim] <;> (repeat' split) <;> simp
@[simp] theorem State.takeClaim_engine (s : State) (h : HeadNo) (k : TileKey) :
    (s.takeClaim h k).engine = s.engine := by
  simp only [State.takeClaim] <;> (repeat' split) <;> simp
@[simp] theorem State.takeClaim_hold (s : State) (h : HeadNo) (k : TileKey) :
    (s.takeClaim h k).hold = s.hold := by
  simp only [State.takeClaim] <;> (repeat' split) <;> simp
@[simp] theorem State.takeClaim_monitors (s : State) (h : HeadNo) (k : TileKey) :
    (s.takeClaim h k).monitors = s.monitors := by
  simp only [State.takeClaim] <;> (repeat' split) <;> simp
@[simp] theorem State.takeClaim_timebase (s : State) (h : HeadNo) (k : TileKey) :
    (s.takeClaim h k).timebase = s.timebase := by
  simp only [State.takeClaim] <;> (repeat' split) <;> simp
@[simp] theorem State.takeClaim_links (s : State) (h : HeadNo) (k : TileKey) :
    (s.takeClaim h k).links = s.links := by
  simp only [State.takeClaim] <;> (repeat' split) <;> simp
@[simp] theorem State.takeClaim_port (s : State) (h : HeadNo) (k : TileKey) :
    (s.takeClaim h k).port = s.port := by
  simp only [State.takeClaim] <;> (repeat' split) <;> simp
@[simp] theorem State.takeClaim_attn (s : State) (h : HeadNo) (k : TileKey) :
    (s.takeClaim h k).attn = s.attn := by
  simp only [State.takeClaim] <;> (repeat' split) <;> simp
@[simp] theorem State.takeClaim_pending (s : State) (h : HeadNo) (k : TileKey) :
    (s.takeClaim h k).pending = s.pending := by
  simp only [State.takeClaim] <;> (repeat' split) <;> simp
/-! ## `State.parkClaim`: it touches only dir, claims, heads -/

@[simp] theorem State.parkClaim_copies (s : State) (h : HeadNo) (k : TileKey) :
    (s.parkClaim h k).copies = s.copies := by
  simp only [State.parkClaim] <;> (repeat' split) <;> simp
@[simp] theorem State.parkClaim_bands (s : State) (h : HeadNo) (k : TileKey) :
    (s.parkClaim h k).bands = s.bands := by
  simp only [State.parkClaim] <;> (repeat' split) <;> simp
@[simp] theorem State.parkClaim_freeSlots (s : State) (h : HeadNo) (k : TileKey) :
    (s.parkClaim h k).freeSlots = s.freeSlots := by
  simp only [State.parkClaim] <;> (repeat' split) <;> simp
@[simp] theorem State.parkClaim_done (s : State) (h : HeadNo) (k : TileKey) :
    (s.parkClaim h k).done = s.done := by
  simp only [State.parkClaim] <;> (repeat' split) <;> simp
@[simp] theorem State.parkClaim_store (s : State) (h : HeadNo) (k : TileKey) :
    (s.parkClaim h k).store = s.store := by
  simp only [State.parkClaim] <;> (repeat' split) <;> simp
@[simp] theorem State.parkClaim_arb (s : State) (h : HeadNo) (k : TileKey) :
    (s.parkClaim h k).arb = s.arb := by
  simp only [State.parkClaim] <;> (repeat' split) <;> simp
@[simp] theorem State.parkClaim_load (s : State) (h : HeadNo) (k : TileKey) :
    (s.parkClaim h k).load = s.load := by
  simp only [State.parkClaim] <;> (repeat' split) <;> simp
@[simp] theorem State.parkClaim_engine (s : State) (h : HeadNo) (k : TileKey) :
    (s.parkClaim h k).engine = s.engine := by
  simp only [State.parkClaim] <;> (repeat' split) <;> simp
@[simp] theorem State.parkClaim_hold (s : State) (h : HeadNo) (k : TileKey) :
    (s.parkClaim h k).hold = s.hold := by
  simp only [State.parkClaim] <;> (repeat' split) <;> simp
@[simp] theorem State.parkClaim_monitors (s : State) (h : HeadNo) (k : TileKey) :
    (s.parkClaim h k).monitors = s.monitors := by
  simp only [State.parkClaim] <;> (repeat' split) <;> simp
@[simp] theorem State.parkClaim_timebase (s : State) (h : HeadNo) (k : TileKey) :
    (s.parkClaim h k).timebase = s.timebase := by
  simp only [State.parkClaim] <;> (repeat' split) <;> simp
@[simp] theorem State.parkClaim_links (s : State) (h : HeadNo) (k : TileKey) :
    (s.parkClaim h k).links = s.links := by
  simp only [State.parkClaim] <;> (repeat' split) <;> simp
@[simp] theorem State.parkClaim_port (s : State) (h : HeadNo) (k : TileKey) :
    (s.parkClaim h k).port = s.port := by
  simp only [State.parkClaim] <;> (repeat' split) <;> simp
@[simp] theorem State.parkClaim_attn (s : State) (h : HeadNo) (k : TileKey) :
    (s.parkClaim h k).attn = s.attn := by
  simp only [State.parkClaim] <;> (repeat' split) <;> simp
@[simp] theorem State.parkClaim_pending (s : State) (h : HeadNo) (k : TileKey) :
    (s.parkClaim h k).pending = s.pending := by
  simp only [State.parkClaim] <;> (repeat' split) <;> simp
/-! ## `State.claimStep`: it touches only dir, claims, heads, arb, links, attn -/

@[simp] theorem State.claimStep_copies (s : State) (h : HeadNo) (k : TileKey) :
    (s.claimStep h k).copies = s.copies := by
  simp only [State.claimStep] <;> (repeat' split) <;> simp
@[simp] theorem State.claimStep_bands (s : State) (h : HeadNo) (k : TileKey) :
    (s.claimStep h k).bands = s.bands := by
  simp only [State.claimStep] <;> (repeat' split) <;> simp
@[simp] theorem State.claimStep_freeSlots (s : State) (h : HeadNo) (k : TileKey) :
    (s.claimStep h k).freeSlots = s.freeSlots := by
  simp only [State.claimStep] <;> (repeat' split) <;> simp
@[simp] theorem State.claimStep_done (s : State) (h : HeadNo) (k : TileKey) :
    (s.claimStep h k).done = s.done := by
  simp only [State.claimStep] <;> (repeat' split) <;> simp
@[simp] theorem State.claimStep_store (s : State) (h : HeadNo) (k : TileKey) :
    (s.claimStep h k).store = s.store := by
  simp only [State.claimStep] <;> (repeat' split) <;> simp
@[simp] theorem State.claimStep_load (s : State) (h : HeadNo) (k : TileKey) :
    (s.claimStep h k).load = s.load := by
  simp only [State.claimStep] <;> (repeat' split) <;> simp
@[simp] theorem State.claimStep_engine (s : State) (h : HeadNo) (k : TileKey) :
    (s.claimStep h k).engine = s.engine := by
  simp only [State.claimStep] <;> (repeat' split) <;> simp
@[simp] theorem State.claimStep_hold (s : State) (h : HeadNo) (k : TileKey) :
    (s.claimStep h k).hold = s.hold := by
  simp only [State.claimStep] <;> (repeat' split) <;> simp
@[simp] theorem State.claimStep_monitors (s : State) (h : HeadNo) (k : TileKey) :
    (s.claimStep h k).monitors = s.monitors := by
  simp only [State.claimStep] <;> (repeat' split) <;> simp
@[simp] theorem State.claimStep_timebase (s : State) (h : HeadNo) (k : TileKey) :
    (s.claimStep h k).timebase = s.timebase := by
  simp only [State.claimStep] <;> (repeat' split) <;> simp
@[simp] theorem State.claimStep_port (s : State) (h : HeadNo) (k : TileKey) :
    (s.claimStep h k).port = s.port := by
  simp only [State.claimStep] <;> (repeat' split) <;> simp
@[simp] theorem State.claimStep_pending (s : State) (h : HeadNo) (k : TileKey) :
    (s.claimStep h k).pending = s.pending := by
  simp only [State.claimStep] <;> (repeat' split) <;> simp
/-! ## `State.serveWaiters`: it touches only claims, heads, arb -/

@[simp] theorem State.serveWaiters_copies (s : State) (ws : List HeadNo) :
    (s.serveWaiters ws).copies = s.copies := by
  induction ws generalizing s with
  | nil => rfl
  | cons x xs ih => simp only [State.serveWaiters, List.foldl_cons] at ih ⊢; rw [ih]; simp
@[simp] theorem State.serveWaiters_bands (s : State) (ws : List HeadNo) :
    (s.serveWaiters ws).bands = s.bands := by
  induction ws generalizing s with
  | nil => rfl
  | cons x xs ih => simp only [State.serveWaiters, List.foldl_cons] at ih ⊢; rw [ih]; simp
@[simp] theorem State.serveWaiters_dir (s : State) (ws : List HeadNo) :
    (s.serveWaiters ws).dir = s.dir := by
  induction ws generalizing s with
  | nil => rfl
  | cons x xs ih => simp only [State.serveWaiters, List.foldl_cons] at ih ⊢; rw [ih]; simp
@[simp] theorem State.serveWaiters_freeSlots (s : State) (ws : List HeadNo) :
    (s.serveWaiters ws).freeSlots = s.freeSlots := by
  induction ws generalizing s with
  | nil => rfl
  | cons x xs ih => simp only [State.serveWaiters, List.foldl_cons] at ih ⊢; rw [ih]; simp
@[simp] theorem State.serveWaiters_done (s : State) (ws : List HeadNo) :
    (s.serveWaiters ws).done = s.done := by
  induction ws generalizing s with
  | nil => rfl
  | cons x xs ih => simp only [State.serveWaiters, List.foldl_cons] at ih ⊢; rw [ih]; simp
@[simp] theorem State.serveWaiters_store (s : State) (ws : List HeadNo) :
    (s.serveWaiters ws).store = s.store := by
  induction ws generalizing s with
  | nil => rfl
  | cons x xs ih => simp only [State.serveWaiters, List.foldl_cons] at ih ⊢; rw [ih]; simp
@[simp] theorem State.serveWaiters_load (s : State) (ws : List HeadNo) :
    (s.serveWaiters ws).load = s.load := by
  induction ws generalizing s with
  | nil => rfl
  | cons x xs ih => simp only [State.serveWaiters, List.foldl_cons] at ih ⊢; rw [ih]; simp
@[simp] theorem State.serveWaiters_engine (s : State) (ws : List HeadNo) :
    (s.serveWaiters ws).engine = s.engine := by
  induction ws generalizing s with
  | nil => rfl
  | cons x xs ih => simp only [State.serveWaiters, List.foldl_cons] at ih ⊢; rw [ih]; simp
@[simp] theorem State.serveWaiters_hold (s : State) (ws : List HeadNo) :
    (s.serveWaiters ws).hold = s.hold := by
  induction ws generalizing s with
  | nil => rfl
  | cons x xs ih => simp only [State.serveWaiters, List.foldl_cons] at ih ⊢; rw [ih]; simp
@[simp] theorem State.serveWaiters_monitors (s : State) (ws : List HeadNo) :
    (s.serveWaiters ws).monitors = s.monitors := by
  induction ws generalizing s with
  | nil => rfl
  | cons x xs ih => simp only [State.serveWaiters, List.foldl_cons] at ih ⊢; rw [ih]; simp
@[simp] theorem State.serveWaiters_timebase (s : State) (ws : List HeadNo) :
    (s.serveWaiters ws).timebase = s.timebase := by
  induction ws generalizing s with
  | nil => rfl
  | cons x xs ih => simp only [State.serveWaiters, List.foldl_cons] at ih ⊢; rw [ih]; simp
@[simp] theorem State.serveWaiters_links (s : State) (ws : List HeadNo) :
    (s.serveWaiters ws).links = s.links := by
  induction ws generalizing s with
  | nil => rfl
  | cons x xs ih => simp only [State.serveWaiters, List.foldl_cons] at ih ⊢; rw [ih]; simp
@[simp] theorem State.serveWaiters_port (s : State) (ws : List HeadNo) :
    (s.serveWaiters ws).port = s.port := by
  induction ws generalizing s with
  | nil => rfl
  | cons x xs ih => simp only [State.serveWaiters, List.foldl_cons] at ih ⊢; rw [ih]; simp
@[simp] theorem State.serveWaiters_attn (s : State) (ws : List HeadNo) :
    (s.serveWaiters ws).attn = s.attn := by
  induction ws generalizing s with
  | nil => rfl
  | cons x xs ih => simp only [State.serveWaiters, List.foldl_cons] at ih ⊢; rw [ih]; simp
@[simp] theorem State.serveWaiters_pending (s : State) (ws : List HeadNo) :
    (s.serveWaiters ws).pending = s.pending := by
  induction ws generalizing s with
  | nil => rfl
  | cons x xs ih => simp only [State.serveWaiters, List.foldl_cons] at ih ⊢; rw [ih]; simp
/-! ## `State.enterDone`: it touches only done, dir, claims, heads, arb, attn -/

@[simp] theorem State.enterDone_copies (s : State) (k : TileKey) :
    (s.enterDone k).copies = s.copies := by
  simp only [State.enterDone] <;> (repeat' split) <;> simp
@[simp] theorem State.enterDone_bands (s : State) (k : TileKey) :
    (s.enterDone k).bands = s.bands := by
  simp only [State.enterDone] <;> (repeat' split) <;> simp
@[simp] theorem State.enterDone_freeSlots (s : State) (k : TileKey) :
    (s.enterDone k).freeSlots = s.freeSlots := by
  simp only [State.enterDone] <;> (repeat' split) <;> simp
@[simp] theorem State.enterDone_store (s : State) (k : TileKey) :
    (s.enterDone k).store = s.store := by
  simp only [State.enterDone] <;> (repeat' split) <;> simp
@[simp] theorem State.enterDone_load (s : State) (k : TileKey) :
    (s.enterDone k).load = s.load := by
  simp only [State.enterDone] <;> (repeat' split) <;> simp
@[simp] theorem State.enterDone_engine (s : State) (k : TileKey) :
    (s.enterDone k).engine = s.engine := by
  simp only [State.enterDone] <;> (repeat' split) <;> simp
@[simp] theorem State.enterDone_hold (s : State) (k : TileKey) :
    (s.enterDone k).hold = s.hold := by
  simp only [State.enterDone] <;> (repeat' split) <;> simp
@[simp] theorem State.enterDone_monitors (s : State) (k : TileKey) :
    (s.enterDone k).monitors = s.monitors := by
  simp only [State.enterDone] <;> (repeat' split) <;> simp
@[simp] theorem State.enterDone_timebase (s : State) (k : TileKey) :
    (s.enterDone k).timebase = s.timebase := by
  simp only [State.enterDone] <;> (repeat' split) <;> simp
@[simp] theorem State.enterDone_links (s : State) (k : TileKey) :
    (s.enterDone k).links = s.links := by
  simp only [State.enterDone] <;> (repeat' split) <;> simp
@[simp] theorem State.enterDone_port (s : State) (k : TileKey) :
    (s.enterDone k).port = s.port := by
  simp only [State.enterDone] <;> (repeat' split) <;> simp
@[simp] theorem State.enterDone_pending (s : State) (k : TileKey) :
    (s.enterDone k).pending = s.pending := by
  simp only [State.enterDone] <;> (repeat' split) <;> simp
/-! ## `State.leaveDoneQueue`: it touches only done -/

@[simp] theorem State.leaveDoneQueue_copies (s : State) (k : TileKey) :
    (s.leaveDoneQueue k).copies = s.copies := by
  simp only [State.leaveDoneQueue] <;> (repeat' split) <;> simp
@[simp] theorem State.leaveDoneQueue_bands (s : State) (k : TileKey) :
    (s.leaveDoneQueue k).bands = s.bands := by
  simp only [State.leaveDoneQueue] <;> (repeat' split) <;> simp
@[simp] theorem State.leaveDoneQueue_dir (s : State) (k : TileKey) :
    (s.leaveDoneQueue k).dir = s.dir := by
  simp only [State.leaveDoneQueue] <;> (repeat' split) <;> simp
@[simp] theorem State.leaveDoneQueue_freeSlots (s : State) (k : TileKey) :
    (s.leaveDoneQueue k).freeSlots = s.freeSlots := by
  simp only [State.leaveDoneQueue] <;> (repeat' split) <;> simp
@[simp] theorem State.leaveDoneQueue_store (s : State) (k : TileKey) :
    (s.leaveDoneQueue k).store = s.store := by
  simp only [State.leaveDoneQueue] <;> (repeat' split) <;> simp
@[simp] theorem State.leaveDoneQueue_arb (s : State) (k : TileKey) :
    (s.leaveDoneQueue k).arb = s.arb := by
  simp only [State.leaveDoneQueue] <;> (repeat' split) <;> simp
@[simp] theorem State.leaveDoneQueue_load (s : State) (k : TileKey) :
    (s.leaveDoneQueue k).load = s.load := by
  simp only [State.leaveDoneQueue] <;> (repeat' split) <;> simp
@[simp] theorem State.leaveDoneQueue_engine (s : State) (k : TileKey) :
    (s.leaveDoneQueue k).engine = s.engine := by
  simp only [State.leaveDoneQueue] <;> (repeat' split) <;> simp
@[simp] theorem State.leaveDoneQueue_hold (s : State) (k : TileKey) :
    (s.leaveDoneQueue k).hold = s.hold := by
  simp only [State.leaveDoneQueue] <;> (repeat' split) <;> simp
@[simp] theorem State.leaveDoneQueue_claims (s : State) (k : TileKey) :
    (s.leaveDoneQueue k).claims = s.claims := by
  simp only [State.leaveDoneQueue] <;> (repeat' split) <;> simp
@[simp] theorem State.leaveDoneQueue_heads (s : State) (k : TileKey) :
    (s.leaveDoneQueue k).heads = s.heads := by
  simp only [State.leaveDoneQueue] <;> (repeat' split) <;> simp
@[simp] theorem State.leaveDoneQueue_monitors (s : State) (k : TileKey) :
    (s.leaveDoneQueue k).monitors = s.monitors := by
  simp only [State.leaveDoneQueue] <;> (repeat' split) <;> simp
@[simp] theorem State.leaveDoneQueue_timebase (s : State) (k : TileKey) :
    (s.leaveDoneQueue k).timebase = s.timebase := by
  simp only [State.leaveDoneQueue] <;> (repeat' split) <;> simp
@[simp] theorem State.leaveDoneQueue_links (s : State) (k : TileKey) :
    (s.leaveDoneQueue k).links = s.links := by
  simp only [State.leaveDoneQueue] <;> (repeat' split) <;> simp
@[simp] theorem State.leaveDoneQueue_port (s : State) (k : TileKey) :
    (s.leaveDoneQueue k).port = s.port := by
  simp only [State.leaveDoneQueue] <;> (repeat' split) <;> simp
@[simp] theorem State.leaveDoneQueue_attn (s : State) (k : TileKey) :
    (s.leaveDoneQueue k).attn = s.attn := by
  simp only [State.leaveDoneQueue] <;> (repeat' split) <;> simp
@[simp] theorem State.leaveDoneQueue_pending (s : State) (k : TileKey) :
    (s.leaveDoneQueue k).pending = s.pending := by
  simp only [State.leaveDoneQueue] <;> (repeat' split) <;> simp
/-! ## `State.parkCopy`: it touches only engine, heads -/

@[simp] theorem State.parkCopy_copies (s : State) (h : HeadNo) :
    (s.parkCopy h).copies = s.copies := by
  simp only [State.parkCopy] <;> (repeat' split) <;> simp
@[simp] theorem State.parkCopy_bands (s : State) (h : HeadNo) :
    (s.parkCopy h).bands = s.bands := by
  simp only [State.parkCopy] <;> (repeat' split) <;> simp
@[simp] theorem State.parkCopy_dir (s : State) (h : HeadNo) :
    (s.parkCopy h).dir = s.dir := by
  simp only [State.parkCopy] <;> (repeat' split) <;> simp
@[simp] theorem State.parkCopy_freeSlots (s : State) (h : HeadNo) :
    (s.parkCopy h).freeSlots = s.freeSlots := by
  simp only [State.parkCopy] <;> (repeat' split) <;> simp
@[simp] theorem State.parkCopy_done (s : State) (h : HeadNo) :
    (s.parkCopy h).done = s.done := by
  simp only [State.parkCopy] <;> (repeat' split) <;> simp
@[simp] theorem State.parkCopy_store (s : State) (h : HeadNo) :
    (s.parkCopy h).store = s.store := by
  simp only [State.parkCopy] <;> (repeat' split) <;> simp
@[simp] theorem State.parkCopy_arb (s : State) (h : HeadNo) :
    (s.parkCopy h).arb = s.arb := by
  simp only [State.parkCopy] <;> (repeat' split) <;> simp
@[simp] theorem State.parkCopy_load (s : State) (h : HeadNo) :
    (s.parkCopy h).load = s.load := by
  simp only [State.parkCopy] <;> (repeat' split) <;> simp
@[simp] theorem State.parkCopy_hold (s : State) (h : HeadNo) :
    (s.parkCopy h).hold = s.hold := by
  simp only [State.parkCopy] <;> (repeat' split) <;> simp
@[simp] theorem State.parkCopy_claims (s : State) (h : HeadNo) :
    (s.parkCopy h).claims = s.claims := by
  simp only [State.parkCopy] <;> (repeat' split) <;> simp
@[simp] theorem State.parkCopy_monitors (s : State) (h : HeadNo) :
    (s.parkCopy h).monitors = s.monitors := by
  simp only [State.parkCopy] <;> (repeat' split) <;> simp
@[simp] theorem State.parkCopy_timebase (s : State) (h : HeadNo) :
    (s.parkCopy h).timebase = s.timebase := by
  simp only [State.parkCopy] <;> (repeat' split) <;> simp
@[simp] theorem State.parkCopy_links (s : State) (h : HeadNo) :
    (s.parkCopy h).links = s.links := by
  simp only [State.parkCopy] <;> (repeat' split) <;> simp
@[simp] theorem State.parkCopy_port (s : State) (h : HeadNo) :
    (s.parkCopy h).port = s.port := by
  simp only [State.parkCopy] <;> (repeat' split) <;> simp
@[simp] theorem State.parkCopy_attn (s : State) (h : HeadNo) :
    (s.parkCopy h).attn = s.attn := by
  simp only [State.parkCopy] <;> (repeat' split) <;> simp
@[simp] theorem State.parkCopy_pending (s : State) (h : HeadNo) :
    (s.parkCopy h).pending = s.pending := by
  simp only [State.parkCopy] <;> (repeat' split) <;> simp
/-! ## `State.leaveWait`: it touches only dir, engine, claims -/

@[simp] theorem State.leaveWait_copies (s : State) (h : HeadNo) :
    (s.leaveWait h).copies = s.copies := by
  simp only [State.leaveWait] <;> (repeat' split) <;> simp
@[simp] theorem State.leaveWait_bands (s : State) (h : HeadNo) :
    (s.leaveWait h).bands = s.bands := by
  simp only [State.leaveWait] <;> (repeat' split) <;> simp
@[simp] theorem State.leaveWait_freeSlots (s : State) (h : HeadNo) :
    (s.leaveWait h).freeSlots = s.freeSlots := by
  simp only [State.leaveWait] <;> (repeat' split) <;> simp
@[simp] theorem State.leaveWait_done (s : State) (h : HeadNo) :
    (s.leaveWait h).done = s.done := by
  simp only [State.leaveWait] <;> (repeat' split) <;> simp
@[simp] theorem State.leaveWait_store (s : State) (h : HeadNo) :
    (s.leaveWait h).store = s.store := by
  simp only [State.leaveWait] <;> (repeat' split) <;> simp
@[simp] theorem State.leaveWait_arb (s : State) (h : HeadNo) :
    (s.leaveWait h).arb = s.arb := by
  simp only [State.leaveWait] <;> (repeat' split) <;> simp
@[simp] theorem State.leaveWait_load (s : State) (h : HeadNo) :
    (s.leaveWait h).load = s.load := by
  simp only [State.leaveWait] <;> (repeat' split) <;> simp
@[simp] theorem State.leaveWait_hold (s : State) (h : HeadNo) :
    (s.leaveWait h).hold = s.hold := by
  simp only [State.leaveWait] <;> (repeat' split) <;> simp
@[simp] theorem State.leaveWait_heads (s : State) (h : HeadNo) :
    (s.leaveWait h).heads = s.heads := by
  simp only [State.leaveWait] <;> (repeat' split) <;> simp
@[simp] theorem State.leaveWait_monitors (s : State) (h : HeadNo) :
    (s.leaveWait h).monitors = s.monitors := by
  simp only [State.leaveWait] <;> (repeat' split) <;> simp
@[simp] theorem State.leaveWait_timebase (s : State) (h : HeadNo) :
    (s.leaveWait h).timebase = s.timebase := by
  simp only [State.leaveWait] <;> (repeat' split) <;> simp
@[simp] theorem State.leaveWait_links (s : State) (h : HeadNo) :
    (s.leaveWait h).links = s.links := by
  simp only [State.leaveWait] <;> (repeat' split) <;> simp
@[simp] theorem State.leaveWait_port (s : State) (h : HeadNo) :
    (s.leaveWait h).port = s.port := by
  simp only [State.leaveWait] <;> (repeat' split) <;> simp
@[simp] theorem State.leaveWait_attn (s : State) (h : HeadNo) :
    (s.leaveWait h).attn = s.attn := by
  simp only [State.leaveWait] <;> (repeat' split) <;> simp
@[simp] theorem State.leaveWait_pending (s : State) (h : HeadNo) :
    (s.leaveWait h).pending = s.pending := by
  simp only [State.leaveWait] <;> (repeat' split) <;> simp
/-! ## `State.endParked`: it touches only dir, engine, claims, heads, links -/

@[simp] theorem State.endParked_copies (s : State) (h : HeadNo) (st : Status) :
    (s.endParked h st).copies = s.copies := by
  simp only [State.endParked] <;> (repeat' split) <;> simp
@[simp] theorem State.endParked_bands (s : State) (h : HeadNo) (st : Status) :
    (s.endParked h st).bands = s.bands := by
  simp only [State.endParked] <;> (repeat' split) <;> simp
@[simp] theorem State.endParked_freeSlots (s : State) (h : HeadNo) (st : Status) :
    (s.endParked h st).freeSlots = s.freeSlots := by
  simp only [State.endParked] <;> (repeat' split) <;> simp
@[simp] theorem State.endParked_done (s : State) (h : HeadNo) (st : Status) :
    (s.endParked h st).done = s.done := by
  simp only [State.endParked] <;> (repeat' split) <;> simp
@[simp] theorem State.endParked_store (s : State) (h : HeadNo) (st : Status) :
    (s.endParked h st).store = s.store := by
  simp only [State.endParked] <;> (repeat' split) <;> simp
@[simp] theorem State.endParked_arb (s : State) (h : HeadNo) (st : Status) :
    (s.endParked h st).arb = s.arb := by
  simp only [State.endParked] <;> (repeat' split) <;> simp
@[simp] theorem State.endParked_load (s : State) (h : HeadNo) (st : Status) :
    (s.endParked h st).load = s.load := by
  simp only [State.endParked] <;> (repeat' split) <;> simp
@[simp] theorem State.endParked_hold (s : State) (h : HeadNo) (st : Status) :
    (s.endParked h st).hold = s.hold := by
  simp only [State.endParked] <;> (repeat' split) <;> simp
@[simp] theorem State.endParked_monitors (s : State) (h : HeadNo) (st : Status) :
    (s.endParked h st).monitors = s.monitors := by
  simp only [State.endParked] <;> (repeat' split) <;> simp
@[simp] theorem State.endParked_timebase (s : State) (h : HeadNo) (st : Status) :
    (s.endParked h st).timebase = s.timebase := by
  simp only [State.endParked] <;> (repeat' split) <;> simp
@[simp] theorem State.endParked_port (s : State) (h : HeadNo) (st : Status) :
    (s.endParked h st).port = s.port := by
  simp only [State.endParked] <;> (repeat' split) <;> simp
@[simp] theorem State.endParked_attn (s : State) (h : HeadNo) (st : Status) :
    (s.endParked h st).attn = s.attn := by
  simp only [State.endParked] <;> (repeat' split) <;> simp
@[simp] theorem State.endParked_pending (s : State) (h : HeadNo) (st : Status) :
    (s.endParked h st).pending = s.pending := by
  simp only [State.endParked] <;> (repeat' split) <;> simp
/-! ## `State.directoryStep`: it touches only dir, engine, claims, heads, arb, links, attn -/

@[simp] theorem State.directoryStep_copies (s : State) (h : HeadNo) :
    (s.directoryStep h).copies = s.copies := by
  simp only [State.directoryStep] <;> (repeat' split) <;> simp
@[simp] theorem State.directoryStep_bands (s : State) (h : HeadNo) :
    (s.directoryStep h).bands = s.bands := by
  simp only [State.directoryStep] <;> (repeat' split) <;> simp
@[simp] theorem State.directoryStep_freeSlots (s : State) (h : HeadNo) :
    (s.directoryStep h).freeSlots = s.freeSlots := by
  simp only [State.directoryStep] <;> (repeat' split) <;> simp
@[simp] theorem State.directoryStep_done (s : State) (h : HeadNo) :
    (s.directoryStep h).done = s.done := by
  simp only [State.directoryStep] <;> (repeat' split) <;> simp
@[simp] theorem State.directoryStep_store (s : State) (h : HeadNo) :
    (s.directoryStep h).store = s.store := by
  simp only [State.directoryStep] <;> (repeat' split) <;> simp
@[simp] theorem State.directoryStep_load (s : State) (h : HeadNo) :
    (s.directoryStep h).load = s.load := by
  simp only [State.directoryStep] <;> (repeat' split) <;> simp
@[simp] theorem State.directoryStep_hold (s : State) (h : HeadNo) :
    (s.directoryStep h).hold = s.hold := by
  simp only [State.directoryStep] <;> (repeat' split) <;> simp
@[simp] theorem State.directoryStep_monitors (s : State) (h : HeadNo) :
    (s.directoryStep h).monitors = s.monitors := by
  simp only [State.directoryStep] <;> (repeat' split) <;> simp
@[simp] theorem State.directoryStep_timebase (s : State) (h : HeadNo) :
    (s.directoryStep h).timebase = s.timebase := by
  simp only [State.directoryStep] <;> (repeat' split) <;> simp
@[simp] theorem State.directoryStep_port (s : State) (h : HeadNo) :
    (s.directoryStep h).port = s.port := by
  simp only [State.directoryStep] <;> (repeat' split) <;> simp
@[simp] theorem State.directoryStep_pending (s : State) (h : HeadNo) :
    (s.directoryStep h).pending = s.pending := by
  simp only [State.directoryStep] <;> (repeat' split) <;> simp
/-! ## `State.checkProbe`: it touches only dir, engine, claims, heads, arb, links, attn -/

@[simp] theorem State.checkProbe_copies (s : State) (h : HeadNo) (r : Request) :
    (s.checkProbe h r).copies = s.copies := by
  simp only [State.checkProbe] <;> (repeat' split) <;> simp
@[simp] theorem State.checkProbe_bands (s : State) (h : HeadNo) (r : Request) :
    (s.checkProbe h r).bands = s.bands := by
  simp only [State.checkProbe] <;> (repeat' split) <;> simp
@[simp] theorem State.checkProbe_freeSlots (s : State) (h : HeadNo) (r : Request) :
    (s.checkProbe h r).freeSlots = s.freeSlots := by
  simp only [State.checkProbe] <;> (repeat' split) <;> simp
@[simp] theorem State.checkProbe_done (s : State) (h : HeadNo) (r : Request) :
    (s.checkProbe h r).done = s.done := by
  simp only [State.checkProbe] <;> (repeat' split) <;> simp
@[simp] theorem State.checkProbe_store (s : State) (h : HeadNo) (r : Request) :
    (s.checkProbe h r).store = s.store := by
  simp only [State.checkProbe] <;> (repeat' split) <;> simp
@[simp] theorem State.checkProbe_load (s : State) (h : HeadNo) (r : Request) :
    (s.checkProbe h r).load = s.load := by
  simp only [State.checkProbe] <;> (repeat' split) <;> simp
@[simp] theorem State.checkProbe_hold (s : State) (h : HeadNo) (r : Request) :
    (s.checkProbe h r).hold = s.hold := by
  simp only [State.checkProbe] <;> (repeat' split) <;> simp
@[simp] theorem State.checkProbe_monitors (s : State) (h : HeadNo) (r : Request) :
    (s.checkProbe h r).monitors = s.monitors := by
  simp only [State.checkProbe] <;> (repeat' split) <;> simp
@[simp] theorem State.checkProbe_timebase (s : State) (h : HeadNo) (r : Request) :
    (s.checkProbe h r).timebase = s.timebase := by
  simp only [State.checkProbe] <;> (repeat' split) <;> simp
@[simp] theorem State.checkProbe_port (s : State) (h : HeadNo) (r : Request) :
    (s.checkProbe h r).port = s.port := by
  simp only [State.checkProbe] <;> (repeat' split) <;> simp
@[simp] theorem State.checkProbe_pending (s : State) (h : HeadNo) (r : Request) :
    (s.checkProbe h r).pending = s.pending := by
  simp only [State.checkProbe] <;> (repeat' split) <;> simp
/-! ## `State.checkReport`: it touches only dir, engine, claims, heads, arb, links, attn -/

@[simp] theorem State.checkReport_copies (s : State) (h : HeadNo) (r : Request) :
    (s.checkReport h r).copies = s.copies := by
  simp only [State.checkReport] <;> (repeat' split) <;> simp
@[simp] theorem State.checkReport_bands (s : State) (h : HeadNo) (r : Request) :
    (s.checkReport h r).bands = s.bands := by
  simp only [State.checkReport] <;> (repeat' split) <;> simp
@[simp] theorem State.checkReport_freeSlots (s : State) (h : HeadNo) (r : Request) :
    (s.checkReport h r).freeSlots = s.freeSlots := by
  simp only [State.checkReport] <;> (repeat' split) <;> simp
@[simp] theorem State.checkReport_done (s : State) (h : HeadNo) (r : Request) :
    (s.checkReport h r).done = s.done := by
  simp only [State.checkReport] <;> (repeat' split) <;> simp
@[simp] theorem State.checkReport_store (s : State) (h : HeadNo) (r : Request) :
    (s.checkReport h r).store = s.store := by
  simp only [State.checkReport] <;> (repeat' split) <;> simp
@[simp] theorem State.checkReport_load (s : State) (h : HeadNo) (r : Request) :
    (s.checkReport h r).load = s.load := by
  simp only [State.checkReport] <;> (repeat' split) <;> simp
@[simp] theorem State.checkReport_hold (s : State) (h : HeadNo) (r : Request) :
    (s.checkReport h r).hold = s.hold := by
  simp only [State.checkReport] <;> (repeat' split) <;> simp
@[simp] theorem State.checkReport_monitors (s : State) (h : HeadNo) (r : Request) :
    (s.checkReport h r).monitors = s.monitors := by
  simp only [State.checkReport] <;> (repeat' split) <;> simp
@[simp] theorem State.checkReport_timebase (s : State) (h : HeadNo) (r : Request) :
    (s.checkReport h r).timebase = s.timebase := by
  simp only [State.checkReport] <;> (repeat' split) <;> simp
@[simp] theorem State.checkReport_port (s : State) (h : HeadNo) (r : Request) :
    (s.checkReport h r).port = s.port := by
  simp only [State.checkReport] <;> (repeat' split) <;> simp
@[simp] theorem State.checkReport_pending (s : State) (h : HeadNo) (r : Request) :
    (s.checkReport h r).pending = s.pending := by
  simp only [State.checkReport] <;> (repeat' split) <;> simp
/-! ## `State.serveRelease`: it touches only dir, claims, heads, arb, links -/

@[simp] theorem State.serveRelease_copies (s : State) (h : HeadNo) (r : Request) :
    (s.serveRelease h r).copies = s.copies := by
  simp only [State.serveRelease] <;> (repeat' split) <;> simp
@[simp] theorem State.serveRelease_bands (s : State) (h : HeadNo) (r : Request) :
    (s.serveRelease h r).bands = s.bands := by
  simp only [State.serveRelease] <;> (repeat' split) <;> simp
@[simp] theorem State.serveRelease_freeSlots (s : State) (h : HeadNo) (r : Request) :
    (s.serveRelease h r).freeSlots = s.freeSlots := by
  simp only [State.serveRelease] <;> (repeat' split) <;> simp
@[simp] theorem State.serveRelease_done (s : State) (h : HeadNo) (r : Request) :
    (s.serveRelease h r).done = s.done := by
  simp only [State.serveRelease] <;> (repeat' split) <;> simp
@[simp] theorem State.serveRelease_store (s : State) (h : HeadNo) (r : Request) :
    (s.serveRelease h r).store = s.store := by
  simp only [State.serveRelease] <;> (repeat' split) <;> simp
@[simp] theorem State.serveRelease_load (s : State) (h : HeadNo) (r : Request) :
    (s.serveRelease h r).load = s.load := by
  simp only [State.serveRelease] <;> (repeat' split) <;> simp
@[simp] theorem State.serveRelease_engine (s : State) (h : HeadNo) (r : Request) :
    (s.serveRelease h r).engine = s.engine := by
  simp only [State.serveRelease] <;> (repeat' split) <;> simp
@[simp] theorem State.serveRelease_hold (s : State) (h : HeadNo) (r : Request) :
    (s.serveRelease h r).hold = s.hold := by
  simp only [State.serveRelease] <;> (repeat' split) <;> simp
@[simp] theorem State.serveRelease_monitors (s : State) (h : HeadNo) (r : Request) :
    (s.serveRelease h r).monitors = s.monitors := by
  simp only [State.serveRelease] <;> (repeat' split) <;> simp
@[simp] theorem State.serveRelease_timebase (s : State) (h : HeadNo) (r : Request) :
    (s.serveRelease h r).timebase = s.timebase := by
  simp only [State.serveRelease] <;> (repeat' split) <;> simp
@[simp] theorem State.serveRelease_port (s : State) (h : HeadNo) (r : Request) :
    (s.serveRelease h r).port = s.port := by
  simp only [State.serveRelease] <;> (repeat' split) <;> simp
@[simp] theorem State.serveRelease_attn (s : State) (h : HeadNo) (r : Request) :
    (s.serveRelease h r).attn = s.attn := by
  simp only [State.serveRelease] <;> (repeat' split) <;> simp
@[simp] theorem State.serveRelease_pending (s : State) (h : HeadNo) (r : Request) :
    (s.serveRelease h r).pending = s.pending := by
  simp only [State.serveRelease] <;> (repeat' split) <;> simp
/-! ## `State.checkRelease`: it touches only dir, claims, heads, arb, links -/

@[simp] theorem State.checkRelease_copies (s : State) (h : HeadNo) (r : Request) :
    (s.checkRelease h r).copies = s.copies := by
  simp only [State.checkRelease] <;> (repeat' split) <;> simp
@[simp] theorem State.checkRelease_bands (s : State) (h : HeadNo) (r : Request) :
    (s.checkRelease h r).bands = s.bands := by
  simp only [State.checkRelease] <;> (repeat' split) <;> simp
@[simp] theorem State.checkRelease_freeSlots (s : State) (h : HeadNo) (r : Request) :
    (s.checkRelease h r).freeSlots = s.freeSlots := by
  simp only [State.checkRelease] <;> (repeat' split) <;> simp
@[simp] theorem State.checkRelease_done (s : State) (h : HeadNo) (r : Request) :
    (s.checkRelease h r).done = s.done := by
  simp only [State.checkRelease] <;> (repeat' split) <;> simp
@[simp] theorem State.checkRelease_store (s : State) (h : HeadNo) (r : Request) :
    (s.checkRelease h r).store = s.store := by
  simp only [State.checkRelease] <;> (repeat' split) <;> simp
@[simp] theorem State.checkRelease_load (s : State) (h : HeadNo) (r : Request) :
    (s.checkRelease h r).load = s.load := by
  simp only [State.checkRelease] <;> (repeat' split) <;> simp
@[simp] theorem State.checkRelease_engine (s : State) (h : HeadNo) (r : Request) :
    (s.checkRelease h r).engine = s.engine := by
  simp only [State.checkRelease] <;> (repeat' split) <;> simp
@[simp] theorem State.checkRelease_hold (s : State) (h : HeadNo) (r : Request) :
    (s.checkRelease h r).hold = s.hold := by
  simp only [State.checkRelease] <;> (repeat' split) <;> simp
@[simp] theorem State.checkRelease_monitors (s : State) (h : HeadNo) (r : Request) :
    (s.checkRelease h r).monitors = s.monitors := by
  simp only [State.checkRelease] <;> (repeat' split) <;> simp
@[simp] theorem State.checkRelease_timebase (s : State) (h : HeadNo) (r : Request) :
    (s.checkRelease h r).timebase = s.timebase := by
  simp only [State.checkRelease] <;> (repeat' split) <;> simp
@[simp] theorem State.checkRelease_port (s : State) (h : HeadNo) (r : Request) :
    (s.checkRelease h r).port = s.port := by
  simp only [State.checkRelease] <;> (repeat' split) <;> simp
@[simp] theorem State.checkRelease_attn (s : State) (h : HeadNo) (r : Request) :
    (s.checkRelease h r).attn = s.attn := by
  simp only [State.checkRelease] <;> (repeat' split) <;> simp
@[simp] theorem State.checkRelease_pending (s : State) (h : HeadNo) (r : Request) :
    (s.checkRelease h r).pending = s.pending := by
  simp only [State.checkRelease] <;> (repeat' split) <;> simp
/-! ## `State.becomeOutstanding`: it touches only dir, engine, claims, heads, arb, links, attn -/

@[simp] theorem State.becomeOutstanding_copies (s : State) (h : HeadNo) (r : Request) :
    (s.becomeOutstanding h r).copies = s.copies := by
  simp only [State.becomeOutstanding] <;> (repeat' split) <;> simp
@[simp] theorem State.becomeOutstanding_bands (s : State) (h : HeadNo) (r : Request) :
    (s.becomeOutstanding h r).bands = s.bands := by
  simp only [State.becomeOutstanding] <;> (repeat' split) <;> simp
@[simp] theorem State.becomeOutstanding_freeSlots (s : State) (h : HeadNo) (r : Request) :
    (s.becomeOutstanding h r).freeSlots = s.freeSlots := by
  simp only [State.becomeOutstanding] <;> (repeat' split) <;> simp
@[simp] theorem State.becomeOutstanding_done (s : State) (h : HeadNo) (r : Request) :
    (s.becomeOutstanding h r).done = s.done := by
  simp only [State.becomeOutstanding] <;> (repeat' split) <;> simp
@[simp] theorem State.becomeOutstanding_store (s : State) (h : HeadNo) (r : Request) :
    (s.becomeOutstanding h r).store = s.store := by
  simp only [State.becomeOutstanding] <;> (repeat' split) <;> simp
@[simp] theorem State.becomeOutstanding_load (s : State) (h : HeadNo) (r : Request) :
    (s.becomeOutstanding h r).load = s.load := by
  simp only [State.becomeOutstanding] <;> (repeat' split) <;> simp
@[simp] theorem State.becomeOutstanding_hold (s : State) (h : HeadNo) (r : Request) :
    (s.becomeOutstanding h r).hold = s.hold := by
  simp only [State.becomeOutstanding] <;> (repeat' split) <;> simp
@[simp] theorem State.becomeOutstanding_monitors (s : State) (h : HeadNo) (r : Request) :
    (s.becomeOutstanding h r).monitors = s.monitors := by
  simp only [State.becomeOutstanding] <;> (repeat' split) <;> simp
@[simp] theorem State.becomeOutstanding_timebase (s : State) (h : HeadNo) (r : Request) :
    (s.becomeOutstanding h r).timebase = s.timebase := by
  simp only [State.becomeOutstanding] <;> (repeat' split) <;> simp
@[simp] theorem State.becomeOutstanding_port (s : State) (h : HeadNo) (r : Request) :
    (s.becomeOutstanding h r).port = s.port := by
  simp only [State.becomeOutstanding] <;> (repeat' split) <;> simp
@[simp] theorem State.becomeOutstanding_pending (s : State) (h : HeadNo) (r : Request) :
    (s.becomeOutstanding h r).pending = s.pending := by
  simp only [State.becomeOutstanding] <;> (repeat' split) <;> simp
/-! ## `State.settle`: it touches only dir, engine, claims, heads, arb, links, attn -/

@[simp] theorem State.settle_copies (s : State) (h : HeadNo) :
    (s.settle h).copies = s.copies := by
  simp only [State.settle] <;> (repeat' split) <;> simp
@[simp] theorem State.settle_bands (s : State) (h : HeadNo) :
    (s.settle h).bands = s.bands := by
  simp only [State.settle] <;> (repeat' split) <;> simp
@[simp] theorem State.settle_freeSlots (s : State) (h : HeadNo) :
    (s.settle h).freeSlots = s.freeSlots := by
  simp only [State.settle] <;> (repeat' split) <;> simp
@[simp] theorem State.settle_done (s : State) (h : HeadNo) :
    (s.settle h).done = s.done := by
  simp only [State.settle] <;> (repeat' split) <;> simp
@[simp] theorem State.settle_store (s : State) (h : HeadNo) :
    (s.settle h).store = s.store := by
  simp only [State.settle] <;> (repeat' split) <;> simp
@[simp] theorem State.settle_load (s : State) (h : HeadNo) :
    (s.settle h).load = s.load := by
  simp only [State.settle] <;> (repeat' split) <;> simp
@[simp] theorem State.settle_hold (s : State) (h : HeadNo) :
    (s.settle h).hold = s.hold := by
  simp only [State.settle] <;> (repeat' split) <;> simp
@[simp] theorem State.settle_monitors (s : State) (h : HeadNo) :
    (s.settle h).monitors = s.monitors := by
  simp only [State.settle] <;> (repeat' split) <;> simp
@[simp] theorem State.settle_timebase (s : State) (h : HeadNo) :
    (s.settle h).timebase = s.timebase := by
  simp only [State.settle] <;> (repeat' split) <;> simp
@[simp] theorem State.settle_port (s : State) (h : HeadNo) :
    (s.settle h).port = s.port := by
  simp only [State.settle] <;> (repeat' split) <;> simp
@[simp] theorem State.settle_pending (s : State) (h : HeadNo) :
    (s.settle h).pending = s.pending := by
  simp only [State.settle] <;> (repeat' split) <;> simp
/-! ## `State.requestArrives`: it touches only dir, engine, claims, heads, arb, links, attn -/

@[simp] theorem State.requestArrives_copies (s : State) (h : HeadNo) (r : Request) :
    (s.requestArrives h r).copies = s.copies := by
  simp only [State.requestArrives] <;> (repeat' split) <;> simp
@[simp] theorem State.requestArrives_bands (s : State) (h : HeadNo) (r : Request) :
    (s.requestArrives h r).bands = s.bands := by
  simp only [State.requestArrives] <;> (repeat' split) <;> simp
@[simp] theorem State.requestArrives_freeSlots (s : State) (h : HeadNo) (r : Request) :
    (s.requestArrives h r).freeSlots = s.freeSlots := by
  simp only [State.requestArrives] <;> (repeat' split) <;> simp
@[simp] theorem State.requestArrives_done (s : State) (h : HeadNo) (r : Request) :
    (s.requestArrives h r).done = s.done := by
  simp only [State.requestArrives] <;> (repeat' split) <;> simp
@[simp] theorem State.requestArrives_store (s : State) (h : HeadNo) (r : Request) :
    (s.requestArrives h r).store = s.store := by
  simp only [State.requestArrives] <;> (repeat' split) <;> simp
@[simp] theorem State.requestArrives_load (s : State) (h : HeadNo) (r : Request) :
    (s.requestArrives h r).load = s.load := by
  simp only [State.requestArrives] <;> (repeat' split) <;> simp
@[simp] theorem State.requestArrives_hold (s : State) (h : HeadNo) (r : Request) :
    (s.requestArrives h r).hold = s.hold := by
  simp only [State.requestArrives] <;> (repeat' split) <;> simp
@[simp] theorem State.requestArrives_monitors (s : State) (h : HeadNo) (r : Request) :
    (s.requestArrives h r).monitors = s.monitors := by
  simp only [State.requestArrives] <;> (repeat' split) <;> simp
@[simp] theorem State.requestArrives_timebase (s : State) (h : HeadNo) (r : Request) :
    (s.requestArrives h r).timebase = s.timebase := by
  simp only [State.requestArrives] <;> (repeat' split) <;> simp
@[simp] theorem State.requestArrives_port (s : State) (h : HeadNo) (r : Request) :
    (s.requestArrives h r).port = s.port := by
  simp only [State.requestArrives] <;> (repeat' split) <;> simp
@[simp] theorem State.requestArrives_pending (s : State) (h : HeadNo) (r : Request) :
    (s.requestArrives h r).pending = s.pending := by
  simp only [State.requestArrives] <;> (repeat' split) <;> simp
/-! ## `State.leaveStepWait`: it touches only dir, engine, claims, heads, arb, links, attn -/

@[simp] theorem State.leaveStepWait_copies (s : State) (h : HeadNo) :
    (s.leaveStepWait h).copies = s.copies := by
  simp only [State.leaveStepWait] <;> (repeat' split) <;> simp
@[simp] theorem State.leaveStepWait_bands (s : State) (h : HeadNo) :
    (s.leaveStepWait h).bands = s.bands := by
  simp only [State.leaveStepWait] <;> (repeat' split) <;> simp
@[simp] theorem State.leaveStepWait_freeSlots (s : State) (h : HeadNo) :
    (s.leaveStepWait h).freeSlots = s.freeSlots := by
  simp only [State.leaveStepWait] <;> (repeat' split) <;> simp
@[simp] theorem State.leaveStepWait_done (s : State) (h : HeadNo) :
    (s.leaveStepWait h).done = s.done := by
  simp only [State.leaveStepWait] <;> (repeat' split) <;> simp
@[simp] theorem State.leaveStepWait_store (s : State) (h : HeadNo) :
    (s.leaveStepWait h).store = s.store := by
  simp only [State.leaveStepWait] <;> (repeat' split) <;> simp
@[simp] theorem State.leaveStepWait_load (s : State) (h : HeadNo) :
    (s.leaveStepWait h).load = s.load := by
  simp only [State.leaveStepWait] <;> (repeat' split) <;> simp
@[simp] theorem State.leaveStepWait_hold (s : State) (h : HeadNo) :
    (s.leaveStepWait h).hold = s.hold := by
  simp only [State.leaveStepWait] <;> (repeat' split) <;> simp
@[simp] theorem State.leaveStepWait_monitors (s : State) (h : HeadNo) :
    (s.leaveStepWait h).monitors = s.monitors := by
  simp only [State.leaveStepWait] <;> (repeat' split) <;> simp
@[simp] theorem State.leaveStepWait_timebase (s : State) (h : HeadNo) :
    (s.leaveStepWait h).timebase = s.timebase := by
  simp only [State.leaveStepWait] <;> (repeat' split) <;> simp
@[simp] theorem State.leaveStepWait_port (s : State) (h : HeadNo) :
    (s.leaveStepWait h).port = s.port := by
  simp only [State.leaveStepWait] <;> (repeat' split) <;> simp
@[simp] theorem State.leaveStepWait_pending (s : State) (h : HeadNo) :
    (s.leaveStepWait h).pending = s.pending := by
  simp only [State.leaveStepWait] <;> (repeat' split) <;> simp
/-! ## `State.closeTile`: it touches only load -/

@[simp] theorem State.closeTile_copies (s : State) :
    (s.closeTile).copies = s.copies := by
  simp only [State.closeTile] <;> (repeat' split) <;> simp
@[simp] theorem State.closeTile_bands (s : State) :
    (s.closeTile).bands = s.bands := by
  simp only [State.closeTile] <;> (repeat' split) <;> simp
@[simp] theorem State.closeTile_dir (s : State) :
    (s.closeTile).dir = s.dir := by
  simp only [State.closeTile] <;> (repeat' split) <;> simp
@[simp] theorem State.closeTile_freeSlots (s : State) :
    (s.closeTile).freeSlots = s.freeSlots := by
  simp only [State.closeTile] <;> (repeat' split) <;> simp
@[simp] theorem State.closeTile_done (s : State) :
    (s.closeTile).done = s.done := by
  simp only [State.closeTile] <;> (repeat' split) <;> simp
@[simp] theorem State.closeTile_store (s : State) :
    (s.closeTile).store = s.store := by
  simp only [State.closeTile] <;> (repeat' split) <;> simp
@[simp] theorem State.closeTile_arb (s : State) :
    (s.closeTile).arb = s.arb := by
  simp only [State.closeTile] <;> (repeat' split) <;> simp
@[simp] theorem State.closeTile_engine (s : State) :
    (s.closeTile).engine = s.engine := by
  simp only [State.closeTile] <;> (repeat' split) <;> simp
@[simp] theorem State.closeTile_hold (s : State) :
    (s.closeTile).hold = s.hold := by
  simp only [State.closeTile] <;> (repeat' split) <;> simp
@[simp] theorem State.closeTile_claims (s : State) :
    (s.closeTile).claims = s.claims := by
  simp only [State.closeTile] <;> (repeat' split) <;> simp
@[simp] theorem State.closeTile_heads (s : State) :
    (s.closeTile).heads = s.heads := by
  simp only [State.closeTile] <;> (repeat' split) <;> simp
@[simp] theorem State.closeTile_monitors (s : State) :
    (s.closeTile).monitors = s.monitors := by
  simp only [State.closeTile] <;> (repeat' split) <;> simp
@[simp] theorem State.closeTile_timebase (s : State) :
    (s.closeTile).timebase = s.timebase := by
  simp only [State.closeTile] <;> (repeat' split) <;> simp
@[simp] theorem State.closeTile_links (s : State) :
    (s.closeTile).links = s.links := by
  simp only [State.closeTile] <;> (repeat' split) <;> simp
@[simp] theorem State.closeTile_port (s : State) :
    (s.closeTile).port = s.port := by
  simp only [State.closeTile] <;> (repeat' split) <;> simp
@[simp] theorem State.closeTile_attn (s : State) :
    (s.closeTile).attn = s.attn := by
  simp only [State.closeTile] <;> (repeat' split) <;> simp
@[simp] theorem State.closeTile_pending (s : State) :
    (s.closeTile).pending = s.pending := by
  simp only [State.closeTile] <;> (repeat' split) <;> simp
end Sys2Proof.Machine
end

