-- ==== Sys2Proof/Laws/Decoder.lean ====
section
/-! SUPPORT. The decoder's step, once: what it becomes when it takes a command byte, or a parameter byte that
completes a parameter, and that the row of every host command is that step. -/

namespace Sys2Proof.Machine

open Sys2Proof.Safety

/-- The row of a host command is its decoder step. -/
theorem exec_rowOf (c : Command) (s : State) : exec (rowOf c) s = .next (s.commandStep c) := by cases c <;> rfl

/-- A command's code is found in the command table. -/
@[simp] theorem commandOf_code (c : Command) : commandOf c.row.code = some c := by cases c <;> decide

/-- A code that no command has is not found. -/
theorem commandOf_eq_none (code : Byte) (h : ∀ c : Command, code ≠ c.row.code) : commandOf code = none := by
  simp only [commandOf, List.find?_eq_none]
  intro c _
  simpa using (h c).symm

/-- Ending a command changes nothing where none is taking its bytes. -/
theorem State.endCommand_idle (s : State) (h : s.port.phase ≠ .receiving) : s.endCommand = s := by
  unfold State.endCommand
  split <;> simp_all

/-- Without an overrun there is nothing to treat. -/
theorem State.treatOverrun_none (s : State) (h : s.port.overrun = false) : s.treatOverrun = s := by
  simp [State.treatOverrun, h]

/-- The decoder's step on a command byte of `c`. -/
theorem State.commandStep_code {s : State} {c : Command} {followed : Bool} {rest : List IntakeByte}
    (h : TakesCode s c followed rest) :
    s.commandStep c =
      if c.row.cls = .stream then (tookCode s c .receiving followed rest).startStream
      else if c.row.widths = [] then (tookCode s c .complete followed rest).act c []
      else tookCode s c .receiving followed rest := by
  obtain ⟨⟨hu, ho, hi⟩, hp⟩ := h
  have h1 : (s.onPort (fun p => { p with intake := rest })).treatOverrun = s.onPort (fun p => { p with intake := rest }) :=
    State.treatOverrun_none _ ho
  have h2 : (s.onPort (fun p => { p with intake := rest })).endCommand = s.onPort (fun p => { p with intake := rest }) :=
    State.endCommand_idle _ hp
  have h3 : s.commandStep c = s.decodeByte { line := .command, value := c.row.code, followed := followed } rest := by
    simp only [State.commandStep, State.decoderStep, hu, hi, State.ownByte, decide_true, if_true]
  rw [h3, State.decodeByte]
  simp only [h1, State.takeCommand, h2, commandOf_code]
  rfl

/-- The decoder's step on a parameter byte that completes a parameter of `c`. -/
theorem State.commandStep_parameter {s : State} {c : Command} {vals : List Nat} {rest : List IntakeByte}
    (h : TakesParameter s c vals rest) (hs : c.row.cls ≠ .stream) :
    s.commandStep c =
      match c.row.cls with
      | .setting =>
        if vals.length = c.row.widths.length then
          ((tookParameter s .receiving vals rest).storeSetting c vals).completeSetting
        else (tookParameter s .receiving vals rest).storeSetting c vals
      | _ =>
        if vals.length = c.row.widths.length then (tookParameter s .complete vals rest).act c vals
        else tookParameter s .receiving vals rest := by
  obtain ⟨hc, hp, value, followed, ⟨hu, ho, hi⟩, hv⟩ := h
  have h1 : (s.onPort (fun p => { p with intake := rest })).treatOverrun = s.onPort (fun p => { p with intake := rest }) :=
    State.treatOverrun_none _ ho
  have h3 : s.commandStep c = s.decodeByte { line := .parameter, value := value, followed := followed } rest := by
    simp only [State.commandStep, State.decoderStep, hu, hi, State.ownByte, hc, decide_true, if_true]
  have h4 : ∀ x : State, (x = s.onPort (fun p => { p with intake := rest, values := vals, half := none })) →
      x = tookParameter s .receiving vals rest := by
    rintro x rfl; simp only [tookParameter, State.onPort]; rw [← hp]
  have h5 : s.decodeByte { line := .parameter, value := value, followed := followed } rest =
      (s.onPort (fun p => { p with intake := rest })).takeParameter value := by
    simp only [State.decodeByte, h1]
  rw [h3, h5]
  have key : ∃ v, vals = s.port.values ++ [v] ∧
      (s.onPort (fun p => { p with intake := rest })).takeParameter value =
        (s.onPort (fun p => { p with intake := rest })).takeValue c v := by
    rcases hv with ⟨hw, rfl⟩ | ⟨hw, hi', hh, rfl⟩
    · exact ⟨_, rfl, by simp [State.takeParameter, hc, hp, hw]⟩
    · exact ⟨_, rfl, by simp [State.takeParameter, hc, hp, hw, hh]⟩
  obtain ⟨v, rfl, hk⟩ := key
  rw [hk]
  have e1 := h4 _ rfl
  cases hcl : c.row.cls with
  | stream => exact absurd hcl hs
  | setting =>
    rw [← e1]
    by_cases hl : (s.port.values ++ [v]).length = c.row.widths.length
    · simp only [State.takeValue, hcl, State.onPort_port, hl, decide_true, if_true]; rfl
    · simp only [State.takeValue, hcl, State.onPort_port, hl, decide_false, if_false, Bool.false_eq_true]; rfl
  | action =>
    by_cases hl : (s.port.values ++ [v]).length = c.row.widths.length
    · simp only [State.takeValue, hcl, State.onPort_port, hl, decide_true, if_true]; rfl
    · rw [← e1]
      simp only [State.takeValue, hcl, State.onPort_port, hl, decide_false, if_false, Bool.false_eq_true]; rfl
  | read =>
    by_cases hl : (s.port.values ++ [v]).length = c.row.widths.length
    · simp only [State.takeValue, hcl, State.onPort_port, hl, decide_true, if_true]; rfl
    · rw [← e1]
      simp only [State.takeValue, hcl, State.onPort_port, hl, decide_false, if_false, Bool.false_eq_true]; rfl

/-- The decoder's step on the byte that completes a stream value (R46, R47). -/
theorem State.commandStep_stream {s : State} {c : Command} {vals : List Nat} {rest : List IntakeByte}
    (h : TakesParameter s c vals rest) (hs : c.row.cls = .stream) :
    ∃ v, vals = s.port.values ++ [v] ∧
      s.commandStep c = (s.onPort (fun p => { p with intake := rest, half := none })).streamValue c v := by
  obtain ⟨hc, hp, value, followed, ⟨hu, ho, hi⟩, hv⟩ := h
  have h1 : (s.onPort (fun p => { p with intake := rest })).treatOverrun = s.onPort (fun p => { p with intake := rest }) :=
    State.treatOverrun_none _ ho
  have h3 : s.commandStep c = s.decodeByte { line := .parameter, value := value, followed := followed } rest := by
    simp only [State.commandStep, State.decoderStep, hu, hi, State.ownByte, hc, decide_true, if_true]
  have h5 : s.decodeByte { line := .parameter, value := value, followed := followed } rest =
      (s.onPort (fun p => { p with intake := rest })).takeParameter value := by
    simp only [State.decodeByte, h1]
  rw [h3, h5]
  rcases hv with ⟨hw, rfl⟩ | ⟨hw, hi', hh, rfl⟩
  · simp [Command.nextWidth, hs] at hw
  · exact ⟨_, rfl, by simp [State.takeParameter, hc, hp, hw, hh, State.takeValue, hs]; rfl⟩

end Sys2Proof.Machine
end

