-- ==== Sys2Proof/Laws/Heads.lean ====
section
/-! SUPPORT. What the shared operations on a head's request can do, said once in the words of Safety: ending a
request, sending it to the arbiter, ending a unit, the grant it hands on, and the key that a cell address
names. -/

namespace Sys2Proof.Machine

open Sys2Proof.Safety

@[simp] theorem Bank.put_put {α : Type} (b : Bank α) (i : Fin 8) (x y : α) :
    Bank.put (Bank.put b i x) i y = Bank.put b i y := by
  apply Bank.ext
  intro j
  by_cases h : j = i <;> simp [Bank.at_put, h]

@[simp] theorem Bank.put_same {α : Type} (b : Bank α) (i : Fin 8) : Bank.put b i (Bank.at b i) = b := by
  apply Bank.ext
  intro j
  by_cases h : j = i <;> simp [Bank.at_put, h]

@[simp] theorem head_withHead (s : State) (h : HeadNo) (hu : HeadUnit) : (withHead s h hu).head h = hu := by
  simp [withHead, State.head]

theorem State.setOutstanding_eq (s : State) (h : HeadNo) (o : Option Outstanding) :
    s.setOutstanding h o = withHead s h { s.head h with outstanding := o } := rfl

theorem State.setWait_eq (s : State) (h : HeadNo) (w : WaitKind) :
    s.setWait h w = withHead s h { s.head h with
      outstanding := (s.head h).outstanding.map (fun o => { o with wait := w }) } := rfl

theorem State.queueAnswer_eq (s : State) (h : HeadNo) (a : Answer) : s.queueAnswer h a = sent s h [a] := rfl

theorem State.endRequest_none {s : State} {h : HeadNo} (ho : (s.head h).outstanding = none)
    (status : Status) (value dwell : Nat) : s.endRequest h status value dwell = s := by
  simp [State.endRequest, ho]

theorem State.endRequest_some {s : State} {h : HeadNo} {o : Outstanding} (ho : (s.head h).outstanding = some o)
    (status : Status) (value dwell : Nat) :
    s.endRequest h status value dwell = answered s h o status value dwell := by
  simp only [State.endRequest, ho, answered, State.setOutstanding_eq, State.queueAnswer_eq]

theorem State.proceed_eq (s : State) (h : HeadNo) : s.proceed h = onItsWay s h := by
  rcases s with ⟨_, _, _, _, _, _, ⟨last, granted⟩, _, _, _, _, _, _, _, _, _, _, _⟩
  cases granted <;> rfl

theorem State.present_eq (s : State) (r : Requester) :
    s.present r = { s with arb := { s.arb with granted := if s.arb.granted.isNone then some r else s.arb.granted } } := by
  rcases s with ⟨_, _, _, _, _, _, ⟨last, granted⟩, _, _, _, _, _, _, _, _, _, _, _⟩
  cases granted <;> rfl

theorem State.withdraw_eq (s : State) (r : Requester) :
    s.withdraw r = { s with arb := { s.arb with
      granted := if s.arb.granted = some r then s.nextGrant s.arb.last else s.arb.granted } } := by
  unfold State.withdraw
  split <;> rfl

/-- The directory's key of a named cell, and its cell index (R2). -/
theorem cellKey_of_namesCell {row col : Nat} {k : TileKey} {c : Nat} (h : NamesCell row col k c) :
    cellKey k.copy row col = k := by
  obtain ⟨hr, hc, hlt⟩ := h
  have := k.row.isLt
  have := k.col.isLt
  have er : Fin.ofNat 512 (row / 8) = k.row := Fin.ext (by simp only [Fin.ofNat]; omega)
  have ec : Fin.ofNat 512 (col / 8) = k.col := Fin.ext (by simp only [Fin.ofNat]; omega)
  simp only [cellKey, er, ec]

theorem cellIndex_of_namesCell {row col : Nat} {k : TileKey} {c : Nat} (h : NamesCell row col k c) :
    cellIndex row col = c := by
  obtain ⟨hr, hc, hlt⟩ := h
  simp only [cellIndex]
  omega

theorem outOfRange_iff (r : Request) : outOfRange r = true ↔ 4095 < r.row ∨ 4095 < r.col := by
  simp only [outOfRange, Bool.or_eq_true, decide_eq_true_eq]
  exact Iff.rfl

/-- The band that a cell row falls into is the one that takes it (R9). -/
theorem bandOf_of_bandTakes {s : State} {y : CopyNo} {row : Nat} {b : Fin 8} (h : BandTakes s y row b) :
    s.bandOf y row = b := by
  obtain ⟨hb, hlater⟩ := h
  have first : ∀ (above : List (Fin 8)) (later : List (Fin 8)), (∀ x ∈ above, b < x) →
      (above ++ b :: later).find? (fun x => decide ((s.band y x).start ≤ row)) = some b := by
    intro above later habove
    induction above with
    | nil => simp [hb]
    | cons x rest ih =>
      have hx := hlater x (habove x (by simp))
      have hn : ¬ (s.band y x).start ≤ row := by omega
      rw [List.cons_append, List.find?_cons_of_neg (by simpa using hn)]
      exact ih (fun z hz => habove z (by simp [hz]))
  have none : (∀ x : Fin 8, 0 < x → row < (s.band y x).start) →
      ([7, 6, 5, 4, 3, 2, 1] : List (Fin 8)).find? (fun x => decide ((s.band y x).start ≤ row)) = none := by
    intro hall
    rw [List.find?_eq_none]
    intro x hx
    have h0 : 0 < x := by revert x; decide
    have := hall x h0
    simp only [decide_eq_true_eq]
    omega
  unfold State.bandOf
  match b, hb, hlater, first, none with
  | 0, _, hl, _, none => rw [none hl]; rfl
  | 1, _, _, first, _ => exact congrArg (fun o => o.getD 0) (first [7, 6, 5, 4, 3, 2] [] (by decide))
  | 2, _, _, first, _ => exact congrArg (fun o => o.getD 0) (first [7, 6, 5, 4, 3] [1] (by decide))
  | 3, _, _, first, _ => exact congrArg (fun o => o.getD 0) (first [7, 6, 5, 4] [2, 1] (by decide))
  | 4, _, _, first, _ => exact congrArg (fun o => o.getD 0) (first [7, 6, 5] [3, 2, 1] (by decide))
  | 5, _, _, first, _ => exact congrArg (fun o => o.getD 0) (first [7, 6] [4, 3, 2, 1] (by decide))
  | 6, _, _, first, _ => exact congrArg (fun o => o.getD 0) (first [7] [5, 4, 3, 2, 1] (by decide))
  | 7, _, _, first, _ => exact congrArg (fun o => o.getD 0) (first [] [6, 5, 4, 3, 2, 1] (by decide))

/-- R19: a grant goes to a requester that presents an access. -/
theorem State.presents_of_nextGrant {s : State} {last r : Requester} (h : s.nextGrant last = some r) :
    s.presents r = true := by
  simpa using List.find?_some h

theorem Requester.mem_ringAfter (last r : Requester) : r ∈ last.ringAfter := by
  rcases last with h | _ | _ <;> rcases r with g | _ | _
  · revert h g; decide
  · revert h; decide
  · revert h; decide
  · revert g; decide
  · decide
  · decide
  · revert g; decide
  · decide
  · decide

/-- R19: no grant is handed on exactly where no requester presents an access. -/
theorem State.nextGrant_eq_none {s : State} {last : Requester} :
    s.nextGrant last = none ↔ ∀ r : Requester, s.presents r = false := by
  simp [State.nextGrant, Requester.mem_ringAfter]

end Sys2Proof.Machine
end

