-- ==== Sys2Proof/Laws/Memory.lean ====
section
/-! SUPPORT. The Tile Store: a read after a write, and the canonical form that every operation keeps. -/

namespace Sys2Proof.Machine

theorem Memory.read_erase (m : Memory) (a x : Nat) :
    Memory.read (Memory.erase m a) x = if x = a then Cell.blank else Memory.read m x := by
  induction m with
  | nil => simp [Memory.read, Memory.erase]
  | cons p rest ih =>
    obtain ⟨b, c⟩ := p
    by_cases hb : b = a
    · subst hb
      by_cases hx : x = b
      · subst hx; simpa [Memory.erase] using ih
      · have : b ≠ x := fun e => hx e.symm
        simp [Memory.erase, Memory.read, hx, this, ih]
    · by_cases hbx : b = x
      · subst hbx; simp [Memory.erase, Memory.read, hb]
      · simp [Memory.erase, Memory.read, hb, hbx, ih]

theorem Memory.read_insert (m : Memory) (a x : Nat) (c : Cell)
    (h : ∀ p ∈ m, p.1 ≠ a) :
    Memory.read (Memory.insert m a c) x = if x = a then c else Memory.read m x := by
  induction m with
  | nil => simp [Memory.read, Memory.insert, eq_comm]
  | cons p rest ih =>
    obtain ⟨b, d⟩ := p
    have hb : b ≠ a := h (b, d) (by simp)
    have hr := ih (fun p hp => h p (by simp [hp]))
    by_cases hlt : a < b
    · by_cases hx : x = a
      · simp [Memory.insert, hlt, Memory.read, hx]
      · have hx' : a ≠ x := fun e => hx e.symm
        simp [Memory.insert, hlt, Memory.read, hx, hx']
    · by_cases hbx : b = x
      · subst hbx; simp [Memory.insert, hlt, Memory.read, hb]
      · simp [Memory.insert, hlt, Memory.read, hbx, hr]

theorem Memory.erase_addr (m : Memory) (a : Nat) : ∀ p ∈ Memory.erase m a, p.1 ≠ a := by
  induction m with
  | nil => simp [Memory.erase]
  | cons p rest ih =>
    obtain ⟨b, c⟩ := p
    by_cases hb : b = a
    · simpa [Memory.erase, hb] using ih
    · intro q hq
      simp only [Memory.erase, hb, if_false, List.mem_cons] at hq
      rcases hq with rfl | hq
      · exact hb
      · exact ih q hq

theorem Memory.mem_of_mem_erase (m : Memory) (a : Nat) (p : Nat × Cell) (h : p ∈ Memory.erase m a) : p ∈ m := by
  induction m with
  | nil => simp [Memory.erase] at h
  | cons q rest ih =>
    obtain ⟨b, c⟩ := q
    by_cases hb : b = a
    · simp only [Memory.erase, hb, if_true] at h
      exact List.mem_cons_of_mem _ (ih h)
    · simp only [Memory.erase, hb, if_false, List.mem_cons] at h
      rcases h with rfl | h
      · exact List.mem_cons_self
      · exact List.mem_cons_of_mem _ (ih h)

/-- A read after a write: the value written at the address, the old one anywhere else. -/
theorem Memory.read_write (m : Memory) (a x : Nat) (c : Cell) :
    Memory.read (Memory.write m a c) x = if x = a then c else Memory.read m x := by
  unfold Memory.write
  split
  · subst_vars; simp [Memory.read_erase]
  · rw [Memory.read_insert _ _ _ _ (Memory.erase_addr m a), Memory.read_erase]
    split <;> simp_all

@[simp] theorem Memory.read_write_same (m : Memory) (a : Nat) (c : Cell) :
    Memory.read (Memory.write m a c) a = c := by simp [Memory.read_write]

theorem Memory.read_write_other (m : Memory) (a x : Nat) (c : Cell) (h : x ≠ a) :
    Memory.read (Memory.write m a c) x = Memory.read m x := by simp [Memory.read_write, h]

/-- The lower bound of a canonical list may be lowered. -/
theorem Memory.risesFrom_weaken {m : Memory} {low low' : Option Nat}
    (h : Memory.risesFrom low m = true) (hl : ∀ b', low' = some b' → ∃ b, low = some b ∧ b' ≤ b) :
    Memory.risesFrom low' m = true := by
  cases m with
  | nil => rfl
  | cons p rest =>
    obtain ⟨a, c⟩ := p
    cases low' with
    | none => simp [Memory.risesFrom] at h ⊢; exact ⟨h.1.2, h.2⟩
    | some b' =>
      obtain ⟨b, rfl, hb⟩ := hl b' rfl
      simp [Memory.risesFrom] at h ⊢
      exact ⟨⟨by omega, h.1.2⟩, h.2⟩

theorem Memory.risesFrom_erase {m : Memory} (a : Nat) {low : Option Nat}
    (h : Memory.risesFrom low m = true) : Memory.risesFrom low (Memory.erase m a) = true := by
  induction m generalizing low with
  | nil => rfl
  | cons p rest ih =>
    obtain ⟨b, c⟩ := p
    simp only [Memory.risesFrom, Bool.and_eq_true] at h
    by_cases hb : b = a
    · simp only [Memory.erase, hb, if_true]
      refine ih (Memory.risesFrom_weaken h.2 ?_)
      rintro b' rfl
      exact ⟨b, rfl, by have := h.1.1; simp at this; omega⟩
    · simp only [Memory.erase, hb, if_false, Memory.risesFrom, Bool.and_eq_true]
      exact ⟨h.1, ih h.2⟩

theorem Memory.risesFrom_insert {m : Memory} (a : Nat) (c : Cell) (hc : c ≠ Cell.blank) {low : Option Nat}
    (h : Memory.risesFrom low m = true) (hl : ∀ b, low = some b → b < a) (ha : ∀ p ∈ m, p.1 ≠ a) :
    Memory.risesFrom low (Memory.insert m a c) = true := by
  induction m generalizing low with
  | nil => cases low with
    | none => simp [Memory.insert, Memory.risesFrom, hc]
    | some b => simp [Memory.insert, Memory.risesFrom, hc, hl b rfl]
  | cons p rest ih =>
    obtain ⟨b, d⟩ := p
    have hb : b ≠ a := ha (b, d) (by simp)
    simp only [Memory.risesFrom, Bool.and_eq_true] at h
    by_cases hlt : a < b
    · simp only [Memory.insert, hlt, if_true, Memory.risesFrom, Bool.and_eq_true]
      refine ⟨⟨?_, by simp [hc]⟩, ⟨⟨by simp, h.1.2⟩, h.2⟩⟩
      cases low with
      | none => rfl
      | some b' => simp [hl b' rfl]
    · simp only [Memory.insert, hlt, if_false, Memory.risesFrom, Bool.and_eq_true]
      refine ⟨h.1, ih h.2 ?_ (fun p hp => ha p (by simp [hp]))⟩
      rintro b' hb'; cases hb'; omega

/-- A write keeps the canonical form. -/
theorem Memory.wf_write {m : Memory} (a : Nat) (c : Cell) (h : m.wf = true) :
    (Memory.write m a c).wf = true := by
  unfold Memory.write Memory.wf at *
  split
  · exact Memory.risesFrom_erase a h
  · rename_i hc
    exact Memory.risesFrom_insert a c hc (Memory.risesFrom_erase a h) (by simp) (Memory.erase_addr m a)

/-- Changing listed cells of a slot keeps the canonical form. -/
theorem Memory.wf_updateCells {m : Memory} (slot : Nat) (cells : List Nat) (f : Nat → Cell → Cell)
    (h : m.wf = true) : (Memory.updateCells m slot cells f).wf = true := by
  unfold Memory.updateCells
  induction cells generalizing m with
  | nil => exact h
  | cons i is ih => exact ih (Memory.wf_write _ _ h)

/-- What a slot's update writes: `f` at the listed cells, nothing elsewhere. -/
theorem Memory.read_updateCells (m : Memory) (slot : Nat) (cells : List Nat) (f : Nat → Cell → Cell)
    (hn : cells.Nodup) (x : Nat) :
    Memory.read (Memory.updateCells m slot cells f) x =
      match cells.find? (fun i => decide (cellAddr slot i = x)) with
      | some i => f i (Memory.read m x)
      | none => Memory.read m x := by
  unfold Memory.updateCells
  induction cells generalizing m with
  | nil => rfl
  | cons i is ih =>
    have hi := (List.nodup_cons.mp hn).1
    rw [List.foldl_cons, ih _ (List.nodup_cons.mp hn).2]
    by_cases hx : cellAddr slot i = x
    · have hnone : is.find? (fun j => decide (cellAddr slot j = x)) = none := by
        rw [List.find?_eq_none]
        intro j hj hjx
        have : j = i := by
          have := of_decide_eq_true hjx
          simp only [cellAddr] at this hx; omega
        exact hi (this ▸ hj)
      simp [hnone, hx]
    · have hx' : x ≠ cellAddr slot i := fun e => hx e.symm
      simp [hx, Memory.read_write_other _ _ _ _ hx']

@[simp] theorem Memory.wf_reset : (State.reset.store).wf = true := rfl

end Sys2Proof.Machine
end

