-- ==== Sys2Proof/Tests/Slice0.lean ====
section
/-! SUPPORT. Tests of single steps on small states, with the values the spec gives, the smoke test of the
well-formedness checks, and for every statement with premises a concrete state and operands that meet them. -/

namespace Sys2Proof.Tests

open Sys2Proof.Machine Sys2Proof.Safety

/-! ## Small states -/

/-- The state after a command. -/
def after (i : Instr) (s : State) : State :=
  match exec i s with
  | .next t => t
  | _ => s

/-- The command byte of `c` waits in the intake queue. -/
def withCode (c : Command) (s : State) : State :=
  { s with port := { s.port with intake := [{ line := .command, value := c.row.code, followed := false }] } }

/-- The byte that completes a parameter of `c` waits in the intake queue, after the parameters `before` and,
for a two-byte one, the byte `half`. -/
def withLast (c : Command) (before : List Nat) (half : Option Byte) (b : Byte) (s : State) : State :=
  { s with port := { s.port with
      current := .known c, phase := .receiving, values := before, half := half
      intake := [{ line := .parameter, value := b, followed := false }] } }

/-- A store unit of the Command Port holds the grant. -/
def withUnit (u : PortUnit) (s : State) : State :=
  { s with port := { s.port with unit := some u }, arb := { s.arb with granted := some .cp } }

def k0 : TileKey := { copy := 0, row := 0, col := 0 }
def kTop : TileKey := { copy := 7, row := 511, col := 511 }

/-- An entry of `k0` in slot 0. -/
def entry0 (state : TileState) : Entry :=
  { key := k0, slot := 0, state := state, ret := none, owner := none, waiters := [], remaining := 1, overcut := 0 }

/-- One resident tile, with the listed cells. -/
def holding (e : Entry) (cells : Memory) : State :=
  { State.reset with dir := [e], freeSlots := List.range' 1 127, store := cells }

/-- A cell with a target and a cut, and clear flags. -/
def cell (target cut : Nat) : Cell := { target := target, cut := cut, fence := false, overcut := false }

/-- The tile `k0` open, in FILLING, with an entry of zero counts. -/
def opened : State :=
  { holding { entry0 .filling with remaining := 0 } [] with
    load := { LoadUnit.reset with openTile := some k0 } }

/-- The tile `k0` LIVE with one unfinished cell. -/
def live : State := holding (entry0 .live) [(0, cell 100 20)]

/-- The tile `k0` DONE and in the Done Queue. -/
def finished : State :=
  { holding { entry0 .done with remaining := 0 } [(0, cell 100 100)] with done := [k0] }

/-- A head bound ACTIVE to copy 0, its monitor running. -/
def bind (h : HeadNo) (s : State) : State :=
  { s with
    heads := Bank.put s.heads h { s.head h with state := .active, boundCopy := some 0 }
    monitors := Bank.put s.monitors h { s.monitor h with running := true } }

/-- A request of the cell at row 0, column 0. -/
def request (kind : RequestKind) (tag : Byte) (depth : Nat) : Request :=
  { kind := kind, tag := tag, row := 0, col := 0, depth := depth }

/-- A head's outstanding request. -/
def asking (h : HeadNo) (kind : RequestKind) (wait : WaitKind) (depth : Nat) (s : State) : State :=
  { s with heads := Bank.put s.heads h { s.head h with
      outstanding := some { req := request kind 0x11 depth, wait := wait, key := some k0, orphaned := false, silent := false } } }

/-- The head's request holds the grant. -/
def granted (h : HeadNo) (kind : RequestKind) (depth : Nat) (s : State) : State :=
  { asking h kind .inService depth s with arb := { s.arb with granted := some (.hu h) } }

/-- Copy 0 is shared. -/
def share (s : State) : State := { s with copies := Bank.put s.copies 0 { s.copy 0 with shared := true } }

/-- Head 0 owns the LIVE tile `k0` and its probe holds the grant; head 1 waits for the claim. -/
def claimed : State :=
  { granted 0 .probe 0 (asking 1 .probe .claim 0 (bind 1 (bind 0 (share live)))) with
    dir := [{ entry0 .live with owner := some 0, waiters := [1] }]
    claims := Bank.put State.reset.claims 0 { slots := [k0], timer := none } }

/-- A head's monitor, link or head record is replaced. -/
def withMonitor (h : HeadNo) (m : LoadMonitor) (s : State) : State := { s with monitors := Bank.put s.monitors h m }
def withLink (h : HeadNo) (l : Link) (s : State) : State := { s with links := Bank.put s.links h l }
def withRecord (h : HeadNo) (hu : HeadUnit) (s : State) : State := { s with heads := Bank.put s.heads h hu }

/-- A band record with a start row. -/
def fromRow (row : Nat) : BandRecord := { BandRecord.reset with start := row }

/-- The answers that wait on a head's link, as status, value and dwell. -/
def answers (s : State) (h : HeadNo) : List (Byte × Status × Nat × Nat) :=
  (s.link h).tx.map (fun a => (a.tag, a.status, a.value, a.dwell))

/-! ## Well-formedness and the table's bits -/

theorem test_break_of_no_bits_is_ill_formed : (Instr.chipSelectBreak 0).wellFormed = false := by decide
theorem test_break_of_eight_bits_is_ill_formed : (Instr.chipSelectBreak 8).wellFormed = false := by decide
theorem test_known_kind_is_no_unknown_kind :
    ([0x01, 0x02, 0x03, 0x0F] : List Byte).all (fun k => !(Instr.unknownKind 0 k).wellFormed) = true := by decide
theorem test_well_formed_examples :
    (Instr.chipSelectBreak 1).wellFormed && (Instr.chipSelectBreak 7).wellFormed &&
      (Instr.unknownKind 0 0x04).wellFormed && (Instr.timeBaseTick).wellFormed = true := by decide
theorem test_table_gives_no_bits : decodeTableWord 8 0x01 = none ∧ State.reset.withFetchWord 8 0x01 = State.reset := by
  decide

/-! ## The Command Port -/

theorem test_hardwareReset : (after .hardwareReset finished).dir = [] ∧
    (after .hardwareReset finished).attn.level = 0x0A := by decide
theorem test_cpByte_reads_latch :
    (after (.cpByte .parameter 0x00 false)
      { State.reset with port := { State.reset.port with reply := [0x5A], readable := true } }).port.sdo = some 0x5A := by
  decide
theorem test_cpByte_of_code_stops_reading :
    (after (.cpByte .command 0x02 false)
      { State.reset with port := { State.reset.port with reply := [0x5A], readable := true } }).port.readable = false := by
  decide
theorem test_chipSelectBreak :
    (after (.chipSelectBreak 3) { State.reset with port := { State.reset.port with bitCount := 3 } }).port.bitCount = 0 := by
  decide
theorem test_parameterByte_high_byte_first :
    (after .parameterByte (withLast .fill [] (some 0x01) 0x02 opened)).port.unit = some (.fill 0x0102) := by decide +kernel
theorem test_unknownCommand :
    (after .unknownCommand { State.reset with port := { State.reset.port with
      intake := [{ line := .command, value := 0x07, followed := false }] } }).port.result = .unknownCommand := by decide
theorem test_resultRead :
    (after .resultRead (withCode .resultRead { State.reset with port := { State.reset.port with result := .notDone } })).port.reply
      = [0x0C] := by decide
theorem test_statusRead : (after .statusRead (withCode .statusRead opened)).port.reply =
    [0x00, 0x00, 0x7F, 0x00, 0x01, 0, 0, 0, 0, 0, 0, 0, 0] := by decide +kernel
theorem test_ack_needs_snapshot :
    (after .ack (withLast .ack [] none 0xFF
      { State.reset with attn := { Attention.reset with flags := 0x03, snapshot := 0x01 } })).attn.flags = 0x02 := by decide
theorem test_attnSetup : (after .attnSetup (withLast .attnSetup [0xFF] none 0x40 State.reset)).attn.level = 0x40 := by
  decide
theorem test_violationRead_empty :
    (after .violationRead (withCode .violationRead State.reset)).port.reply = List.replicate 14 0x00 := by decide
/-- A captured violation. -/
def captured : Violation := { head := 1, tile := k0, cell := 3, reached := 50, limit := 40, kind := .allowance }

theorem test_violationClear :
    (after .violationClear (withCode .violationClear
      { State.reset with hold := { record := some captured, count := 2 } })).hold.record = none := by decide

/-! ## Tables, time and heads -/

theorem test_timebase_clamps : (after .timebase (withLast .timebase [] none 0x08 State.reset)).timebase = 7 := by decide
theorem test_copySetup_clamps_finishTol :
    ((after .copySetup (withLast .copySetup [1, 40, 120] none 0x40 State.reset)).copy 1).finishTol = 63 := by decide
theorem test_copySetup_busy : (after .copySetup (withLast .copySetup [] none 0x00 live)).port.result = .busy := by decide
theorem test_bandBounds_raises :
    ((after .bandBounds (withLast .bandBounds [3, 1000] (some 0x03) 0x00 { State.reset with
      bands := Bank.put State.reset.bands 3 (Bank.put (Bank.at State.reset.bands 3) 1 (fromRow 1000)) })).band 3 2).start = 1000 := by decide
theorem test_bandSet_step_of_zero_is_one :
    ((after .bandSet (withLast .bandSet [0, 7] (some 0x00) 0x00 State.reset)).band 0 7).stepMax = 1 := by decide
theorem test_copyQuery : (after .copyQuery (withLast .copyQuery [] none 0x07 State.reset)).port.reply.take 12 =
    [0, 0, 0, 0, 0, 0, 0, 0, 16, 0, 0, 0] := by decide
theorem test_headBind : ((after .headBind (withLast .headBind [2, 1, 1, 2000, 100, 30000] none 0x05 State.reset)).head 2) =
    { HeadUnit.reset with state := .active, boundCopy := some 1, toolClass := .finish, wearLimit := 1023, holdTimeout := 5 } := by
  decide
theorem test_headBind_copy_taken :
    (after .headBind (withLast .headBind [2, 0, 0, 0, 1, 0] none 0x00 (bind 0 State.reset))).port.result = .copyTaken := by
  decide
theorem test_headUnbind_hands_on :
    (after .headUnbind (withLast .headUnbind [] none 0x00 claimed)).ownerOf k0 = some 1 := by decide
theorem test_toolSet_clears_wear :
    ((after .toolSet (withLast .toolSet [0, 0] (some 0x00) 0x64
      (bind 0 (withRecord 0 { HeadUnit.reset with wear := 5180, worn := true } State.reset)))).head 0).wear
      = 0 := by decide
theorem test_spindleSet_is_pending :
    ((after .spindleSet (withLast .spindleSet [0, 100] (some 0x75) 0x30 (bind 0 State.reset))).monitor 0) =
    { LoadMonitor.reset with running := true, pendN := 64, pendP0 := 30000, pendFlag := true } := by decide
theorem test_headHalt_answers_waiter :
    answers (after .headHalt (withLast .headHalt [] none 0x01 claimed)) 1 = [(0x11, .halted, 0, 0)] := by decide
theorem test_headResume :
    ((after .headResume (withLast .headResume [] none 0x00
      (withRecord 0 { HeadUnit.reset with state := .halted, boundCopy := some 0 } State.reset))).head 0).state
      = .active := by decide
theorem test_stepMode_on :
    ((after .stepMode (withLast .stepMode [0] none 0x80 (bind 0 State.reset))).head 0).stepMode = true := by decide
theorem test_headStep_not_waiting :
    (after .headStep (withLast .headStep [] none 0x00 (bind 0 State.reset))).port.result = .notWaiting := by decide
theorem test_headQuery_unbound :
    (after .headQuery (withLast .headQuery [] none 0x03 State.reset)).port.reply.take 4 = [0x00, 0x00, 0xFF, 0x00] := by
  decide

/-! ## Tiles -/

theorem test_tileOpen : (after .tileOpen (withLast .tileOpen [7, 511] (some 0x01) 0xFF State.reset)).load.openTile =
    some kTop := by decide
theorem test_tileOpen_bad_column :
    (after .tileOpen (withLast .tileOpen [7, 511] (some 0x02) 0x00 State.reset)).port.result = .badArgument := by decide
theorem test_tileOpenUnit_blanks :
    (after .tileOpenUnit (withUnit (.tileOpen k0) { opened with store := [(63, cell 9 9), (64, cell 8 8)] })).store =
      [(64, cell 8 8)] := by decide
theorem test_window_raises_last_row :
    (after .window (withLast .window [] none 0x06 { opened with
      load := { opened.load with lastRow := 2 } })).load.lastRow = 6 := by decide
theorem test_targetWrite_not_open :
    (after .targetWrite (withCode .targetWrite State.reset)).port.result = .notOpen := by decide
theorem test_targetWriteValue :
    (after .targetWriteValue (withUnit (.targetValue 700) opened)).store = [(0, cell 700 0)] := by decide
theorem test_cutWrite_begins : (after .cutWrite (withCode .cutWrite opened)).port.phase = .receiving := by decide
theorem test_cutWriteValue_wraps :
    (after .cutWriteValue (withUnit (.cutValue 9) { opened with load := { opened.load with ptrRow := 7, ptrCol := 7 } })).load.ptrRow
      = 0 := by decide
theorem test_fill_clamps :
    (after .fill (withLast .fill [] (some 0xFF) 0xFF opened)).port.unit = some (.fill 16383) := by decide +kernel
theorem test_fillUnit_window :
    ((after .fillUnit (withUnit (.fill 5) { opened with
      load := { opened.load with firstRow := 7, firstCol := 7, ptrRow := 7, ptrCol := 7 } })).store) = [(63, cell 5 0)] := by
  decide
theorem test_tileSeal_not_open : (after .tileSeal (withCode .tileSeal State.reset)).port.result = .notOpen := by decide
theorem test_tileSealUnit_blank_tile_is_done :
    ((after .tileSealUnit (withUnit .tileSeal opened)).entry k0).map (fun e => e.state) = some .done := by decide +kernel
theorem test_fenceWrite_not_found :
    (after .fenceWrite (withLast .fenceWrite [0, 0, 0, 1, 2, 3, 4, 5, 6, 7] none 0x08 State.reset)).port.result = .notFound := by
  decide
theorem test_fenceWriteUnit_row_and_bit :
    ((after .fenceWriteUnit (withUnit (.fenceWrite k0 [0, 0x80, 0, 0, 0, 0, 0, 0]) live)).store.read 15).fence = true := by decide +kernel
theorem test_tileEdit_bad_cell :
    (after .tileEdit (withLast .tileEdit [0, 0, 0, 64] (some 0x00) 0x10 live)).port.result = .badArgument := by decide
theorem test_tileEditUnit_below_cut :
    (after .tileEditUnit (withUnit (.tileEdit k0 0 19) live)).port.result = .belowCut := by decide
theorem test_tileEditUnit_unfinishes :
    (after .tileEditUnit (withUnit (.tileEdit k0 0 101) finished)).done = [] := by decide
theorem test_tileRetire_not_done :
    (after .tileRetire (withLast .tileRetire [0, 0, 0] none 0x00 live)).port.result = .notDone := by decide
theorem test_tileRetire_claimed :
    (after .tileRetire (withLast .tileRetire [0, 0, 0] none 0x01 claimed)).port.result = .claimed := by decide
theorem test_tileDuplicate_marks_source :
    ((after .tileDuplicate (withLast .tileDuplicate [0, 0, 0] none 0x01 live)).entry k0).map (fun e => (e.state, e.ret)) =
      some (.copying, some .live) := by decide
theorem test_claimBreak_hands_on :
    (after .claimBreak (withLast .claimBreak [0, 0] (some 0x00) 0x00 claimed)).ownerOf k0 = some 1 := by decide
theorem test_tileQuery : (after .tileQuery (withLast .tileQuery [0, 0] (some 0x00) 0x00 claimed)).port.reply =
    [0x02, 0x00, 0x01, 0x01, 0x00] := by decide
theorem test_tileRead_bad_field :
    (after .tileRead (withLast .tileRead [0, 0, 0] none 0x03 live)).port.result = .badArgument := by decide
theorem test_tileReadUnit_cuts :
    (after .tileReadUnit (withUnit (.tileRead k0 1) live)).port.reply.take 3 = [0x00, 0x14, 0x00] := by decide
theorem test_nextDone : (after .nextDone (withCode .nextDone finished)).port.reply = [0x01, 0, 0, 0, 0, 0, 0x03] := by decide
theorem test_clearWork_answers_waiters :
    answers (after .clearWork (withCode .clearWork claimed)) 1 = [(0x11, .cancelled, 0, 0)] := by decide +kernel

/-! ## Requests, units, links and time -/

theorem test_probe_of_unbound_head : answers (after (.probe 3 0x2A 0 0) State.reset) 3 = [(0x2A, .unbound, 0, 0)] := by
  decide
theorem test_probe_out_of_range :
    answers (after (.probe 0 0x2A 4096 0) (bind 0 live)) 0 = [(0x2A, .outOfRange, 0, 0)] := by decide
theorem test_report_depth_is_clamped :
    ((after (.report 0 0x2B 0 0 0xFFFF) (bind 0 live)).head 0).outstanding.map (fun o => o.req.depth) = some 16383 := by
  decide
theorem test_release_hands_on :
    answers (after (.release 0 0x2C 0 0)
      { claimed with heads := Bank.put claimed.heads 0 { claimed.head 0 with outstanding := none } }) 0 =
      [(0x2C, .released, 0, 0)] := by decide
theorem test_linkReset_releases : (after (.linkReset 0) claimed).ownerOf k0 = some 1 := by decide
theorem test_probeUnit_cuts : answers (after (.probeUnit 0) (granted 0 .probe 0 (bind 0 live))) 0 =
    [(0x11, .cut, 36, 0)] := by decide
theorem test_probeUnit_done : answers (after (.probeUnit 0) (granted 0 .probe 0 (bind 0 finished))) 0 =
    [(0x11, .done, 100, 0)] := by decide
theorem test_reportUnit_kept : answers (after (.reportUnit 0) (granted 0 .report 20 (bind 0 live))) 0 =
    [(0x11, .kept, 20, 0)] := by decide
theorem test_reportUnit_surface_violation :
    (after (.reportUnit 0) (granted 0 .report 101 (bind 0 live))).hold.record.map (fun v => (v.kind, v.reached, v.limit)) =
      some (.surface, 101, 100) := by decide
theorem test_holdTimerExpiry :
    answers (after (.holdTimerExpiry 1) { claimed with
      heads := Bank.put claimed.heads 1 { claimed.head 1 with holdTimeout := 1 }
      claims := Bank.put claimed.claims 1 { slots := [], timer := some 4095 } }) 1 = [(0x11, .contested, 0, 0)] := by decide
theorem test_copyTransfer_copies_target_only :
    (after .copyTransfer { live with
      dir := [{ entry0 .copying with ret := some .live }, { entry0 .copying with key := { k0 with copy := 1 }, slot := 1 }]
      engine := { job := some { source := k0, dest := { k0 with copy := 1 } }, next := 0, waiting := [] }
      arb := { last := .cp, granted := some .ce } }).store.read 64 = cell 100 0 := by decide
theorem test_indexPulse_completes :
    ((after (.indexPulse 0) (withMonitor 0 { LoadMonitor.reset with running := true, opened := true, counter := 0 } State.reset)).monitor 0).lastP = 1 := by decide
theorem test_stallEntry :
    (after (.stallEntry 0) (withMonitor 0 { LoadMonitor.reset with running := true, counter := 65534 } State.reset)).attn.flags = 0x08 := by decide
theorem test_framingError_in_frame :
    (after (.framingError 0) (withLink 0 { Link.reset with rx := { Receiver.reset with state := .kind, gapRunning := true } } State.reset)).attn.flags = 0x80 := by decide
theorem test_unknownKind : answers (after (.unknownKind 4 0x04) State.reset) 4 = [(0x00, .badFrame, 0, 0)] := by decide
theorem test_badFrame_once :
    answers (after (.badFrame 4) (after (.badFrame 4) (after (.badFrame 4) State.reset))) 4 =
      [(0x00, .badFrame, 0, 0), (0x00, .badFrame, 0, 0)] := by decide
theorem test_gapTimerExpiry :
    ((after (.gapTimerExpiry 0) (withLink 0 { Link.reset with rx := { Receiver.reset with state := .kind, gapRunning := true } } State.reset)).link 0).rx.state = .hunt := by
  decide
theorem test_answerTransmitted_frame :
    ((after (.answerTransmitted 2) (withLink 2 { Link.reset with tx := [{ tag := 0x2A, status := .cut, value := 1099, dwell := 12 }] } State.reset)).link 2).line =
      [0xC3, 0x80, 0x2A, 0x00, 0x04, 0x4B, 0x0C, 0xFB] := by decide
theorem test_timeBaseTick :
    ((after .timeBaseTick (bind 5 State.reset)).monitor 5).counter = 1 ∧
      ((after .timeBaseTick (bind 5 State.reset)).monitor 4).counter = 0 := by decide
theorem test_headLinkByte_sync : ((after (.headLinkByte 6 0xC3) State.reset).link 6).rx.state = .kind := by decide
theorem test_headLinkByte_good_check :
    answers (after (.headLinkByte 3 0xD0) (withLink 3 { Link.reset with rx :=
      { state := .body, kind := 0x01, expected := 1, sum := 0x30, payload := [0x2A, 0x00, 0x03, 0x00, 0x02], gapRunning := true } }
      State.reset)) 3 = [(0x2A, .unbound, 0, 0)] := by decide

/-! ## Witnesses: for each statement with premises, states and operands that meet them -/

theorem takes_one (c : Command) (before : List Nat) (b : Byte) (s : State) (hw : c.nextWidth before.length ≠ 2)
    (hu : s.port.unit = none) (ho : s.port.overrun = false) :
    TakesParameter (withLast c before none b s) c (before ++ [b.toNat]) [] :=
  ⟨rfl, rfl, b, false, ⟨hu, ho, rfl⟩, Or.inl ⟨hw, rfl⟩⟩

theorem takes_two (c : Command) (before : List Nat) (hi lo : Byte) (s : State)
    (hw : c.nextWidth before.length = 2) (hu : s.port.unit = none) (ho : s.port.overrun = false) :
    TakesParameter (withLast c before (some hi) lo s) c (before ++ [joinBytes hi lo]) [] :=
  ⟨rfl, rfl, lo, false, ⟨hu, ho, rfl⟩, Or.inr ⟨hw, hi, rfl, rfl⟩⟩

theorem takes_code (c : Command) (s : State) (hu : s.port.unit = none) (ho : s.port.overrun = false)
    (hp : s.port.phase ≠ .receiving) : TakesCode (withCode c s) c false [] := ⟨⟨hu, ho, rfl⟩, hp⟩

/-- A byte at the front of the intake queue. -/
def withByte (line : PortLine) (value : Byte) (s : State) : State :=
  { s with port := { s.port with intake := [{ line := line, value := value, followed := false }] } }

/-- A command is still taking its bytes. -/
def receiving (c : Command) (half : Option Byte) (s : State) : State :=
  { s with port := { s.port with current := .known c, phase := .receiving, half := half } }

theorem no_command_has_code_seven : ∀ c : Command, (0x07 : Byte) ≠ c.row.code := by
  intro c
  cases c <;> decide

theorem witness_StepRunsFrontCommand : State.reset.pending = [] := rfl

theorem witness_WireBytesAndBreaks : State.reset.port.readIndex ≤ State.reset.port.reply.length := by decide

theorem witness_ParameterByteTaken :
    (DecoderTakes (withByte .parameter 0xAA State.reset) { line := .parameter, value := 0xAA, followed := false } [] ∧
      (withByte .parameter 0xAA State.reset).port.current = .none) ∧
    (DecoderTakes (withByte .parameter 0xAA (receiving .fill none State.reset))
        { line := .parameter, value := 0xAA, followed := false } [] ∧ Command.fill.nextWidth 0 = 2) ∧
    (TakesParameter (withLast .tileOpen [] none 0x07 State.reset) .tileOpen [7] [] ∧ [7].length ≠ Command.tileOpen.row.widths.length) ∧
    (TakesParameter (withLast .tileQuery [] none 0x07 State.reset) .tileQuery [7] [] ∧ Command.tileQuery.row.cls = .read) ∧
    (withUnit .tileSeal State.reset).port.unit.isSome = true :=
  ⟨⟨⟨rfl, rfl, rfl⟩, rfl⟩, ⟨⟨rfl, rfl, rfl⟩, rfl⟩, ⟨takes_one _ _ _ _ (by decide) rfl rfl, by decide⟩,
    ⟨takes_one _ _ _ _ (by decide) rfl rfl, rfl⟩, rfl⟩

theorem witness_CommandByteTaken :
    (TakesCode (withCode .tileOpen State.reset) .tileOpen false [] ∧ Command.tileOpen.row.cls ≠ .stream ∧
      Command.tileOpen.row.widths ≠ []) ∧
    ((∀ c : Command, (0x07 : Byte) ≠ c.row.code) ∧
      DecoderTakes (withByte .command 0x07 State.reset) { line := .command, value := 0x07, followed := false } [] ∧
      (withByte .command 0x07 State.reset).port.phase ≠ .receiving) :=
  ⟨⟨takes_code _ _ rfl rfl (by decide), by decide, by decide⟩, no_command_has_code_seven, ⟨rfl, rfl, rfl⟩, by decide⟩

theorem witness_CurrentCommandEnds :
    (DecoderTakes (withByte .command 0x02 (receiving .bandSet none State.reset))
        { line := .command, value := Command.statusRead.row.code, followed := false } [] ∧
      DecoderTakes (withByte .command 0x07 (receiving .targetWrite none opened))
        { line := .command, value := 0x07, followed := false } []) ∧
    ∀ line value, ∃ s : State, s.port.unit = none ∧ s.port.overrun = true ∧
      s.port.intake = [{ line := line, value := value, followed := false }] :=
  ⟨⟨⟨rfl, rfl, rfl⟩, ⟨rfl, rfl, rfl⟩⟩, fun line value =>
    ⟨withByte line value { State.reset with port := { Port.reset with overrun := true } }, rfl, rfl, rfl⟩⟩

theorem witness_StatusReadAckAndSetup :
    TakesCode (withCode .resultRead State.reset) .resultRead false [] ∧
    TakesCode (withCode .statusRead opened) .statusRead false [] ∧
    TakesParameter (withLast .ack [] none 0xFF State.reset) .ack [0xFF] [] ∧
    TakesParameter (withLast .attnSetup [] none 0x00 State.reset) .attnSetup [0x00] [] ∧
    TakesParameter (withLast .attnSetup [0x00] none 0x40 State.reset) .attnSetup [0x00, 0x40] [] :=
  ⟨takes_code _ _ rfl rfl (by decide), takes_code _ _ rfl rfl (by decide), takes_one _ _ _ _ (by decide) rfl rfl,
    takes_one _ _ _ _ (by decide) rfl rfl, takes_one _ _ _ _ (by decide) rfl rfl⟩

theorem witness_AttentionFollowsFlags : EventFlag.stall ≠ EventFlag.violation := by decide

theorem witness_ViolationReadAndClear :
    TakesCode (withCode .violationRead State.reset) .violationRead false [] ∧
    TakesCode (withCode .violationRead { State.reset with hold := { record := some captured, count := 255 } }) .violationRead false [] ∧
    TakesCode (withCode .violationClear { State.reset with hold := { record := some captured, count := 2 } }) .violationClear false [] :=
  ⟨takes_code _ _ rfl rfl (by decide), takes_code _ _ rfl rfl (by decide), takes_code _ _ rfl rfl (by decide)⟩

theorem witness_TimebaseRestartsMonitors :
    TakesParameter (withLast .timebase [] none 0x07 State.reset) .timebase [7] [] ∧
    TakesParameter (withLast .timebase [] none 0x08 (bind 0 State.reset)) .timebase [8] [] :=
  ⟨takes_one _ _ _ _ (by decide) rfl rfl, takes_one _ _ _ _ (by decide) rfl rfl⟩

theorem witness_CopySetupStores :
    (TakesParameter (withLast .copySetup [] none 0x08 State.reset) .copySetup [8] [] ∧ 7 < 8) ∧
    (TakesParameter (withLast .copySetup [] none 0x07 State.reset) .copySetup [(7 : CopyNo).val] [] ∧
      (withLast .copySetup [] none 0x07 State.reset).hasTiles 7 = false) ∧
    (TakesParameter (withLast .copySetup [] none 0x00 live) .copySetup [(0 : CopyNo).val] [] ∧
      (withLast .copySetup [] none 0x00 live).hasTiles 0 = true) ∧
    TakesParameter (withLast .copySetup [7] none 0xFF State.reset) .copySetup [(7 : CopyNo).val, 255] [] ∧
    TakesParameter (withLast .copySetup [7, 1] none 0xFF State.reset) .copySetup [(7 : CopyNo).val, 1, 255] [] ∧
    TakesParameter (withLast .copySetup [7, 1, 2] none 0x3F State.reset) .copySetup [(7 : CopyNo).val, 1, 2, 63] [] ∧
    TakesParameter (withLast .copySetup [7, 1, 2, 64] none 0xFF State.reset) .copySetup [(7 : CopyNo).val, 1, 2, 64, 255] [] ∧
    (TakesParameter (withLast .copySetup [0, 1, 2, 3, 4] none 0x00 (bind 1 (bind 0 (share State.reset)))) .copySetup
        [(0 : CopyNo).val, 1, 2, 3, 4, 0] [] ∧
      ((bind 1 (bind 0 (share State.reset))).copy 0).shared = true ∧ 2 ≤ (bind 1 (bind 0 (share State.reset))).boundHeads 0) ∧
    (TakesParameter (withLast .copySetup [0, 1, 2, 3, 4] none 0x00 (bind 0 (share State.reset))) .copySetup
        [(0 : CopyNo).val, 1, 2, 3, 4, 0] [] ∧ ¬ 2 ≤ (bind 0 (share State.reset)).boundHeads 0) :=
  ⟨⟨takes_one _ _ _ _ (by decide) rfl rfl, by decide⟩, ⟨takes_one _ _ _ _ (by decide) rfl rfl, by decide⟩,
    ⟨takes_one _ _ _ _ (by decide) rfl rfl, by decide⟩, takes_one _ _ _ _ (by decide) rfl rfl,
    takes_one _ _ _ _ (by decide) rfl rfl, takes_one _ _ _ _ (by decide) rfl rfl, takes_one _ _ _ _ (by decide) rfl rfl,
    ⟨takes_one _ _ _ _ (by decide) rfl rfl, by decide, by decide⟩, ⟨takes_one _ _ _ _ (by decide) rfl rfl, by decide⟩⟩

theorem witness_BandBoundsStores :
    TakesParameter (withLast .bandBounds [] none 0x07 State.reset) .bandBounds [7] [] ∧
    TakesParameter (withLast .bandBounds [] none 0x08 State.reset) .bandBounds [8] [] ∧
    TakesParameter (withLast .bandBounds [7] (some 0x10) 0x00 State.reset) .bandBounds ((7 : CopyNo).val :: ([] ++ [4096])) [] ∧
    TakesParameter (withLast .bandBounds [7, 1, 2, 3, 4, 5, 6] (some 0x0F) 0xFF State.reset) .bandBounds
      ((7 : CopyNo).val :: ([1, 2, 3, 4, 5, 6] ++ [4095])) [] :=
  ⟨takes_one _ _ _ _ (by decide) rfl rfl, takes_one _ _ _ _ (by decide) rfl rfl, takes_two _ _ _ _ _ (by decide) rfl rfl,
    takes_two _ _ _ _ _ (by decide) rfl rfl⟩

theorem witness_BandSetStores :
    TakesParameter (withLast .bandSet [] none 0x08 State.reset) .bandSet [8] [] ∧
    TakesParameter (withLast .bandSet [7] none 0x08 State.reset) .bandSet [7, 8] [] ∧
    TakesParameter (withLast .bandSet [7] none 0x07 State.reset) .bandSet [7, 7] [] ∧
    TakesParameter (withLast .bandSet [7, 7] (some 0x04) 0x00 State.reset) .bandSet [(7 : CopyNo).val, (7 : Fin 8).val, 1024] [] ∧
    TakesParameter (withLast .bandSet [7, 7, 0] none 0xFF State.reset) .bandSet [(7 : CopyNo).val, (7 : Fin 8).val, 0, 255] [] ∧
    TakesParameter (withLast .bandSet [7, 7, 0, 1] none 0x03 State.reset) .bandSet [(7 : CopyNo).val, (7 : Fin 8).val, 0, 1, 3] [] ∧
    TakesParameter (withLast .bandSet [7, 7, 0, 1, 2] none 0xFF State.reset) .bandSet
      [(7 : CopyNo).val, (7 : Fin 8).val, 0, 1, 2, 255] [] :=
  ⟨takes_one _ _ _ _ (by decide) rfl rfl, takes_one _ _ _ _ (by decide) rfl rfl, takes_one _ _ _ _ (by decide) rfl rfl,
    takes_two _ _ _ _ _ (by decide) rfl rfl, takes_one _ _ _ _ (by decide) rfl rfl, takes_one _ _ _ _ (by decide) rfl rfl,
    takes_one _ _ _ _ (by decide) rfl rfl⟩

theorem witness_CopyQueryReplies :
    (TakesParameter (withLast .copyQuery [] none 0x08 State.reset) .copyQuery [8] [] ∧ 7 < 8) ∧
    TakesParameter (withLast .copyQuery [] none 0x07 State.reset) .copyQuery [(7 : CopyNo).val] [] :=
  ⟨⟨takes_one _ _ _ _ (by decide) rfl rfl, by decide⟩, takes_one _ _ _ _ (by decide) rfl rfl⟩

/-- HEAD BIND of head 7 to copy 0 as its last byte waits. -/
def binding (s : State) : State := withLast .headBind [7, 0, 1, 1024, 65, 30000] none 0xFF s

theorem witness_HeadBindSetsRecord :
    (∀ s : State, s.port.unit = none → s.port.overrun = false →
      TakesParameter (binding s) .headBind [7, 0, 1, 1024, 65, 30000, 255] []) ∧
    TakesParameter (withLast .headBind [8, 7, 1, 1024, 65, 30000] none 0xFF State.reset) .headBind [8, 7, 1, 1024, 65, 30000, 255] [] ∧
    TakesParameter (withLast .headBind [7, 8, 1, 1024, 65, 30000] none 0xFF State.reset) .headBind [7, 8, 1, 1024, 65, 30000, 255] [] ∧
    ((binding (bind 7 State.reset)).head 7).state ≠ .unbound ∧
    (((binding (asking 7 .report .inService 5 State.reset)).head 7).outstanding.isSome = true) ∧
    (((binding (bind 0 State.reset)).head 7).state = .unbound ∧ ((binding (bind 0 State.reset)).head 7).outstanding = none ∧
      ((binding (bind 0 State.reset)).copy 0).shared = false ∧
      ∃ g : HeadNo, g ≠ 7 ∧ ((binding (bind 0 State.reset)).head g).boundCopy = some 0) ∧
    (((binding (bind 0 (share State.reset))).head 7).state = .unbound ∧
      ((binding (bind 0 (share State.reset))).copy 0).shared = true) :=
  ⟨fun _ hu ho => takes_one _ _ _ _ (by decide) hu ho, takes_one _ _ _ _ (by decide) rfl rfl,
    takes_one _ _ _ _ (by decide) rfl rfl, by decide, rfl, ⟨rfl, rfl, rfl, 0, by decide, rfl⟩, rfl, rfl⟩

theorem witness_HeadUnbindEndsBinding :
    (TakesParameter (withLast .headUnbind [] none 0x08 State.reset) .headUnbind [8] [] ∧ 7 < 8) ∧
    (TakesParameter (withLast .headUnbind [] none 0x07 State.reset) .headUnbind [(7 : HeadNo).val] [] ∧
      ((withLast .headUnbind [] none 0x07 State.reset).head 7).state = .unbound) ∧
    (TakesParameter (withLast .headUnbind [] none 0x01 claimed) .headUnbind [(1 : HeadNo).val] [] ∧
      ((withLast .headUnbind [] none 0x01 claimed).head 1).state ≠ .unbound ∧
      ((withLast .headUnbind [] none 0x01 claimed).head 1).parked = true ∧
      ∀ o, ((withLast .headUnbind [] none 0x01 claimed).head 1).outstanding = some o → o.silent = false) ∧
    (TakesParameter (withLast .headUnbind [] none 0x07 (bind 7 State.reset)) .headUnbind [(7 : HeadNo).val] [] ∧
      ((withLast .headUnbind [] none 0x07 (bind 7 State.reset)).claim 7).slots = [] ∧
      ((withLast .headUnbind [] none 0x07 (bind 7 State.reset)).head 7).parked = false) := by
  refine ⟨⟨takes_one _ _ _ _ (by decide) rfl rfl, by decide⟩, ⟨takes_one _ _ _ _ (by decide) rfl rfl, rfl⟩,
    ⟨takes_one _ _ _ _ (by decide) rfl rfl, by decide, rfl, ?_⟩, takes_one _ _ _ _ (by decide) rfl rfl, rfl, rfl⟩
  intro o ho
  cases ho
  rfl

theorem witness_ToolSetAndSpindleSet :
    (TakesParameter (withLast .toolSet [8, 1] (some 0x04) 0x00 State.reset) .toolSet [8, 1, 1024] [] ∧
      TakesParameter (withLast .toolSet [7, 1] (some 0x04) 0x00 State.reset) .toolSet [7, 1, 1024] [] ∧
      (State.reset.head 7).state = .unbound ∧ ((bind 7 State.reset).head 7).state ≠ .unbound ∧
      TakesParameter (withLast .toolSet [7, 0] (some 0x03) 0xFF (bind 7 State.reset)) .toolSet [7, 0, 1023] []) ∧
    (TakesParameter (withLast .spindleSet [8, 1] (some 0xFF) 0xFF State.reset) .spindleSet [8, 1, 65535] [] ∧
      TakesParameter (withLast .spindleSet [7, 65] (some 0xFF) 0xFF State.reset) .spindleSet [7, 65, 65535] [] ∧
      TakesParameter (withLast .spindleSet [7, 0] (some 0x00) 0x00 (bind 7 State.reset)) .spindleSet [7, 0, 0] []) :=
  ⟨⟨takes_two _ _ _ _ _ (by decide) rfl rfl, takes_two _ _ _ _ _ (by decide) rfl rfl, rfl, by decide,
      takes_two _ _ _ _ _ (by decide) rfl rfl⟩,
    takes_two _ _ _ _ _ (by decide) rfl rfl, takes_two _ _ _ _ _ (by decide) rfl rfl, takes_two _ _ _ _ _ (by decide) rfl rfl⟩

theorem witness_HeadHaltEndsParked :
    (TakesParameter (withLast .headHalt [] none 0x08 State.reset) .headHalt [8] [] ∧ 7 < 8) ∧
    (TakesParameter (withLast .headHalt [] none 0x07 State.reset) .headHalt [(7 : HeadNo).val] [] ∧
      (State.reset.head 7).state = .unbound) ∧
    (TakesParameter (withLast .headHalt [] none 0x00 claimed) .headHalt [(0 : HeadNo).val] [] ∧
      (claimed.head 0).state ≠ .unbound ∧ (claimed.head 0).parked = false) ∧
    ∀ w : WaitKind, let s := withLast .headHalt [] none 0x07 (asking 7 .probe w 0 (bind 7 live))
      TakesParameter s .headHalt [(7 : HeadNo).val] [] ∧ (s.head 7).state ≠ .unbound ∧
      ∃ o, (s.head 7).outstanding = some o ∧ o.silent = false ∧ o.wait = w ∧ o.key = some k0 :=
  ⟨⟨takes_one _ _ _ _ (by decide) rfl rfl, by decide⟩, ⟨takes_one _ _ _ _ (by decide) rfl rfl, rfl⟩,
    ⟨takes_one _ _ _ _ (by decide) rfl rfl, by decide, rfl⟩, fun w => ⟨takes_one _ _ _ _ (by decide) rfl rfl,
      by simp [withLast, asking, bind, State.head], _, rfl, rfl, rfl, rfl⟩⟩

theorem witness_ResumeAndStep :
    (∀ c : Command, c = .headResume ∨ c = .headStep ∨ c = .stepMode →
      TakesParameter (withLast c [] none 0x08 State.reset) c [8] [] ∧
      TakesParameter (withLast c [] none 0x07 State.reset) c [(7 : HeadNo).val] [] ∧
      TakesParameter (withLast c [] none 0x07 (bind 7 live)) c [(7 : HeadNo).val] [] ∧
      TakesParameter (withLast c [] none 0x07 (asking 7 .probe .step 0 (bind 7 live))) c [(7 : HeadNo).val] []) ∧
    (State.reset.head 7).state = .unbound ∧ ((bind 7 live).head 7).state ≠ .unbound ∧
    ((bind 7 live).head 7).inStepWait = false ∧ ((asking 7 .probe .step 0 (bind 7 live)).head 7).inStepWait = true ∧
    TakesParameter (withLast .stepMode [7] none 0x00 (asking 7 .probe .step 0 (bind 7 live))) .stepMode [(7 : HeadNo).val, 0] [] := by
  refine ⟨fun c hc => ?_, rfl, by decide, rfl, rfl, takes_one _ _ _ _ (by decide) rfl rfl⟩
  rcases hc with rfl | rfl | rfl <;>
    exact ⟨takes_one _ _ _ _ (by decide) rfl rfl, takes_one _ _ _ _ (by decide) rfl rfl,
      takes_one _ _ _ _ (by decide) rfl rfl, takes_one _ _ _ _ (by decide) rfl rfl⟩

theorem witness_HeadQueryReplies :
    (TakesParameter (withLast .headQuery [] none 0x08 State.reset) .headQuery [8] [] ∧ 7 < 8) ∧
    TakesParameter (withLast .headQuery [] none 0x00 claimed) .headQuery [(0 : HeadNo).val] [] :=
  ⟨⟨takes_one _ _ _ _ (by decide) rfl rfl, by decide⟩, takes_one _ _ _ _ (by decide) rfl rfl⟩

/-- No slot is free. -/
def full (s : State) : State := { s with freeSlots := [] }

theorem keysDistinct_holding (e : Entry) (cells : Memory) : KeysDistinct (holding e cells) := by
  show ([e].map (fun x => x.key)).Nodup
  simp

theorem witness_TileOpenCreatesAndInitialises :
    (∀ s : State, s.port.unit = none → s.port.overrun = false →
      TakesParameter (withLast .tileOpen [7, 511] (some 0x01) 0xFF s) .tileOpen [7, 511, 511] [] ∧
      TakesParameter (withLast .tileOpen [0, 0] (some 0x00) 0x00 s) .tileOpen [0, 0, 0] []) ∧
    TakesParameter (withLast .tileOpen [7, 511] (some 0x02) 0x00 State.reset) .tileOpen [7, 511, 512] [] ∧
    (7 = kTop.copy.val ∧ 511 = kTop.row.val ∧ 511 = kTop.col.val) ∧
    opened.load.openTile.isSome = true ∧
    (live.load.openTile = none ∧ ∃ e ∈ live.dir, e.key = k0) ∧
    ((full live).load.openTile = none ∧ (∀ e ∈ (full live).dir, e.key ≠ kTop) ∧ (full live).freeSlots = []) ∧
    (live.load.openTile = none ∧ (∀ e ∈ live.dir, e.key ≠ kTop) ∧ live.freeSlots = 1 :: List.range' 2 126) ∧
    (PortUnitGranted (withUnit (.tileOpen k0) opened) (.tileOpen k0) ∧
      ∃ e, (withUnit (.tileOpen k0) opened).entry k0 = some e) :=
  ⟨fun _ hu ho => ⟨takes_two _ _ _ _ _ (by decide) hu ho, takes_two _ _ _ _ _ (by decide) hu ho⟩,
    takes_two _ _ _ _ _ (by decide) rfl rfl, ⟨rfl, rfl, rfl⟩, rfl, ⟨rfl, _, List.mem_singleton.2 rfl, rfl⟩,
    ⟨rfl, by decide, rfl⟩, ⟨rfl, by decide, rfl⟩, ⟨rfl, rfl⟩, _, rfl⟩

theorem witness_WindowAndPointer :
    (TakesParameter (withLast .window [] none 0x08 State.reset) .window [8] [] ∧ State.reset.load.openTile = none) ∧
    (TakesParameter (withLast .window [] none 0x07 opened) .window [7] [] ∧ opened.load.openTile.isSome = true) ∧
    TakesParameter (withLast .window [7] none 0x00 opened) .window [7, 0] [] ∧
    TakesParameter (withLast .window [7, 0] none 0x07 opened) .window [7, 0, 7] [] ∧
    TakesParameter (withLast .window [7, 0, 7] none 0x08 opened) .window [7, 0, 7, 8] [] ∧
    ∃ l : LoadUnit, l.firstRow ≤ l.lastRow ∧ l.firstCol ≤ l.lastCol ∧ l.ptrRow = l.firstRow ∧ l.ptrCol = l.firstCol ∧
      l.firstRow = 7 ∧ l.firstCol = 2 :=
  ⟨⟨takes_one _ _ _ _ (by decide) rfl rfl, rfl⟩, ⟨takes_one _ _ _ _ (by decide) rfl rfl, rfl⟩,
    takes_one _ _ _ _ (by decide) rfl rfl, takes_one _ _ _ _ (by decide) rfl rfl, takes_one _ _ _ _ (by decide) rfl rfl,
    { openTile := none, firstRow := 7, lastRow := 7, firstCol := 2, lastCol := 6, ptrRow := 7, ptrCol := 2 },
    by decide, by decide, rfl, rfl, rfl, rfl⟩

theorem witness_StreamsWriteAtPointer :
    (∀ c : Command, c = .targetWrite ∨ c = .cutWrite →
      TakesCode (withCode c State.reset) c false [] ∧ TakesCode (withCode c opened) c false [] ∧
      (withLast c [] (some 0x40) 0x00 opened).port.half = some 0x40 ∧
      DecoderTakes (withLast c [] (some 0x40) 0x00 opened) { line := .parameter, value := 0x00, followed := false } []) ∧
    opened.load.openTile = some k0 ∧ (∃ e, opened.entry k0 = some e) ∧
    PortUnitGranted (withUnit (.targetValue 16383) opened) (.targetValue 16383) ∧
    PortUnitGranted (withUnit (.cutValue 0) opened) (.cutValue 0) :=
  ⟨fun _ _ => ⟨takes_code _ _ rfl rfl (by decide), takes_code _ _ rfl rfl (by decide), rfl, rfl, rfl, rfl⟩, rfl,
    ⟨_, rfl⟩, ⟨rfl, rfl⟩, rfl, rfl⟩

theorem witness_FillWritesWindow :
    (TakesParameter (withLast .fill [] (some 0x40) 0x00 State.reset) .fill [16384] [] ∧
      TakesParameter (withLast .fill [] (some 0x3F) 0xFF opened) .fill [16383] []) ∧
    (opened.load.openTile = some k0 ∧ (∃ e, opened.entry k0 = some e) ∧
      PortUnitGranted (withUnit (.fill 16383) opened) (.fill 16383)) :=
  ⟨⟨takes_two _ _ _ _ _ (by decide) rfl rfl, takes_two _ _ _ _ _ (by decide) rfl rfl⟩, rfl, ⟨_, rfl⟩, rfl, rfl⟩

theorem witness_TileSealCounts :
    (TakesCode (withCode .tileSeal State.reset) .tileSeal false [] ∧ TakesCode (withCode .tileSeal opened) .tileSeal false []) ∧
    ∃ e, opened.load.openTile = some k0 ∧ (withUnit .tileSeal opened).entry k0 = some e ∧
      PortUnitGranted (withUnit .tileSeal opened) .tileSeal ∧ e.owner = none ∧ e.waiters = [] ∧
      KeysDistinct (withUnit .tileSeal opened) :=
  ⟨⟨takes_code _ _ rfl rfl (by decide), takes_code _ _ rfl rfl (by decide)⟩, _, rfl, rfl, ⟨rfl, rfl⟩, rfl, rfl,
    by show List.Nodup _; decide⟩

theorem witness_FenceWriteSetsFlags :
    (∀ s : State, s.port.unit = none → s.port.overrun = false →
      TakesParameter (withLast .fenceWrite [7, 511, 511, 1, 2, 3, 4, 5, 6, 7] none 0xFF s) .fenceWrite
        (7 :: 511 :: 511 :: [1, 2, 3, 4, 5, 6, 7, 255]) [] ∧
      TakesParameter (withLast .fenceWrite [0, 0, 0, 1, 2, 3, 4, 5, 6, 7] none 0xFF s) .fenceWrite
        (0 :: 0 :: 0 :: [1, 2, 3, 4, 5, 6, 7, 255]) [] ∧
      TakesParameter (withLast .fenceWrite [8, 0, 512, 1, 2, 3, 4, 5, 6, 7] none 0xFF s) .fenceWrite
        (8 :: 0 :: 512 :: [1, 2, 3, 4, 5, 6, 7, 255]) []) ∧
    [1, 2, 3, 4, 5, 6, 7, 255].length = 8 ∧
    ∀ state : TileState, PortUnitGranted (withUnit (.fenceWrite k0 [255]) (holding (entry0 state) [])) (.fenceWrite k0 [255]) ∧
      ∃ e, (withUnit (.fenceWrite k0 [255]) (holding (entry0 state) [])).entry k0 = some e ∧ e.state = state :=
  ⟨fun _ hu ho => ⟨takes_one _ _ _ _ (by decide) hu ho, takes_one _ _ _ _ (by decide) hu ho, takes_one _ _ _ _ (by decide) hu ho⟩,
    rfl, fun _ => ⟨⟨rfl, rfl⟩, _, rfl, rfl⟩⟩

theorem witness_TileEditReplacesTarget :
    (∀ s : State, s.port.unit = none → s.port.overrun = false →
      TakesParameter (withLast .tileEdit [0, 0, 0, 64] (some 0x40) 0x00 s) .tileEdit [0, 0, 0, 64, 16384] [] ∧
      TakesParameter (withLast .tileEdit [0, 0, 0, 63] (some 0x40) 0x00 s) .tileEdit [0, 0, 0, 63, 16384] []) ∧
    (∀ state : TileState, PortUnitGranted (withUnit (.tileEdit k0 0 19) (holding (entry0 state) [(0, cell 100 20)])) (.tileEdit k0 0 19) ∧
      ∃ e, (withUnit (.tileEdit k0 0 19) (holding (entry0 state) [(0, cell 100 20)])).entry k0 = some e ∧ e.state = state) ∧
    (19 + (live.copy 0).overTol < (live.store.read (0 * 64 + 0)).cut) ∧
    PortUnitGranted (withUnit (.tileEdit k0 0 20) live) (.tileEdit k0 0 20) ∧
    (live.store.read (0 * 64 + 0)).cut ≤ 20 + (live.copy 0).overTol :=
  ⟨fun _ hu ho => ⟨takes_two _ _ _ _ _ (by decide) hu ho, takes_two _ _ _ _ _ (by decide) hu ho⟩,
    fun _ => ⟨⟨rfl, rfl⟩, _, rfl, rfl⟩, by decide, ⟨rfl, rfl⟩, by decide⟩

theorem witness_EntryStateFollowsCount :
    (∃ e, KeysDistinct { claimed with dir := [{ entry0 .live with remaining := 0, owner := some 0, waiters := [1] }] } ∧
      ({ claimed with dir := [{ entry0 .live with remaining := 0, owner := some 0, waiters := [1] }] } : State).entry k0 = some e ∧
      e.state = .live ∧ e.remaining = 0 ∧ (∀ h ∈ e.owner, h ∉ e.waiters) ∧ e.waiters.Nodup) ∧
    (∃ e, KeysDistinct (holding (entry0 .done) []) ∧ (holding (entry0 .done) []).entry k0 = some e ∧ e.state = .done ∧ 0 < e.remaining) ∧
    ∃ e, KeysDistinct live ∧ live.entry k0 = some e ∧ ¬(e.state = .live ∧ e.remaining = 0) ∧ ¬(e.state = .done ∧ 0 < e.remaining) :=
  ⟨⟨_, by show List.Nodup _; decide, rfl, rfl, rfl, by decide, by decide⟩,
    ⟨_, keysDistinct_holding _ _, rfl, rfl, by decide⟩, _, keysDistinct_holding _ _, rfl, by decide, by decide⟩

theorem witness_TileRetireRemoves :
    (∀ s : State, s.port.unit = none → s.port.overrun = false →
      TakesParameter (withLast .tileRetire [0, 512, 0] none 0x01 s) .tileRetire [0, 512, 0, 1] [] ∧
      TakesParameter (withLast .tileRetire [0, 0, 0] none 0x00 s) .tileRetire [0, 0, 0, 0] [] ∧
      TakesParameter (withLast .tileRetire [0, 0, 0] none 0x01 s) .tileRetire [0, 0, 0, 1] []) ∧
    State.reset.entry k0 = none ∧ KeysDistinct State.reset ∧
    (∀ state : TileState, KeysDistinct (holding (entry0 state) []) ∧
      ∃ e, (holding (entry0 state) []).entry k0 = some e ∧ e.state = state ∧ e.owner = none) ∧
    ∃ e, KeysDistinct claimed ∧ claimed.entry k0 = some e ∧ e.state = .live ∧ e.owner.isSome = true :=
  ⟨fun _ hu ho => ⟨takes_one _ _ _ _ (by decide) hu ho, takes_one _ _ _ _ (by decide) hu ho, takes_one _ _ _ _ (by decide) hu ho⟩,
    rfl, List.nodup_nil, fun _ => ⟨keysDistinct_holding _ _, _, rfl, rfl, rfl⟩, _, by show List.Nodup _; decide, rfl, rfl, rfl⟩

theorem witness_TileQueryAndNextDone :
    (TakesParameter (withLast .tileQuery [8, 0] (some 0x00) 0x00 live) .tileQuery [8, 0, 0] [] ∧
      TakesParameter (withLast .tileQuery [7, 511] (some 0x01) 0xFF live) .tileQuery [7, 511, 511] [] ∧ live.entry kTop = none ∧
      TakesParameter (withLast .tileQuery [0, 0] (some 0x00) 0x00 claimed) .tileQuery [0, 0, 0] [] ∧ ∃ e, claimed.entry k0 = some e) ∧
    (TakesCode (withCode .nextDone State.reset) .nextDone false [] ∧ State.reset.done = []) ∧
    (TakesCode (withCode .nextDone finished) .nextDone false [] ∧ finished.done = k0 :: [] ∧ ∃ e, finished.entry k0 = some e) :=
  ⟨⟨takes_two _ _ _ _ _ (by decide) rfl rfl, takes_two _ _ _ _ _ (by decide) rfl rfl, by decide,
      takes_two _ _ _ _ _ (by decide) rfl rfl, _, rfl⟩,
    ⟨takes_code _ _ rfl rfl (by decide), rfl⟩, takes_code _ _ rfl rfl (by decide), rfl, _, rfl⟩

theorem witness_TileReadSnapshots :
    (∀ s : State, s.port.unit = none → s.port.overrun = false →
      TakesParameter (withLast .tileRead [0, 0, 0] none 0x03 s) .tileRead [0, 0, 0, 3] [] ∧
      TakesParameter (withLast .tileRead [0, 0, 0] none 0x02 s) .tileRead [0, 0, 0, 2] []) ∧
    ∀ (f : Nat) (state : TileState), f ≤ 2 →
      PortUnitGranted (withUnit (.tileRead k0 f) (holding (entry0 state) [(0, cell 300 7)])) (.tileRead k0 f) ∧
      ∃ e, (withUnit (.tileRead k0 f) (holding (entry0 state) [(0, cell 300 7)])).entry k0 = some e ∧ e.state = state :=
  ⟨fun _ hu ho => ⟨takes_one _ _ _ _ (by decide) hu ho, takes_one _ _ _ _ (by decide) hu ho⟩,
    fun _ _ _ => ⟨⟨rfl, rfl⟩, _, rfl, rfl⟩⟩

theorem witness_TileDuplicateAccepts :
    (∀ s : State, s.port.unit = none → s.port.overrun = false →
      TakesParameter (withLast .tileDuplicate [0, 0, 0] none 0x08 s) .tileDuplicate [0, 0, 0, 8] [] ∧
      TakesParameter (withLast .tileDuplicate [0, 0, 0] none 0x00 s) .tileDuplicate [0, 0, 0, 0] [] ∧
      TakesParameter (withLast .tileDuplicate [0, 0, 0] none 0x07 s) .tileDuplicate [0, 0, 0, 7] []) ∧
    State.reset.entry k0 = none ∧ (∃ e, opened.entry k0 = some e ∧ e.state = .filling) ∧
    (∃ e, live.entry k0 = some e ∧ e.state = .live ∧ live.engine.job = none ∧
      (live.entry { k0 with copy := 0 }).isSome = true ∧ live.entry { k0 with copy := 7 } = none ∧ (full live).freeSlots = []) ∧
    (live.freeSlots = 1 :: List.range' 2 126 ∧ KeysDistinct live) :=
  ⟨fun _ hu ho => ⟨takes_one _ _ _ _ (by decide) hu ho, takes_one _ _ _ _ (by decide) hu ho, takes_one _ _ _ _ (by decide) hu ho⟩,
    rfl, ⟨_, rfl, rfl⟩, ⟨_, rfl, rfl, rfl, rfl, by decide, rfl⟩, rfl, keysDistinct_holding _ _⟩

/-- A duplication of the LIVE tile `k0` into copy 1, before its transfer of cell `i`. -/
def duplicating (i : Nat) : State :=
  { live with
    dir := [{ entry0 .copying with ret := some .live }, { entry0 .copying with key := { k0 with copy := 1 }, slot := 1 }]
    freeSlots := List.range' 2 126
    engine := { job := some { source := k0, dest := { k0 with copy := 1 } }, next := i, waiting := [] }
    arb := { last := .cp, granted := some .ce } }

theorem witness_CopyTransferCopiesCell : ∀ i, ∃ job src dst, (duplicating i).engine.job = some job ∧
    (duplicating i).arb.granted = some .ce ∧ (duplicating i).entry job.source = some src ∧
    (duplicating i).entry job.dest = some dst ∧ (duplicating i).engine.next = i ∧ src.ret = some .live ∧
    KeysDistinct (duplicating i) ∧ job.source ≠ job.dest ∧ dst.owner = none ∧ dst.waiters = [] :=
  fun _ => ⟨_, _, _, rfl, rfl, rfl, rfl, rfl, rfl, by simp [KeysDistinct, duplicating, entry0, k0], by decide, rfl, rfl⟩

theorem witness_ClearWorkEmpties :
    TakesCode (withCode .clearWork claimed) .clearWork false [] ∧
    ∀ h : HeadNo, (((withCode .clearWork claimed).head h).buffer.isSome = true → ((withCode .clearWork claimed).head h).inService = true) ∧
      ∀ o, ((withCode .clearWork claimed).head h).outstanding = some o → o.wait ≠ .inService → o.silent = false := by
  refine ⟨takes_code _ _ rfl rfl (by decide), fun h => ⟨by revert h; decide, ?_⟩⟩
  have all : ∀ g : HeadNo, ((claimed.head g).outstanding.all (fun o => !o.silent)) = true := by decide
  intro o ho _
  have := all h
  rw [show (claimed.head h).outstanding = some o from ho] at this
  simpa using this

def k1 : TileKey := { copy := 0, row := 0, col := 1 }
def k2 : TileKey := { copy := 0, row := 0, col := 2 }

/-- LIVE tiles `k0`, `k1` and `k2` on the shared copy 0, with owners and wait lists as given, and the claim slots
of heads 0 and 1. -/
def sharing (o0 o1 o2 : Option HeadNo) (w0 w1 : List HeadNo) (c0 c1 : List TileKey) : State :=
  { bind 1 (bind 0 (share State.reset)) with
    dir := [{ entry0 .live with owner := o0, waiters := w0 }, { entry0 .live with key := k1, slot := 1, owner := o1, waiters := w1 },
      { entry0 .live with key := k2, slot := 2, owner := o2 }]
    freeSlots := List.range' 3 125
    claims := Bank.put (Bank.put State.reset.claims 0 { slots := c0, timer := none }) 1 { slots := c1, timer := none } }

theorem keysDistinct_sharing (o0 o1 o2 : Option HeadNo) (w0 w1 : List HeadNo) (c0 c1 : List TileKey) :
    KeysDistinct (sharing o0 o1 o2 w0 w1 c0 c1) := by
  simp [KeysDistinct, sharing, entry0, k0, k1, k2]

/-- `claimed` with the probe of head 0 as the waiting command. -/
def busy : State := { claimed with pending := [.probeUnit 0] }

theorem busy_claimsAgree : ClaimsAgree busy := by
  refine ⟨?_, ?_⟩
  · intro h
    have slots : ∀ g : HeadNo, (busy.claim g).slots.Nodup ∧ (busy.claim g).slots.length ≤ 2 ∧
        (∀ k ∈ (busy.claim g).slots, busy.ownerOf k = some g) ∧ (busy.claim g).timer.isSome = false := by decide
    have waits : ∀ g : HeadNo, ((busy.head g).outstanding.all (fun o => decide (o.wait = .claim → o.key = some k0))) = true ∧
        (((busy.head g).outstanding.any (fun o => decide (o.wait = .claim))) = true → g ∈ busy.waitersOf k0) := by decide
    obtain ⟨h1, h2, h3, h4⟩ := slots h
    refine ⟨h1, h2, h3, fun ht => ?_, fun o ho hw => ⟨k0, ?_, ?_⟩⟩
    · rw [h4] at ht
      cases ht
    · have := (waits h).1
      rw [ho] at this
      simpa [hw] using this
    · have := (waits h).2
      rw [ho] at this
      exact this (by simp [hw])
  · intro e he
    have : e = { entry0 .live with owner := some 0, waiters := [1] } := by simpa [busy, claimed] using he
    subst this
    refine ⟨by decide, by decide, by decide, fun h hh => ?_⟩
    have : h = 1 := by simpa using hh
    subst this
    exact ⟨_, rfl, rfl, rfl⟩

theorem busy_copyWaitAgrees : CopyWaitAgrees busy := by
  refine ⟨List.nodup_nil, fun h => ⟨fun hh => by simp [busy, claimed, granted, asking, bind, share, live, holding, State.reset] at hh, ?_⟩⟩
  have none : ∀ g : HeadNo, ((busy.head g).outstanding.any (fun o => decide (o.wait = .copy))) = false := by decide
  rintro ⟨o, ho, hw⟩
  have := none h
  rw [ho] at this
  simp [hw] at this

theorem busy_arbiter : ArbiterInOrder busy := by
  show busy.presents (.hu 0) = true
  decide

theorem busy_directoryExact : DirectoryExact busy := by
  have only : ∀ e ∈ busy.dir, e = { entry0 .live with owner := some 0, waiters := [1] } := by
    intro e he
    simpa [busy, claimed] using he
  refine ⟨by show List.Nodup _; decide, ?_, by show _ ∧ _ ∧ _ ∧ _ ∧ _ ∧ _; decide, ⟨?_, ?_, ?_, ?_, ?_, ?_, ?_, ?_⟩, ?_,
    List.nodup_nil, ?_⟩
  · show List.Perm (0 :: List.range' 1 127) (List.range 128)
    rw [List.range_eq_range']
    exact List.Perm.refl _
  · intro e he
    rw [only e he]
    decide
  · intro k hk
    cases hk
  · intro e he
    rw [only e he]
    exact ⟨fun h => (by cases h), fun hx => (by obtain ⟨_, h, _⟩ := hx; cases h)⟩
  · intro e he
    rw [only e he]
    exact ⟨fun h => (by cases h), fun hx => (by obtain ⟨_, h, _⟩ := hx; cases h)⟩
  · intro job hj
    cases hj
  · intro k hk
    cases hk
  · intro k c d hk
    cases hk
  · intro y hy
    cases hy
  · intro e he _
    rw [only e he]
    exact ⟨by decide +kernel, by decide +kernel, by decide, by decide⟩
  · intro k hk
    cases hk

theorem witness_ClaimBreakReleases :
    (∀ s : State, s.port.unit = none → s.port.overrun = false →
      TakesParameter (withLast .claimBreak [8, 0] (some 0x00) 0x00 s) .claimBreak [8, 0, 0] [] ∧
      TakesParameter (withLast .claimBreak [0, 0] (some 0x00) 0x00 s) .claimBreak [0, 0, 0] []) ∧
    State.reset.entry k0 = none ∧ (∃ e, live.entry k0 = some e ∧ e.owner = none) ∧
    (∃ e, claimed.entry k0 = some e ∧ e.owner = some 0) ∧
    (∃ e, KeysDistinct (sharing (some 0) none none [] [] [k0] []) ∧
      (sharing (some 0) none none [] [] [k0] []).entry k0 = some e ∧ e.waiters = []) ∧
    (∃ e, KeysDistinct claimed ∧ claimed.entry k0 = some e ∧ e.waiters = 1 :: [] ∧ (1 : HeadNo) ≠ 0 ∧
      (claimed.claim 1).slots.length < 2) ∧
    (∃ e, KeysDistinct (sharing (some 0) (some 1) (some 1) [1] [] [k0] [k1, k2]) ∧
      (sharing (some 0) (some 1) (some 1) [1] [] [k0] [k1, k2]).entry k0 = some e ∧ e.waiters = 1 :: [] ∧
      ((sharing (some 0) (some 1) (some 1) [1] [] [k0] [k1, k2]).claim 1).slots = k1 :: k2 :: []) ∧
    (KeysDistinct busy ∧ ClaimsAgree busy ∧ 8 ≤ 9) :=
  ⟨fun _ hu ho => ⟨takes_two _ _ _ _ _ (by decide) hu ho, takes_two _ _ _ _ _ (by decide) hu ho⟩, rfl, ⟨_, rfl, rfl⟩,
    ⟨_, rfl, rfl⟩, ⟨_, keysDistinct_sharing _ _ _ _ _ _ _, rfl, rfl⟩,
    ⟨_, by show List.Nodup _; decide, rfl, rfl, by decide, by decide⟩,
    ⟨_, keysDistinct_sharing _ _ _ _ _ _ _, rfl, rfl, rfl⟩, busy_directoryExact.1, busy_claimsAgree, by decide⟩

theorem witness_ClaimStepDecides :
    (∃ o e, KeysDistinct (asking 2 .probe .inService 0 live) ∧ ((asking 2 .probe .inService 0 live).head 2).outstanding = some o ∧
      (asking 2 .probe .inService 0 live).entry k0 = some e ∧ ((asking 2 .probe .inService 0 live).head 2).state = .unbound) ∧
    (∀ (o0 o1 o2 : Option HeadNo) (c0 : List TileKey), ∃ o e,
      KeysDistinct (asking 0 .probe .inService 0 (sharing o0 o1 o2 [] [] c0 [])) ∧
      ((asking 0 .probe .inService 0 (sharing o0 o1 o2 [] [] c0 [])).head 0).outstanding = some o ∧ o.silent = false ∧
      (asking 0 .probe .inService 0 (sharing o0 o1 o2 [] [] c0 [])).entry k0 = some e ∧ e.owner = o0 ∧
      ((asking 0 .probe .inService 0 (sharing o0 o1 o2 [] [] c0 [])).head 0).state = .active ∧
      ((asking 0 .probe .inService 0 (sharing o0 o1 o2 [] [] c0 [])).claim 0).slots = c0) ∧
    (¬ChainLeads (asking 0 .probe .inService 0 (sharing (some 1) none none [] [] [] [k0])) 0 1) ∧
    ChainLeads (asking 0 .probe .inService 0 (withRecord 1 { HeadUnit.reset with
      state := .active, boundCopy := some 0, outstanding := some
        { req := request .probe 1 0, wait := .claim, key := some k1, orphaned := false, silent := false } }
      (sharing (some 1) (some 0) none [] [1] [k1] [k0]))) 0 1 ∧
    ∃ o : Outstanding, o.silent = true := by
  refine ⟨⟨_, _, by show List.Nodup _; decide, rfl, rfl, rfl⟩, fun o0 o1 o2 c0 => ?_, ?_, ?_,
    { req := request .report 1 0, wait := .inService, key := some k0, orphaned := false, silent := true }, rfl⟩
  · exact ⟨_, _, keysDistinct_sharing o0 o1 o2 [] [] c0 [], rfl, rfl, rfl, rfl, rfl, rfl⟩
  · intro hc
    cases hc with
    | link g o k ho => cases ho
    | next g n o k ho => cases ho
  · exact ChainLeads.link _ _ _ rfl rfl rfl rfl

theorem witness_RequestFramesArrive :
    (State.reset.head 3).outstanding = none ∧
    (∀ w : WaitKind, ∃ o, ((asking 0 .probe w 0 live).head 0).outstanding = some o ∧ o.wait = w ∧
      ((asking 0 .probe w 0 live).head 0).buffer = none) ∧
    (∀ w : Option Outstanding, ((withRecord 0 { HeadUnit.reset with outstanding := w, buffer := some (request .report 1 5) } live).head 0).buffer
        = some (request .report 1 5) ∧
      ((withRecord 0 { HeadUnit.reset with outstanding := w, buffer := some (request .report 1 5) } live).head 0).outstanding = w) :=
  ⟨rfl, fun _ => ⟨_, rfl, rfl, rfl⟩, fun _ => ⟨rfl, rfl⟩⟩

theorem witness_RequestChecksInOrder :
    (State.reset.head 0).state = .unbound ∧ ((bind 0 live).head 0).state ≠ .unbound ∧
    (4095 < ({ request .probe 1 0 with row := 4096 } : Request).row) ∧
    ¬(4095 < ({ request .probe 1 0 with row := 4095, col := 4095 } : Request).row ∨
      4095 < ({ request .probe 1 0 with row := 4095, col := 4095 } : Request).col) ∧
    (∀ kind : RequestKind, (request kind 1 0).kind = kind) ∧
    ((bind 0 live).head 0).boundCopy = some k0.copy ∧ NamesCell 0 0 k0 0 ∧
    NamesCell 4095 4095 { k0 with row := 511, col := 511 } 63 ∧ k0 ∈ (claimed.claim 0).slots ∧ (claimed.head 0).boundCopy = some k0.copy :=
  ⟨rfl, by decide, by decide, by decide, fun _ => rfl, rfl, ⟨rfl, rfl, by decide⟩, ⟨rfl, rfl, by decide⟩, by decide, rfl⟩

theorem witness_DirectoryStepDecides :
    (∀ s : State, ∃ o, ((asking 0 .probe .inService 0 (bind 0 s)).head 0).outstanding = some o ∧
      ((asking 0 .probe .inService 0 (bind 0 s)).head 0).boundCopy = some k0.copy ∧ NamesCell o.req.row o.req.col k0 0) ∧
    State.reset.entry k0 = none ∧
    (∀ state : TileState, ∃ e, (holding (entry0 state) []).entry k0 = some e ∧ e.state = state) ∧
    (live.copy k0.copy).shared = false ∧ ((share live).copy k0.copy).shared = true :=
  ⟨fun s => ⟨{ req := request .probe 0x11 0, wait := .inService, key := some k0, orphaned := false, silent := false },
      by simp [asking, State.head], by simp [asking, bind, State.head]; rfl, rfl, rfl, by decide⟩,
    rfl, fun _ => ⟨_, rfl, rfl⟩, rfl, rfl⟩

theorem witness_LinkResetDrops :
    (State.reset.head 0).outstanding = none ∧
    ∀ (kind : RequestKind) (w : WaitKind), ∃ o, ((asking 0 kind w 5 claimed).head 0).outstanding = some o ∧ o.wait = w ∧
      o.req.kind = kind :=
  ⟨rfl, fun _ _ => ⟨_, rfl, rfl, rfl⟩⟩

/-- Head 0's report on the COPYING tile `k0`, carried on after LINK RESET, holds the grant, and head 0 the claim. -/
def carriedOn : State :=
  { withRecord 0 { (granted 0 .report 5 (bind 0 live)).head 0 with
      outstanding := some { req := request .report 0x11 5, wait := .inService, key := some k0, orphaned := false, silent := true } }
      (granted 0 .report 5 (bind 0 live)) with
    dir := [{ entry0 .copying with ret := some .live, owner := some 0 }]
    claims := Bank.put State.reset.claims 0 { slots := [k0], timer := none } }

theorem test_reportUnit_carried_on_ends_at_copying :
    ((after (.reportUnit 0) carriedOn).head 0).outstanding = none ∧ answers (after (.reportUnit 0) carriedOn) 0 = [] ∧
      (after (.reportUnit 0) carriedOn).engine.waiting = [] ∧ (after (.reportUnit 0) carriedOn).ownerOf k0 = none := by
  decide +kernel

theorem test_grant_goes_round :
    ((withUnit .tileSeal claimed).nextGrant (.hu 0), (withUnit .tileSeal claimed).nextGrant .cp) = (some .cp, some (.hu 0)) := by decide +kernel

theorem witness_HeadUnitRechecks :
    (∀ (kind : RequestKind) (e : Entry), ∃ o, HeadUnitGranted (granted 0 kind 5 (bind 0 (holding e []))) 0 o k0 ∧
      o.silent = false ∧ o.req.kind = kind ∧ o.orphaned = false) ∧
    (∀ e, (granted 0 .probe 0 opened).entry k0 = some e → e.state = .filling) ∧
    (∃ e, (granted 0 .probe 0 (bind 0 (holding (entry0 .copying) []))).entry k0 = some e ∧ e.state = .copying ∧
      ((granted 0 .probe 0 (bind 0 (holding (entry0 .copying) []))).head 0).state ≠ .unbound) ∧
    ((granted 0 .report 5 (holding (entry0 .copying) [])).head 0).state = .unbound ∧
    (∃ e, (granted 0 .probe 0 (bind 0 (share live))).entry k0 = some e ∧ e.state = .live ∧
      ((granted 0 .probe 0 (bind 0 (share live))).copy k0.copy).shared = true ∧ e.owner ≠ some 0) ∧
    (∃ o e, HeadUnitGranted carriedOn 0 o k0 ∧ o.req.kind = .report ∧ o.orphaned = false ∧ o.silent = true ∧
      carriedOn.entry k0 = some e ∧ e.state = .copying) ∧
    claimed.presents (.hu 0) = true ∧ (withUnit .tileSeal claimed).presents .cp = true ∧
    (withUnit .tileSeal claimed).nextGrant .ce = some (.hu 0) ∧ (.hu 0 : Requester) ≠ .cp := by
  refine ⟨fun kind e => ⟨_, ⟨rfl, rfl, rfl, rfl⟩, rfl, rfl, rfl⟩, ?_, ⟨_, rfl, rfl, by decide⟩, rfl, ⟨_, rfl, rfl, rfl, by decide⟩,
    ⟨_, _, ⟨rfl, rfl, rfl, rfl⟩, rfl, rfl, rfl, rfl, rfl⟩, rfl, rfl, rfl, by decide⟩
  intro e he
  cases he
  rfl

theorem bandTakes_reset (s : State) (h : s.bands = State.reset.bands) : BandTakes s 0 0 7 := by
  refine ⟨?_, fun b hb => ?_⟩
  · rw [State.band, h]
    decide
  · exact absurd hb (by revert b; decide)

theorem witness_ProbeUnitAnswers :
    ∀ kind : RequestKind, (∃ o e, HeadUnitGranted (granted 0 kind 25 (bind 0 live)) 0 o k0 ∧ o.req.kind = kind ∧ o.orphaned = false ∧
      (granted 0 kind 25 (bind 0 live)).entry k0 = some e ∧ NamesCell o.req.row o.req.col k0 0 ∧
      BandTakes (granted 0 kind 25 (bind 0 live)) k0.copy o.req.row 7 ∧ e.state = .live ∧
      ((granted 0 kind 25 (bind 0 live)).copy k0.copy).shared = false) ∧
    ∃ o e, HeadUnitGranted claimed 0 o k0 ∧ o.orphaned = false ∧ claimed.entry k0 = some e ∧ NamesCell o.req.row o.req.col k0 0 ∧
      BandTakes claimed k0.copy o.req.row 7 ∧ e.owner = some 0 :=
  fun _ => ⟨⟨_, _, ⟨rfl, rfl, rfl, rfl⟩, rfl, rfl, rfl, ⟨rfl, rfl, by decide⟩, bandTakes_reset _ rfl, rfl, rfl⟩,
    _, _, ⟨rfl, rfl, rfl, rfl⟩, rfl, rfl, ⟨rfl, rfl, by decide⟩, bandTakes_reset _ rfl, rfl⟩

/-- A monitor that is VALID with a last period and a nominal one. -/
def measured (p p0 : Nat) : LoadMonitor := { LoadMonitor.reset with running := true, state := .valid, lastP := p, curP0 := p0 }

theorem witness_ProbeVerdictSteps :
    ((100 : Int) - (98 : Int) ≤ (2 : Int) ∧ ¬((100 : Int) - (97 : Int) ≤ (2 : Int))) ∧
    (0 < (measured 40000 10000).curP0 ∧ (measured 40000 10000).state = .valid ∧ (measured 40000 10000).curP0 < (measured 40000 10000).lastP ∧
      4 * (measured 40000 10000).curP0 ≤ (measured 40000 10000).lastP) ∧
    (¬ 4 * (measured 39999 10000).curP0 ≤ (measured 39999 10000).lastP ∧ 20 = max 1 (80 * (measured 39999 10000).curP0 / (measured 39999 10000).lastP)) ∧
    min (1500 + 20) (classBound .rough { CopyRecord.reset with roughAllow := 40 } (cell 2000 1500)) = 1520 ∧
    min (1500 + 20) (classBound .rough { CopyRecord.reset with roughAllow := 40 } (cell 1530 1500)) ≤ 1500 := by decide +kernel

theorem witness_CutAnswerBounds :
    (1 ≤ BandRecord.reset.stepMax ∧ BandRecord.reset.stepMax ≤ 1023 ∧ (cell 16383 0).target ≤ 16383 ∧ HeadUnit.reset.wear ≤ 262143) ∧
    (probeVerdict false (cell 16383 0) CopyRecord.reset BandRecord.reset HeadUnit.reset LoadMonitor.reset).status = .cut ∧
    (probeVerdict false (cell 5 5) CopyRecord.reset BandRecord.reset HeadUnit.reset LoadMonitor.reset).status ≠ .cut ∧
    ((cell 16383 0).cut + CopyRecord.reset.finishTol < (cell 16383 0).target ∧ LoadMonitor.reset.state ≠ .stalled ∧
      ¬(0 < LoadMonitor.reset.curP0) ∧ (cell 16383 0).cut < min ((cell 16383 0).cut + BandRecord.reset.stepMax) 16383) := by
  decide +kernel

theorem witness_ReportUnitRecords :
    (∀ depth : Nat, ∃ o e, HeadUnitGranted (granted 0 .report depth (bind 0 live)) 0 o k0 ∧ o.req.kind = .report ∧ o.orphaned = false ∧
      (granted 0 .report depth (bind 0 live)).entry k0 = some e ∧ NamesCell o.req.row o.req.col k0 0 ∧
      BandTakes (granted 0 .report depth (bind 0 live)) k0.copy o.req.row 7 ∧ e.state = .live ∧ o.req.depth = depth ∧
      ((granted 0 .report depth (bind 0 live)).copy k0.copy).shared = false ∧
      (granted 0 .report depth (bind 0 live)).store.read (e.slot * 64 + 0) = cell 100 20) ∧
    (20 ≤ (cell 100 20).cut ∧ (cell 100 20).cut < 21 ∧ 100 ≤ classBound .rough CopyRecord.reset (cell 100 20) + 0 ∧
      (cell 100 20).target + 0 < 101 ∧ classBound .rough { CopyRecord.reset with roughAllow := 40 } (cell 100 20) + 0 < 61 ∧
      61 ≤ (cell 100 20).target + 0) ∧
    ∃ e, live.entry k0 = some e :=
  ⟨fun _ => ⟨_, _, ⟨rfl, rfl, rfl, rfl⟩, rfl, rfl, rfl, ⟨rfl, rfl, by decide⟩, bandTakes_reset _ rfl, rfl, rfl, rfl, rfl⟩,
    by decide, _, rfl⟩

theorem busy_headsInOrder : HeadsInOrder busy := by
  intro h
  revert h
  decide

theorem witness_WearGrowsByReports :
    (∃ o e, HeadUnitGranted (granted 0 .report 25 (bind 0 live)) 0 o k0 ∧ o.req.kind = .report ∧ o.orphaned = false ∧
      (granted 0 .report 25 (bind 0 live)).entry k0 = some e ∧ NamesCell o.req.row o.req.col k0 0 ∧
      BandTakes (granted 0 .report 25 (bind 0 live)) k0.copy o.req.row 7 ∧ e.state = .live ∧
      ((granted 0 .report 25 (bind 0 live)).copy k0.copy).shared = false ∧
      exec (.reportUnit 0) (granted 0 .report 25 (bind 0 live)) =
        .next (after (.reportUnit 0) (granted 0 .report 25 (bind 0 live)))) ∧
    HeadsInOrder busy ∧ exec (.probeUnit 0) busy = .next (after (.probeUnit 0) busy) :=
  ⟨⟨_, _, ⟨rfl, rfl, rfl, rfl⟩, rfl, rfl, rfl, ⟨rfl, rfl, by decide⟩, bandTakes_reset _ rfl, rfl, rfl, rfl⟩, busy_headsInOrder, rfl⟩

theorem witness_HoldKeepsRecord :
    HoldInOrder { live with hold := { record := some captured, count := 255 } } ∧
    exec .timeBaseTick { live with hold := { record := some captured, count := 255 } } =
      .next (after .timeBaseTick { live with hold := { record := some captured, count := 255 } }) :=
  ⟨⟨fun h => (by cases h), by decide⟩, rfl⟩

theorem witness_CutNeverFalls :
    DirectoryExact busy ∧ exec (.probeUnit 0) busy = .next (after (.probeUnit 0) busy) ∧
    ∃ e ∈ busy.dir, Entry.settled e = true ∧ ∃ e' ∈ (after (.probeUnit 0) busy).dir, e'.key = e.key :=
  ⟨busy_directoryExact, rfl, _, List.mem_singleton.2 rfl, rfl, by decide⟩

/-- A receiver in BODY with one byte to come. -/
def lastByte (kind sum : Byte) (payload : List Byte) : Receiver :=
  { state := .body, kind := kind, expected := 1, sum := sum, payload := payload, gapRunning := true }

theorem witness_LinkFaultsAndAnswers :
    (State.reset.link 0).rx.state = .hunt ∧ (State.reset.link 0).rx.gapRunning = false ∧ (State.reset.link 0).tx = [] ∧
    (∃ s : State, (s.link 7).rx.state ≠ .hunt ∧ (s.link 7).rx.gapRunning = true) ∧
    Instr.wellFormed (.unknownKind 7 0x04) = true ∧
    ∃ (s : State) (a : Answer), (s.link 7).tx = a :: [plain 0 .badFrame] :=
  ⟨rfl, rfl, rfl, ⟨withLink 7 { Link.reset with rx := lastByte 0x01 0 [] } State.reset, by decide, rfl⟩, by decide,
    withLink 7 { Link.reset with tx := [plain 1 .kept, plain 0 .badFrame] } State.reset, _, rfl⟩

theorem witness_LinkBytesMakeFrames :
    (State.reset.link 0).rx.state = .hunt ∧ (0xC2 : Byte) ≠ 0xC3 ∧
    (∃ s : State, (s.link 0).rx.state = .kind) ∧
    (∀ n, ((0x0F : Byte), n) ∈ ([(0x01, 6), (0x02, 8), (0x03, 6), (0x0F, 1)] : List (Byte × Nat)) ↔ n = 1) ∧
    (0x04 : Byte) ∉ ([0x01, 0x02, 0x03, 0x0F] : List Byte) ∧
    (∃ s : State, (s.link 0).rx.state = .body ∧ 1 < (s.link 0).rx.expected) ∧
    (∀ rx : Receiver, ((withLink 0 { Link.reset with rx := rx } State.reset).link 0).rx = rx) ∧
    (lastByte 0x01 0x30 [0x2A, 0, 3, 0, 2]).sum + 0xD0 = 0 ∧ (lastByte 0x01 0x30 [0x2A, 0, 3, 0, 2]).sum + 0xD1 ≠ 0 ∧
    (lastByte 0x02 0x31 [0x2A, 0, 3, 0, 2, 0, 0]).sum + 0xCF = 0 ∧ (lastByte 0x03 0x32 [0x2A, 0, 3, 0, 2]).sum + 0xCE = 0 ∧
    (lastByte 0x0F 0x0F []).sum + 0xF1 = 0 := by
  refine ⟨rfl, by decide, ⟨withLink 0 { Link.reset with rx := { Receiver.reset with state := .kind } } State.reset, rfl⟩, ?_,
    by decide, ⟨withLink 0 { Link.reset with rx := { lastByte 0x01 1 [] with expected := 2 } } State.reset, rfl, by decide⟩,
    fun _ => rfl, by decide, by decide, by decide, by decide, by decide⟩
  intro n
  simp

/-- Head 1 waits on `k0` with a hold timeout of one hold unit and a running timer. -/
def waiting (n : Nat) : State :=
  { claimed with
    heads := Bank.put claimed.heads 1 { claimed.head 1 with holdTimeout := 1 }
    claims := Bank.put claimed.claims 1 { slots := [], timer := some n } }

theorem witness_TicksCountAndExpire :
    (∃ s : State, (s.monitor 0).running = true ∧ ((s.monitor 0).state ≠ .stalled ∨ (s.monitor 0).opened = true) ∧
      65534 ≤ (s.monitor 0).counter) ∧
    (State.reset.monitor 0).running = false ∧ (State.reset.claim 0).timer = none ∧
    ((waiting 4094).claim 1).timer = some 4094 ∧ 4094 + 1 < ((waiting 4094).head 1).holdTimeout * 4096 ∧
    ∃ o, ((waiting 4095).claim 1).timer = some 4095 ∧ ((waiting 4095).head 1).holdTimeout * 4096 ≤ 4095 + 1 ∧
      ((waiting 4095).head 1).outstanding = some o ∧ o.wait = .claim ∧ o.key = some k0 :=
  ⟨⟨withMonitor 0 { LoadMonitor.reset with running := true, counter := 65534 } State.reset, rfl, Or.inl (by decide), by decide +kernel⟩,
    rfl, rfl, rfl, by decide +kernel, _, rfl, by decide +kernel, rfl, rfl, rfl⟩

/-- A running monitor with an open window of two pulses. -/
def counting (state : MeasureState) (opened : Bool) (counter index : Nat) : State :=
  withMonitor 0 { LoadMonitor.reset with running := true, state := state, opened := opened, counter := counter, index := index, curN := 2 }
    State.reset

theorem witness_IndexPulseMeasures :
    (State.reset.monitor 0).running = false ∧
    (∀ (opened : Bool) (index : Nat), ((counting .arming opened 5 index).monitor 0).running = true ∧
      ((counting .arming opened 5 index).monitor 0).opened = opened ∧ ((counting .arming opened 5 index).monitor 0).index = index ∧
      ((counting .arming opened 5 index).monitor 0).curN = 2) ∧ 0 + 1 < 2 ∧ 2 ≤ 1 + 1 :=
  ⟨rfl, fun _ _ => ⟨rfl, rfl, rfl, rfl⟩, by decide, by decide⟩

theorem witness_PulseAndTickOrders :
    ∀ (state : MeasureState) (opened : Bool) (counter index : Nat), ((counting state opened counter index).monitor 0).running = true ∧
      ((counting state opened counter index).monitor 0).pendFlag = false ∧
      ((counting state opened counter index).monitor 0).counter = counter ∧ ((counting state opened counter index).monitor 0).state = state ∧
      ((counting state opened counter index).monitor 0).opened = opened ∧ ((counting state opened counter index).monitor 0).index = index :=
  fun _ _ _ _ => ⟨rfl, rfl, rfl, rfl, rfl, rfl⟩

theorem busy_steps : step busy = .next (after (.probeUnit 0) { busy with pending := [] }) := rfl

theorem witness_StoreStaysInOrder : StoreCanonical busy ∧ DepthsInRange busy := by
  refine ⟨by show _ = true; decide, by decide, fun u hu => (by cases hu), fun h o ho => ?_, fun h r hr => ?_⟩
  · have all : ∀ g : HeadNo, ((busy.head g).outstanding.all (fun o => decide (o.req.depth = 0))) = true := by decide
    have := all h
    rw [show (busy.head h).outstanding = some o from ho] at this
    have : o.req.depth = 0 := by simpa using this
    omega
  · have all : ∀ g : HeadNo, (busy.head g).buffer.isNone = true := by decide
    have := all h
    rw [show (busy.head h).buffer = some r from hr] at this
    cases this

theorem witness_DirectoryStaysExact : DirectoryExact busy := busy_directoryExact

theorem witness_WaitsAndGrantsStayInOrder :
    DirectoryExact busy ∧ ClaimsAgree busy ∧ CopyWaitAgrees busy ∧ ArbiterInOrder busy :=
  ⟨busy_directoryExact, busy_claimsAgree, busy_copyWaitAgrees, busy_arbiter⟩

theorem witness_RegistersStayInRange : HeadsInOrder busy ∧ SpindlesInOrder busy ∧ HoldInOrder busy ∧ LinksInOrder busy ∧
    TablesInRange busy := by
  refine ⟨busy_headsInOrder, ⟨by decide, fun h => ?_⟩, ⟨fun _ => rfl, by decide⟩, fun h => ?_, ⟨⟨by decide, by decide, by decide, ?_⟩, ?_, ?_⟩⟩
  · have running : ∀ g : HeadNo, (busy.monitor g).running = true ↔ (busy.head g).state ≠ .unbound := by decide
    have either : ∀ g : HeadNo,
        busy.monitor g = LoadMonitor.reset ∨ busy.monitor g = { LoadMonitor.reset with running := true } := by decide
    refine ⟨?_, running h⟩
    rcases either h with e | e <;> rw [e] <;> simp [MonitorInOrder, LoadMonitor.reset]
  · have all : ∀ g : HeadNo, (busy.link g).rx = Receiver.reset := by decide
    show ReceiverInOrder (busy.link h).rx
    rw [all h]
    rfl
  · intro c hc
    cases hc
  · decide
  · decide

end Sys2Proof.Tests
end

section
/-! PROOFS. What becomes of the tiles. All but a few operations keep the key and slot of every entry and every cell
of the Tile Store (`SameTiles`); the host commands that create or remove an entry leave the store and the other
entries alone (`TilesFollow`). -/

namespace Sys2Proof.Machine

/-- What stays with an entry from its creation to its removal (R24): its key and its slot. -/
def Entry.tile (e : Entry) : TileKey × Nat := (e.key, e.slot)

/-- The directory lists the same keys with the same slots, and no cell of the Tile Store has changed. -/
abbrev SameTiles (s t : State) : Prop :=
  t.dir.map Entry.tile = s.dir.map Entry.tile ∧ t.store = s.store

theorem SameTiles.rfl {s : State} : SameTiles s s := ⟨Eq.refl _, Eq.refl _⟩

theorem SameTiles.trans {s t u : State} (first : SameTiles s t) (second : SameTiles t u) : SameTiles s u :=
  ⟨second.1.trans first.1, second.2.trans first.2⟩

theorem SameTiles.symm {s t : State} (same : SameTiles s t) : SameTiles t s := ⟨same.1.symm, same.2.symm⟩

/-- A fold keeps the tiles where each of its steps does. -/
theorem SameTiles.foldl {α : Type} {f : State → α → State} (each : ∀ s a, SameTiles s (f s a)) (l : List α)
    (s : State) : SameTiles s (l.foldl f s) := by
  induction l generalizing s with
  | nil => exact SameTiles.rfl
  | cons a rest ih => exact (each s a).trans (ih (f s a))

/-! ## The shared operations that change entries -/

/-- An entry keeps its tile where the change made to it keeps its key and its slot. -/
theorem State.onEntry_tiles (s : State) (k : TileKey) (f : Entry → Entry)
    (same : ∀ e, (f e).tile = e.tile := by exact fun _ => rfl) :
    (s.onEntry k f).dir.map Entry.tile = s.dir.map Entry.tile := by
  rw [State.onEntry_dir, List.map_map]
  refine List.map_congr_left fun e _ => ?_
  by_cases hk : e.key = k <;> simp [hk, same]

theorem State.onEntry_sameTiles (s : State) (k : TileKey) (f : Entry → Entry)
    (same : ∀ e, (f e).tile = e.tile := by exact fun _ => rfl) : SameTiles s (s.onEntry k f) :=
  ⟨s.onEntry_tiles k f same, s.onEntry_store k f⟩

@[simp] theorem State.dropClaim_tiles (s : State) (g : HeadNo) (k : TileKey) :
    (s.dropClaim g k).dir.map Entry.tile = s.dir.map Entry.tile :=
  s.onEntry_tiles k (fun e => { e with owner := none })

@[simp] theorem State.giveClaim_tiles (s : State) (h : HeadNo) (k : TileKey) :
    (s.giveClaim h k).dir.map Entry.tile = s.dir.map Entry.tile :=
  s.onEntry_tiles k (fun e => { e with owner := some h })

theorem State.setWaiters_tiles (s : State) (k : TileKey) (f : Entry → List HeadNo) :
    (s.onEntry k (fun e => { e with waiters := f e })).dir.map Entry.tile = s.dir.map Entry.tile :=
  s.onEntry_tiles k (fun e => { e with waiters := f e })

@[simp] theorem State.releaseFrom_tiles (n : Nat) (s : State) (g : HeadNo) (k : TileKey) :
    (State.releaseFrom n s g k).dir.map Entry.tile = s.dir.map Entry.tile := by
  induction n generalizing s g k with
  | zero => exact s.dropClaim_tiles g k
  | succ n ih =>
    simp only [State.releaseFrom]
    split
    case h_1 => simp
    case h_2 w rest _ =>
      split <;> simp only [State.proceed_dir, State.giveClaim_tiles, ih, State.stopTimer_dir,
        State.setWaiters_tiles, State.dropClaim_tiles]

@[simp] theorem State.release_tiles (s : State) (g : HeadNo) (k : TileKey) :
    (s.release g k).dir.map Entry.tile = s.dir.map Entry.tile :=
  State.releaseFrom_tiles 8 s g k

@[simp] theorem State.releaseAll_tiles (s : State) (g : HeadNo) (ks : List TileKey) :
    (s.releaseAll g ks).dir.map Entry.tile = s.dir.map Entry.tile :=
  (SameTiles.foldl (fun acc k => ⟨acc.release_tiles g k, acc.release_store g k⟩) ks s).1

@[simp] theorem State.takeClaim_tiles (s : State) (h : HeadNo) (k : TileKey) :
    (s.takeClaim h k).dir.map Entry.tile = s.dir.map Entry.tile := by
  simp only [State.takeClaim, State.giveClaim_tiles]
  split <;> simp

@[simp] theorem State.parkClaim_tiles (s : State) (h : HeadNo) (k : TileKey) :
    (s.parkClaim h k).dir.map Entry.tile = s.dir.map Entry.tile := by
  simp only [State.parkClaim]
  split <;> simp only [State.onClaim_dir, State.setWait_dir, State.setWaiters_tiles]

@[simp] theorem State.claimStep_tiles (s : State) (h : HeadNo) (k : TileKey) :
    (s.claimStep h k).dir.map Entry.tile = s.dir.map Entry.tile := by
  simp only [State.claimStep]
  repeat' split
  all_goals simp

@[simp] theorem State.enterDone_tiles (s : State) (k : TileKey) :
    (s.enterDone k).dir.map Entry.tile = s.dir.map Entry.tile := by
  simp only [State.enterDone, State.serveWaiters_dir, State.setWaiters_tiles]
  split <;> simp

theorem State.enterDone_sameTiles (s : State) (k : TileKey) : SameTiles s (s.enterDone k) :=
  ⟨s.enterDone_tiles k, s.enterDone_store k⟩

/-! ## A head's request on its way -/

@[simp] theorem State.leaveWait_tiles (s : State) (h : HeadNo) :
    (s.leaveWait h).dir.map Entry.tile = s.dir.map Entry.tile := by
  simp only [State.leaveWait]
  repeat' split
  all_goals simp only [State.onEngine_dir, State.stopTimer_dir, State.setWaiters_tiles]

@[simp] theorem State.endParked_tiles (s : State) (h : HeadNo) (status : Status) :
    (s.endParked h status).dir.map Entry.tile = s.dir.map Entry.tile := by
  simp only [State.endParked]
  split <;> simp

@[simp] theorem State.directoryStep_tiles (s : State) (h : HeadNo) :
    (s.directoryStep h).dir.map Entry.tile = s.dir.map Entry.tile := by
  simp only [State.directoryStep]
  repeat' split
  all_goals simp

@[simp] theorem State.checkProbe_tiles (s : State) (h : HeadNo) (r : Request) :
    (s.checkProbe h r).dir.map Entry.tile = s.dir.map Entry.tile := by
  simp only [State.checkProbe]
  repeat' split
  all_goals simp

@[simp] theorem State.checkReport_tiles (s : State) (h : HeadNo) (r : Request) :
    (s.checkReport h r).dir.map Entry.tile = s.dir.map Entry.tile := by
  simp only [State.checkReport]
  repeat' split
  all_goals simp

@[simp] theorem State.checkRelease_tiles (s : State) (h : HeadNo) (r : Request) :
    (s.checkRelease h r).dir.map Entry.tile = s.dir.map Entry.tile := by
  simp only [State.checkRelease, State.serveRelease]
  repeat' split
  all_goals simp

@[simp] theorem State.becomeOutstanding_tiles (s : State) (h : HeadNo) (r : Request) :
    (s.becomeOutstanding h r).dir.map Entry.tile = s.dir.map Entry.tile := by
  simp only [State.becomeOutstanding]
  split <;> simp

@[simp] theorem State.settle_tiles (s : State) (h : HeadNo) :
    (s.settle h).dir.map Entry.tile = s.dir.map Entry.tile := by
  simp only [State.settle]
  repeat' split
  all_goals simp

@[simp] theorem State.requestArrives_tiles (s : State) (h : HeadNo) (r : Request) :
    (s.requestArrives h r).dir.map Entry.tile = s.dir.map Entry.tile := by
  simp only [State.requestArrives]
  repeat' split
  all_goals simp

@[simp] theorem State.leaveStepWait_tiles (s : State) (h : HeadNo) :
    (s.leaveStepWait h).dir.map Entry.tile = s.dir.map Entry.tile := by
  simp [State.leaveStepWait]

/-! ## Time and the links -/

@[simp] theorem State.stallEntry_sameTiles (s : State) (h : HeadNo) : SameTiles s (s.stallEntry h) := by
  simp only [State.stallEntry]
  split <;> simp [SameTiles]

@[simp] theorem State.monitorTick_sameTiles (s : State) (h : HeadNo) : SameTiles s (s.monitorTick h) := by
  simp only [State.monitorTick]
  repeat' split
  all_goals simp [SameTiles]

@[simp] theorem State.holdExpiry_sameTiles (s : State) (h : HeadNo) : SameTiles s (s.holdExpiry h) := by
  simp [SameTiles, State.holdExpiry]

@[simp] theorem State.holdTick_sameTiles (s : State) (h : HeadNo) : SameTiles s (s.holdTick h) := by
  simp only [State.holdTick]
  split <;> simp [SameTiles]

theorem State.tick_sameTiles (s : State) : SameTiles s s.tick :=
  (SameTiles.foldl State.monitorTick_sameTiles allHeads s).trans
    (SameTiles.foldl State.holdTick_sameTiles allHeads _)

theorem State.linkReset_sameTiles (s : State) (h : HeadNo) : SameTiles s (s.linkReset h) := by
  have reset (r : State) : SameTiles r (r.resetOutstanding h) := by
    simp only [State.resetOutstanding]
    repeat' split
    all_goals simp [SameTiles]
  obtain ⟨tiles, store⟩ := reset (s.onHead h (fun hu => { hu with buffer := none }))
  simpa [SameTiles, State.linkReset, store] using tiles

theorem State.badFrame_sameTiles (s : State) (h : HeadNo) : SameTiles s (s.badFrame h) := by
  simp [SameTiles, State.badFrame, State.huntAgain]

theorem State.requestFrame_sameTiles (s : State) (h : HeadNo) (r : Request) :
    SameTiles s ((s.huntAgain h).requestArrives h r) := by
  simp [SameTiles, State.huntAgain]

/-- R152, R153: a good frame is a request, a LINK RESET, or nothing. -/
theorem State.takeFrame_cases (s : State) (h : HeadNo) (kind : Byte) (payload : List Byte) :
    (∃ r, s.takeFrame h kind payload = s.requestArrives h r) ∨ s.takeFrame h kind payload = s.linkReset h ∨
      s.takeFrame h kind payload = s :=
  match payload with
  | [] => .inr (.inl rfl)
  | [_, _, _, _, _] | [_, _, _, _, _, _, _] => .inl ⟨_, rfl⟩
  | [_] | [_, _] | [_, _, _] | [_, _, _, _] | [_, _, _, _, _, _] | _ :: _ :: _ :: _ :: _ :: _ :: _ :: _ :: _ =>
    .inr (.inr rfl)
theorem State.takeFrame_sameTiles (s : State) (h : HeadNo) (kind : Byte) (payload : List Byte) :
    SameTiles s (s.takeFrame h kind payload) := by
  obtain ⟨r, request⟩ | reset | nothing := s.takeFrame_cases h kind payload
  · simp [SameTiles, request]
  · exact reset ▸ s.linkReset_sameTiles h
  · simp only [nothing, SameTiles, and_self]

theorem State.linkByte_sameTiles (s : State) (h : HeadNo) (b : Byte) : SameTiles s (s.linkByte h b) := by
  simp only [State.linkByte]
  split
  case h_1 => split <;> simp [SameTiles]
  case h_2 =>
    simp only [State.kindByte]
    split
    case h_1 => exact s.badFrame_sameTiles h
    case h_2 => simp [SameTiles]
  case h_3 =>
    simp only [State.bodyByte]
    split_ifs
    · simp [SameTiles]
    · exact State.takeFrame_sameTiles (s.huntAgain h) h (s.link h).rx.kind (s.link h).rx.payload
    · exact s.badFrame_sameTiles h

theorem State.losePartial_sameTiles (s : State) (h : HeadNo) : SameTiles s (s.losePartial h) := by
  simp only [State.losePartial, State.huntAgain]
  split <;> simp [SameTiles]

theorem State.gapExpiry_sameTiles (s : State) (h : HeadNo) : SameTiles s (s.gapExpiry h) := by
  simp only [State.gapExpiry]
  split
  · exact s.losePartial_sameTiles h
  · exact SameTiles.rfl

theorem State.answerSent_sameTiles (s : State) (h : HeadNo) : SameTiles s (s.answerSent h) := by
  simp only [State.answerSent]
  split <;> simp [SameTiles]

/-! ## The host commands that create and remove no entry -/

theorem State.storeSetting_sameTiles (s : State) (c : Command) (vals : List Nat) :
    SameTiles s (s.storeSetting c vals) := by
  simp only [State.storeSetting]
  split
  case h_1 => simp only [State.storeTimebase]; split <;> simp [SameTiles]
  case h_2 => simp only [State.storeAttnSetup]; split <;> simp [SameTiles]
  case h_3 =>
    simp only [State.storeCopySetup, State.copySetupSelect, State.copySetupShared]
    repeat' split
    all_goals simp [SameTiles]
  case h_4 =>
    simp only [State.storeBandBounds]
    repeat' split
    all_goals simp [SameTiles]
  case h_5 =>
    simp only [State.storeBandSet]
    repeat' split
    all_goals simp [SameTiles]
  case h_6 =>
    simp only [State.storeWindow]
    repeat' split
    all_goals simp [SameTiles]
  case h_7 =>
    simp only [State.storeStepMode, State.setStepMode]
    repeat' split
    all_goals simp [SameTiles]
  case h_8 => exact SameTiles.rfl

theorem State.unbind_sameTiles (s : State) (h : HeadNo) : SameTiles s (s.unbind h) := by
  have buffer (r : State) : SameTiles r (r.unbindBuffer h) := by
    simp only [State.unbindBuffer]
    split <;> simp [SameTiles]
  obtain ⟨tiles, store⟩ := buffer (s.endParked h .unbound)
  simpa [SameTiles, State.unbind, store] using tiles

/-- R119: a head command keeps the tiles where what it does to a bound head does. -/
theorem State.onBoundHead_sameTiles {f : State → HeadNo → State} (hf : ∀ s h, SameTiles s (f s h)) (s : State)
    (head : Nat) : SameTiles s (s.onBoundHead head f) := by
  simp only [State.onBoundHead]
  repeat' split
  · simp [SameTiles]
  · simp [SameTiles]
  · exact hf s _

theorem State.resultRead_sameTiles (s : State) : SameTiles s s.resultRead := by simp [SameTiles, State.resultRead]

theorem State.statusRead_sameTiles (s : State) : SameTiles s s.statusRead := by simp [SameTiles, State.statusRead]

theorem State.violationRead_sameTiles (s : State) : SameTiles s s.violationRead := by
  simp [SameTiles, State.violationRead]

theorem State.violationClear_sameTiles (s : State) : SameTiles s s.violationClear := by
  simp [SameTiles, State.violationClear]

theorem State.ack_sameTiles (s : State) (mask : Nat) : SameTiles s (s.ack mask) := by simp [SameTiles, State.ack]

theorem State.nextDone_sameTiles (s : State) : SameTiles s s.nextDone := by
  simp only [State.nextDone]
  split <;> simp [SameTiles]

theorem State.tileSeal_sameTiles (s : State) : SameTiles s s.tileSeal := by
  simp only [State.tileSeal]
  split <;> simp [SameTiles]

theorem State.copyQuery_sameTiles (s : State) (copy : Nat) : SameTiles s (s.copyQuery copy) := by
  simp only [State.copyQuery]
  split <;> simp [SameTiles]

theorem State.headQuery_sameTiles (s : State) (head : Nat) : SameTiles s (s.headQuery head) := by
  simp only [State.headQuery]
  split <;> simp [SameTiles]

theorem State.fill_sameTiles (s : State) (depth : Nat) : SameTiles s (s.fill depth) := by
  simp only [State.fill]
  split <;> simp [SameTiles]

theorem State.tileQuery_sameTiles (s : State) (copy row col : Nat) : SameTiles s (s.tileQuery copy row col) := by
  simp only [State.tileQuery]
  repeat' split
  all_goals simp [SameTiles]

theorem State.tileRead_sameTiles (s : State) (copy row col field : Nat) :
    SameTiles s (s.tileRead copy row col field) := by
  simp only [State.tileRead]
  repeat' split
  all_goals simp [SameTiles]

theorem State.tileEdit_sameTiles (s : State) (copy row col cell depth : Nat) :
    SameTiles s (s.tileEdit copy row col cell depth) := by
  simp only [State.tileEdit]
  repeat' split
  all_goals simp [SameTiles]

theorem State.claimBreak_sameTiles (s : State) (copy row col : Nat) : SameTiles s (s.claimBreak copy row col) := by
  simp only [State.claimBreak]
  repeat' split
  all_goals simp [SameTiles]

theorem State.spindleSet_sameTiles (s : State) (head n p0 : Nat) : SameTiles s (s.spindleSet head n p0) := by
  simp only [State.spindleSet]
  repeat' split
  all_goals simp [SameTiles]

theorem State.headBind_sameTiles (s : State) (head copy cls limit n p0 hold : Nat) :
    SameTiles s (s.headBind head copy cls limit n p0 hold) := by
  simp only [State.headBind]
  repeat' split
  all_goals simp [SameTiles]

theorem State.fenceWrite_sameTiles (s : State) (copy row col : Nat) (rows : List Nat) :
    SameTiles s (s.fenceWrite copy row col rows) := by
  simp only [State.fenceWrite]
  repeat' split
  all_goals simp [SameTiles]

theorem State.headUnbind_sameTiles (s : State) (head : Nat) : SameTiles s (s.headUnbind head) := by
  simp only [State.headUnbind]
  split
  case h_1 => simp [SameTiles]
  case h_2 h _ =>
    split
    · simp [SameTiles]
    · exact (s.unbind_sameTiles h).trans (by simp [SameTiles])

theorem State.toolSet_sameTiles (s : State) (head cls limit : Nat) : SameTiles s (s.toolSet head cls limit) :=
  State.onBoundHead_sameTiles (fun s h => by simp [SameTiles]) s head

theorem State.headHalt_sameTiles (s : State) (head : Nat) : SameTiles s (s.headHalt head) :=
  State.onBoundHead_sameTiles (fun s h => by simp [SameTiles]) s head

theorem State.headResume_sameTiles (s : State) (head : Nat) : SameTiles s (s.headResume head) :=
  State.onBoundHead_sameTiles (fun s h => by simp [SameTiles]) s head

theorem State.headStep_sameTiles (s : State) (head : Nat) : SameTiles s (s.headStep head) :=
  State.onBoundHead_sameTiles (fun s h => by split <;> simp [SameTiles]) s head

/-! ## The host commands that create or remove an entry (R24, R27, R36, R39, R58) -/

/-- The Tile Store is as it was, and every entry either stands as it stood, with its slot, or has a key that no
entry had. -/
def TilesFollow (s t : State) : Prop :=
  t.store = s.store ∧
    ∀ p ∈ t.dir.map Entry.tile, p ∈ s.dir.map Entry.tile ∨ ∀ e ∈ s.dir, e.key ≠ p.1

theorem SameTiles.follow {s t : State} (same : SameTiles s t) : TilesFollow s t :=
  ⟨same.2, fun _ hp => .inl (same.1 ▸ hp)⟩

/-- Whether a key is new to a directory can be read off its tiles. -/
theorem SameTiles.keys_ne {s t : State} (same : SameTiles s t) {k : TileKey} (fresh : ∀ e ∈ t.dir, e.key ≠ k) :
    ∀ e ∈ s.dir, e.key ≠ k := by
  intro e he
  have listed : e.tile ∈ t.dir.map Entry.tile := same.1 ▸ List.mem_map_of_mem he
  obtain ⟨d, hd, hde⟩ := List.mem_map.1 listed
  have sameKey : d.key = e.key := congrArg Prod.fst hde
  exact sameKey ▸ fresh d hd

theorem TilesFollow.after {s t u : State} (second : TilesFollow t u) (first : SameTiles s t) : TilesFollow s u :=
  ⟨second.1.trans first.2, fun p hp =>
    (second.2 p hp).imp (fun stands => first.1 ▸ stands) first.keys_ne⟩

theorem TilesFollow.andThen {s t u : State} (first : TilesFollow s t) (second : SameTiles t u) : TilesFollow s u :=
  ⟨second.2.trans first.1, fun p hp => first.2 p (second.1 ▸ hp)⟩

/-- R23: a key without an entry is the key of none. -/
theorem State.entry_eq_none {s : State} {k : TileKey} : s.entry k = none ↔ ∀ e ∈ s.dir, e.key ≠ k := by
  simp [State.entry, List.find?_eq_none]

/-- R23: the entry with a key is in the directory and has that key. -/
theorem State.entry_eq_some {s : State} {k : TileKey} {e : Entry} (he : s.entry k = some e) :
    e ∈ s.dir ∧ e.key = k :=
  ⟨List.mem_of_find?_eq_some he, by simpa using List.find?_some he⟩

/-- R24: a creation adds one entry, of a key that had none. -/
theorem State.createEntry_tilesFollow {s : State} {k : TileKey} (free : s.entry k = none) (state : TileState) :
    TilesFollow s (s.createEntry k state) := by
  refine ⟨s.createEntry_store k state, fun p hp => ?_⟩
  simp only [State.createEntry] at hp
  split at hp
  case h_1 => exact .inl hp
  case h_2 slot _ _ =>
    rw [List.map_append, List.mem_append] at hp
    refine hp.imp_right fun created => ?_
    obtain rfl : p = (k, slot) := by simpa [Entry.fresh, Entry.tile] using created
    exact State.entry_eq_none.1 free

/-- R24: a removal adds no entry. -/
theorem State.removeEntry_tilesFollow (s : State) (k : TileKey) : TilesFollow s (s.removeEntry k) := by
  refine ⟨s.removeEntry_store k, fun p hp => .inl ?_⟩
  simp only [State.removeEntry] at hp
  split at hp
  case h_1 => exact hp
  case h_2 => exact (List.eraseP_sublist.map Entry.tile).subset hp

theorem State.tileOpen_tilesFollow (s : State) (copy row col : Nat) : TilesFollow s (s.tileOpen copy row col) := by
  simp only [State.tileOpen]
  split
  case h_1 => exact SameTiles.follow (by simp [SameTiles])
  case h_2 k _ =>
    split_ifs with _ present
    · exact SameTiles.follow (by simp [SameTiles])
    · exact SameTiles.follow (by simp [SameTiles])
    · exact SameTiles.follow (by simp [SameTiles])
    · have free : s.entry k = none := by simpa using present
      exact (State.createEntry_tilesFollow free .filling).andThen (by simp [SameTiles])

theorem State.tileRetire_tilesFollow (s : State) (copy row col abandon : Nat) :
    TilesFollow s (s.tileRetire copy row col abandon) := by
  have refused (r : ResultCode) : TilesFollow s (s.refuse r) := SameTiles.follow (by simp [SameTiles])
  simp only [State.tileRetire]
  split
  case h_1 => exact refused _
  case h_2 k _ =>
    have removed := s.removeEntry_tilesFollow k
    split
    case h_1 => exact refused _
    case h_2 =>
      split
      case h_1 => exact refused _
      case h_2 => exact removed.andThen (by simp [SameTiles])
      case h_3 =>
        split_ifs
        · exact refused _
        · exact refused _
        · exact removed.andThen (by simp [SameTiles])
      case h_4 => exact removed.andThen (by simp [SameTiles])

theorem State.acceptDuplicate_tilesFollow {s : State} (src : TileKey) {dst : TileKey} (free : s.entry dst = none) :
    TilesFollow s (s.acceptDuplicate src dst) := by
  simp only [State.acceptDuplicate]
  generalize hm : s.onEntry src _ = marked
  have source : SameTiles s marked := hm ▸ s.onEntry_sameTiles src _
  have free' : marked.entry dst = none := State.entry_eq_none.2 (source.symm.keys_ne (State.entry_eq_none.1 free))
  exact ((State.createEntry_tilesFollow free' .copying).after source).andThen (by simp [SameTiles])

theorem State.tileDuplicate_tilesFollow (s : State) (copy row col destCopy : Nat) :
    TilesFollow s (s.tileDuplicate copy row col destCopy) := by
  have refused (r : ResultCode) : TilesFollow s (s.refuse r) := SameTiles.follow (by simp [SameTiles])
  simp only [State.tileDuplicate]
  split
  case h_1 src y _ _ =>
    split
    case h_1 => exact refused _
    case h_2 =>
      split_ifs with _ _ present
      · exact refused _
      · exact refused _
      · exact refused _
      · exact refused _
      · have free : s.entry { src with copy := y } = none := by simpa using present
        exact State.acceptDuplicate_tilesFollow src free
  case h_2 => exact refused _

theorem State.cancelWaits_sameTiles (s : State) (h : HeadNo) : SameTiles s (s.cancelWaits h) := by
  simp only [State.cancelWaits]
  repeat' split
  all_goals simp [SameTiles]

/-- R39: CLEAR WORK leaves no entry. -/
theorem State.clearWork_tilesFollow (s : State) : TilesFollow s s.clearWork := by
  simp only [State.clearWork]
  generalize hc : State.withdraw _ _ = cleared
  have cancelled := SameTiles.foldl State.cancelWaits_sameTiles allHeads cleared
  have empty : TilesFollow s cleared := by
    subst hc
    exact ⟨by simp, by simp⟩
  exact empty.andThen (cancelled.trans (by simp [SameTiles]))

/-! ## The decoder's step -/

theorem State.act_tilesFollow (s : State) (c : Command) (vals : List Nat) : TilesFollow s (s.act c vals) := by
  simp only [State.act]
  split
  exacts [s.resultRead_sameTiles.follow, s.statusRead_sameTiles.follow, (s.ack_sameTiles _).follow,
    s.clearWork_tilesFollow, (s.copyQuery_sameTiles _).follow, (s.headBind_sameTiles _ _ _ _ _ _ _).follow,
    (s.headUnbind_sameTiles _).follow, (s.toolSet_sameTiles _ _ _).follow, (s.spindleSet_sameTiles _ _ _).follow,
    (s.headHalt_sameTiles _).follow, (s.headResume_sameTiles _).follow, (s.headStep_sameTiles _).follow,
    (s.headQuery_sameTiles _).follow, s.tileOpen_tilesFollow _ _ _, (s.fill_sameTiles _).follow,
    s.tileSeal_sameTiles.follow, (s.fenceWrite_sameTiles _ _ _ _).follow, (s.tileEdit_sameTiles _ _ _ _ _).follow,
    s.tileRetire_tilesFollow _ _ _ _, s.tileDuplicate_tilesFollow _ _ _ _, (s.claimBreak_sameTiles _ _ _).follow,
    (s.tileQuery_sameTiles _ _ _).follow, (s.tileRead_sameTiles _ _ _ _).follow, s.nextDone_sameTiles.follow,
    s.violationRead_sameTiles.follow, s.violationClear_sameTiles.follow, SameTiles.rfl.follow]

theorem State.streamValue_sameTiles (s : State) (c : Command) (v : Nat) : SameTiles s (s.streamValue c v) := by
  simp only [State.streamValue]
  split <;> simp [SameTiles]

@[simp] theorem State.endCommand_sameTiles (s : State) : SameTiles s s.endCommand := by
  simp only [State.endCommand]
  repeat' split
  all_goals simp [SameTiles]

@[simp] theorem State.beginCommand_sameTiles (s : State) (cur : Current) (phase : Phase) (followed : Bool) :
    SameTiles s (s.beginCommand cur phase followed) := by
  simp [SameTiles, State.beginCommand]

theorem State.takeCommand_tilesFollow (s : State) (code : Byte) (followed : Bool) :
    TilesFollow s (s.takeCommand code followed) := by
  have begun (cur : Current) (phase : Phase) : SameTiles s (s.endCommand.beginCommand cur phase followed) := by
    simp [SameTiles]
  simp only [State.takeCommand]
  split
  case h_1 => exact SameTiles.follow (by simp [SameTiles])
  case h_2 c _ =>
    split_ifs
    · have started (r : State) : SameTiles r r.startStream := by
        simp only [State.startStream]
        split <;> simp [SameTiles]
      exact ((begun _ _).trans (started _)).follow
    · exact (State.act_tilesFollow _ c []).after (begun _ _)
    · exact (begun _ _).follow

theorem State.takeValue_tilesFollow (s : State) (c : Command) (v : Nat) : TilesFollow s (s.takeValue c v) := by
  have onPort (f : Port → Port) : SameTiles s (s.onPort f) := by simp [SameTiles]
  have acts (f : Port → Port) (vals : List Nat) : TilesFollow s ((s.onPort f).act c vals) :=
    (State.act_tilesFollow _ c vals).after (onPort f)
  have stores (f : Port → Port) (vals : List Nat) : SameTiles s ((s.onPort f).storeSetting c vals) :=
    (onPort f).trans (State.storeSetting_sameTiles _ c vals)
  have completes (r : State) : SameTiles r r.completeSetting := by
    simp only [State.completeSetting]
    split <;> simp [SameTiles]
  simp only [State.takeValue]
  split
  case h_1 => exact ((onPort _).trans (State.streamValue_sameTiles _ c v)).follow
  case h_2 =>
    split_ifs
    · exact ((stores _ _).trans (completes _)).follow
    · exact (stores _ _).follow
  case h_3 =>
    split_ifs
    · exact acts _ _
    · exact (onPort _).follow
  case h_4 =>
    split_ifs
    · exact acts _ _
    · exact (onPort _).follow

theorem State.takeParameter_tilesFollow (s : State) (b : Byte) : TilesFollow s (s.takeParameter b) := by
  simp only [State.takeParameter]
  split
  case h_1 c _ _ =>
    split_ifs
    · split
      · exact SameTiles.follow (by simp [SameTiles])
      · exact s.takeValue_tilesFollow c _
    · exact s.takeValue_tilesFollow c _
  case h_2 => exact SameTiles.rfl.follow

theorem State.treatOverrun_sameTiles (s : State) : SameTiles s s.treatOverrun := by
  simp only [State.treatOverrun]
  split <;> simp [SameTiles]

/-- R162: whatever byte the decoder takes, the Tile Store stays and no entry's slot changes. -/
theorem State.decoderStep_tilesFollow (s : State) (own : IntakeByte → Bool) :
    TilesFollow s (s.decoderStep own) := by
  simp only [State.decoderStep]
  split
  case h_1 b rest _ _ =>
    split_ifs
    · have treated : SameTiles s (s.onPort (fun p => { p with intake := rest })).treatOverrun :=
        State.treatOverrun_sameTiles _
      simp only [State.decodeByte]
      split
      · exact (State.takeCommand_tilesFollow _ _ _).after treated
      · exact (State.takeParameter_tilesFollow _ _).after treated
    · exact SameTiles.rfl.follow
  case h_2 => exact SameTiles.rfl.follow

end Sys2Proof.Machine
end

section
/-! PROOFS. R18: no step lowers a cut of a settled tile. A store unit lets no cut fall anywhere in the Tile Store,
or writes only into the slot of an entry that is not settled: the open tile, or the destination of a duplication. -/

namespace Sys2Proof.Machine

open Sys2Proof.Safety

/-! ## Slots of settled entries -/

/-- R24: two entries of which one alone is settled have different slots. -/
theorem slot_ne_of_settled {s : State} (dirExact : DirectoryExact s) {e d : Entry} (he : e ∈ s.dir) (hd : d ∈ s.dir)
    (settled : Entry.settled e = true) (unsettled : Entry.settled d = false) : e.slot ≠ d.slot := by
  obtain ⟨_, slots, _⟩ := dirExact
  have distinct : (s.dir.map (fun x => x.slot)).Nodup :=
    (List.nodup_append.1 (slots.symm.nodup List.nodup_range)).1
  intro same
  have : e = d := List.inj_on_of_nodup_map distinct he hd same
  simp [this, unsettled] at settled

/-- R41: the open tile's entry is not settled. -/
theorem not_settled_of_open {s : State} (dirExact : DirectoryExact s) {k : TileKey} {d : Entry}
    (isOpen : s.load.openTile = some k) (entry : s.entry k = some d) : Entry.settled d = false := by
  obtain ⟨_, _, _, ⟨filling, _⟩, _⟩ := dirExact
  obtain ⟨hd, hk⟩ := State.entry_eq_some entry
  simp [Entry.settled, (filling d hd).2 (hk ▸ isOpen)]

/-- R56: the destination of a duplication is not settled. -/
theorem not_settled_of_dest {s : State} (dirExact : DirectoryExact s) {job : CopyJob} {d : Entry}
    (busy : s.engine.job = some job) (entry : s.entry job.dest = some d) : Entry.settled d = false := by
  obtain ⟨_, _, _, ⟨_, _, copying, returns, jobs, _⟩, _⟩ := dirExact
  obtain ⟨hd, hk⟩ := State.entry_eq_some entry
  obtain ⟨_, _, differ, _⟩ := jobs job busy
  have state : d.state = .copying := (copying d hd).2 ⟨job, busy, .inr hk⟩
  have noReturn : d.ret.isSome = false := by
    rw [Bool.eq_false_iff]
    intro isSource
    obtain ⟨job', busy', source⟩ := (returns d hd).1 isSource
    obtain rfl : job = job' := Option.some.inj (busy.symm.trans busy')
    exact differ (source.symm.trans hk)
  simp [Entry.settled, state, noReturn]

/-! ## What a store unit does to the cuts -/

/-- R18: no cut of a settled entry's tile has fallen. -/
def SettledCutsRise (s t : State) : Prop :=
  ∀ e ∈ s.dir, Entry.settled e = true → ∀ i < 64,
    (s.store.read (cellAddr e.slot i)).cut ≤ (t.store.read (cellAddr e.slot i)).cut

/-- What a store unit does to the tiles: every entry keeps its key and slot, and no settled cut falls. -/
def UnitKeeps (s t : State) : Prop := t.dir.map Entry.tile = s.dir.map Entry.tile ∧ SettledCutsRise s t

theorem SameTiles.unitKeeps {s t : State} (same : SameTiles s t) : UnitKeeps s t :=
  ⟨same.1, fun _ _ _ _ _ => by rw [same.2]⟩

theorem UnitKeeps.andThen {s t u : State} (first : UnitKeeps s t) (second : SameTiles t u) : UnitKeeps s u :=
  ⟨second.1.trans first.1, fun e he settled i hi => second.2 ▸ first.2 e he settled i hi⟩

theorem cellIndices_nodup : cellIndices.Nodup := List.nodup_range

/-- The cells of different slots have different addresses (R17). -/
theorem cellAddr_ne {slot slot' c c' : Nat} (differ : slot ≠ slot') (hc : c < 64) (hc' : c' < 64) :
    cellAddr slot c ≠ cellAddr slot' c' := by
  simp only [cellAddr, Config.cellsPerTile]
  omega

/-- Writing a cell that is cut no less deep lets no cut fall. -/
theorem State.onCell_unitKeeps (s : State) (e : Entry) (c : Nat) (f : Cell → Cell)
    (deeper : (s.cell e c).cut ≤ (f (s.cell e c)).cut) : UnitKeeps s (s.onCell e c f) := by
  refine ⟨by rw [State.onCell_dir], fun d _ _ i _ => ?_⟩
  rw [State.onCell_store, Memory.read_write]
  split
  case isTrue here => exact here ▸ deeper
  case isFalse => exact le_rfl

/-- Changing cells without a touch on their cuts lets no cut fall. -/
theorem State.onCells_unitKeeps (s : State) (e : Entry) (cells : List Nat) (distinct : cells.Nodup)
    (f : Nat → Cell → Cell) (same : ∀ i c, (f i c).cut = c.cut) : UnitKeeps s (s.onCells e cells f) := by
  refine ⟨by rw [State.onCells_dir], fun d _ _ i _ => ?_⟩
  rw [State.onCells_store, Memory.read_updateCells _ _ _ _ distinct]
  split
  · exact (same _ _).ge
  · exact le_rfl

/-- A write into the slot of an entry that is not settled leaves the settled tiles alone. -/
theorem State.onCell_unitKeeps_of_not_settled {s : State} (dirExact : DirectoryExact s) {d : Entry} (hd : d ∈ s.dir)
    (unsettled : Entry.settled d = false) {c : Nat} (hc : c < 64) (f : Cell → Cell) :
    UnitKeeps s (s.onCell d c f) := by
  refine ⟨by rw [State.onCell_dir], fun e he settled i hi => ?_⟩
  have differ := cellAddr_ne (slot_ne_of_settled dirExact he hd settled unsettled) hi hc
  rw [State.onCell_store, Memory.read_write_other _ _ _ _ differ]

/-- Writes into the slot of an entry that is not settled leave the settled tiles alone. -/
theorem State.onCells_unitKeeps_of_not_settled {s : State} (dirExact : DirectoryExact s) {d : Entry} (hd : d ∈ s.dir)
    (unsettled : Entry.settled d = false) (f : Nat → Cell → Cell) :
    UnitKeeps s (s.onCells d cellIndices f) := by
  refine ⟨by rw [State.onCells_dir], fun e he settled i hi => ?_⟩
  have outside : cellIndices.find? (fun c => decide (cellAddr d.slot c = cellAddr e.slot i)) = none := by
    rw [List.find?_eq_none]
    intro c hc
    have inTile : c < 64 := List.mem_range.1 hc
    simpa using (cellAddr_ne (slot_ne_of_settled dirExact he hd settled unsettled) hi inTile).symm
  rw [State.onCells_store, Memory.read_updateCells _ _ _ _ cellIndices_nodup, outside]

/-! ## The store units of the Command Port -/

theorem State.accept_sameTiles (s : State) : SameTiles s s.accept := by simp [SameTiles]

theorem State.closeTile_sameTiles (s : State) : SameTiles s s.closeTile := by simp [SameTiles]

theorem State.tileOpenUnit_unitKeeps {s : State} (dirExact : DirectoryExact s) {k : TileKey}
    (unit : s.port.unit = some (.tileOpen k)) : UnitKeeps s (s.tileOpenUnit k) := by
  have isOpen : s.load.openTile = some k := by
    obtain ⟨_, _, _, ⟨_, _, _, _, _, opening, _⟩, _⟩ := dirExact
    exact opening k unit
  simp only [State.tileOpenUnit]
  split
  case h_1 => exact SameTiles.rfl.unitKeeps
  case h_2 d hd =>
    have blanked := State.onCells_unitKeeps_of_not_settled dirExact (State.entry_eq_some hd).1
      (not_settled_of_open dirExact isOpen hd) (fun _ _ => Cell.blank)
    exact blanked.andThen (by simp [SameTiles])

theorem State.streamUnit_unitKeeps {s : State} (dirExact : DirectoryExact s) (f : Cell → Cell) :
    UnitKeeps s (s.streamUnit f) := by
  have inTile : s.load.pointer < 64 := by
    obtain ⟨_, _, ⟨_, hRow, hLastRow, _, hCol, hLastCol⟩, _⟩ := dirExact
    simp only [LoadUnit.pointer]
    omega
  simp only [State.streamUnit]
  split
  case h_1 => exact SameTiles.rfl.unitKeeps
  case h_2 d hd =>
    obtain ⟨k, isOpen, entry⟩ := Option.bind_eq_some_iff.1 hd
    have written := State.onCell_unitKeeps_of_not_settled dirExact (State.entry_eq_some entry).1
      (not_settled_of_open dirExact isOpen entry) inTile f
    exact written.andThen (by simp [SameTiles])

theorem State.fillUnit_unitKeeps (s : State) (depth : Nat) : UnitKeeps s (s.fillUnit depth) := by
  simp only [State.fillUnit]
  split
  case h_1 => exact SameTiles.rfl.unitKeeps
  case h_2 d _ =>
    have filled := s.onCells_unitKeeps d _ (cellIndices_nodup.filter s.load.inWindow)
      (fun _ c => { c with target := depth }) (fun _ _ => rfl)
    exact filled.andThen (by simp [SameTiles])

theorem State.tileSealUnit_unitKeeps (s : State) : UnitKeeps s s.tileSealUnit := by
  simp only [State.tileSealUnit]
  split
  case h_1 => exact SameTiles.rfl.unitKeeps
  case h_2 k _ =>
    split
    case h_1 => exact SameTiles.rfl.unitKeeps
    case h_2 d _ =>
      have sealed := s.onCells_unitKeeps d _ cellIndices_nodup (fun _ c => c.sealed (s.copy k.copy).overTol)
        (fun _ _ => rfl)
      generalize s.onCells d cellIndices _ = marked at *
      have closed (state : TileState) (remaining overcut : Nat) :=
        (sealed.andThen (marked.onEntry_sameTiles k (fun x => { x with state, remaining, overcut }))).andThen
          (State.closeTile_sameTiles _)
      split_ifs
      · exact ((closed _ _ _).andThen (State.enterDone_sameTiles _ k)).andThen (State.accept_sameTiles _)
      · exact (closed _ _ _).andThen (State.accept_sameTiles _)

theorem State.fenceWriteUnit_unitKeeps (s : State) (k : TileKey) (rows : List Nat) :
    UnitKeeps s (s.fenceWriteUnit k rows) := by
  have refused (r : ResultCode) : UnitKeeps s (s.refuse r) := SameTiles.unitKeeps (by simp [SameTiles])
  simp only [State.fenceWriteUnit]
  split
  case h_1 => exact refused _
  case h_2 d _ =>
    split_ifs
    · exact refused _
    · have fenced := s.onCells_unitKeeps d _ cellIndices_nodup (fun i c => { c with fence := fenceBit rows i })
        (fun _ _ => rfl)
      exact fenced.andThen (by simp [SameTiles])

theorem State.followCount_sameTiles (s : State) (k : TileKey) : SameTiles s (s.followCount k) := by
  have restated (state : TileState) : SameTiles s (s.onEntry k (fun x => { x with state := state })) :=
    s.onEntry_sameTiles k _
  simp only [State.followCount]
  split
  case h_1 => exact SameTiles.rfl
  case h_2 =>
    split_ifs
    · exact (restated _).trans (State.enterDone_sameTiles _ k)
    · exact (restated _).trans ⟨rfl, rfl⟩
    · exact SameTiles.rfl

theorem State.tileEditUnit_unitKeeps (s : State) (k : TileKey) (cell depth : Nat) :
    UnitKeeps s (s.tileEditUnit k cell depth) := by
  have refused (r : ResultCode) : UnitKeeps s (s.refuse r) := SameTiles.unitKeeps (by simp [SameTiles])
  simp only [State.tileEditUnit]
  split
  case h_1 => exact refused _
  case h_2 d _ =>
    split_ifs
    · exact refused _
    · exact refused _
    · have edited := s.onCell_unitKeeps d cell (fun _ => { s.cell d cell with target := depth, overcut := false })
        le_rfl
      exact ((edited.andThen (State.onEntry_sameTiles _ k _)).andThen (State.followCount_sameTiles _ k)).andThen
        (State.accept_sameTiles _)

theorem State.tileReadUnit_sameTiles (s : State) (k : TileKey) (field : Nat) :
    SameTiles s (s.tileReadUnit k field) := by
  simp only [State.tileReadUnit]
  repeat' split
  all_goals simp [SameTiles]

/-- What the Command Port's unit does before it ends, whichever unit it is (R20). -/
def State.runUnit (s : State) (u : PortUnit) : State :=
  match u with
  | .tileOpen k => s.tileOpenUnit k
  | .targetValue d => s.streamUnit (fun c => { c with target := d })
  | .cutValue d => s.streamUnit (fun c => { c with cut := d })
  | .fill d => s.fillUnit d
  | .tileSeal => s.tileSealUnit
  | .fenceWrite k rows => s.fenceWriteUnit k rows
  | .tileEdit k c d => s.tileEditUnit k c d
  | .tileRead k f => s.tileReadUnit k f

theorem State.runUnit_unitKeeps {s : State} (dirExact : DirectoryExact s) {u : PortUnit} (unit : s.port.unit = some u) :
    UnitKeeps s (s.runUnit u) := by
  cases u with
  | tileOpen k => exact State.tileOpenUnit_unitKeeps dirExact unit
  | targetValue d => exact State.streamUnit_unitKeeps dirExact _
  | cutValue d => exact State.streamUnit_unitKeeps dirExact _
  | fill d => exact s.fillUnit_unitKeeps d
  | tileSeal => exact s.tileSealUnit_unitKeeps
  | fenceWrite k rows => exact s.fenceWriteUnit_unitKeeps k rows
  | tileEdit k c d => exact s.tileEditUnit_unitKeeps k c d
  | tileRead k f => exact (s.tileReadUnit_sameTiles k f).unitKeeps

/-- R20: a row that runs some of the port's units keeps what these keep. -/
theorem State.portUnitStep_unitKeeps {s : State} (dirExact : DirectoryExact s) {run : PortUnit → Option State}
    (runs : ∀ u s', run u = some s' → s' = s.runUnit u) : UnitKeeps s (s.portUnitStep run) := by
  simp only [State.portUnitStep]
  split
  case h_1 u _ unit =>
    split
    case h_1 s' ran =>
      obtain rfl := runs u s' ran
      exact (State.runUnit_unitKeeps dirExact unit).andThen (by simp [SameTiles])
    case h_2 => exact SameTiles.rfl.unitKeeps
  case h_2 => exact SameTiles.rfl.unitKeeps

/-! ## The store units of the heads -/

theorem State.finishIfNone_sameTiles (s : State) (k : TileKey) : SameTiles s (s.finishIfNone k) := by
  simp only [State.finishIfNone]
  split
  case h_1 => exact SameTiles.rfl
  case h_2 =>
    split_ifs
    · exact (s.onEntry_sameTiles k _).trans (State.enterDone_sameTiles _ k)
    · exact SameTiles.rfl

theorem State.growWear_sameTiles (s : State) (h : HeadNo) (removed k : Nat) :
    SameTiles s (s.growWear h removed k) := by
  simp only [State.growWear]
  split <;> simp [SameTiles]

theorem State.violation_sameTiles (s : State) (v : Violation) (h : HeadNo) :
    SameTiles s ((s.noteViolation v).onHead h HeadUnit.haltByViolation) := by
  simp only [State.noteViolation]
  split <;> simp [SameTiles]

/-- R86 to R90: what a recorded report does beside its cell keeps every tile. -/
theorem UnitKeeps.andThenCounts {s t : State} (written : UnitKeeps s t) (h : HeadNo) (removed rate : Nat)
    (k : TileKey) (old new : Cell) (finishTol : Nat) :
    UnitKeeps s (((t.growWear h removed rate).onEntry k (fun x => x.countReport old new finishTol)).finishIfNone k) :=
  ((written.andThen (t.growWear_sameTiles h removed rate)).andThen (State.onEntry_sameTiles _ k _)).andThen
    (State.finishIfNone_sameTiles _ k)

/-- R86: recording a report that reaches at least as deep as its cell's cut lets no cut fall. -/
theorem State.record_unitKeeps (s : State) (h : HeadNo) (o : Outstanding) (e : Entry)
    (deeper : (s.cell e (cellIndex o.req.row o.req.col)).cut ≤ o.req.depth) : UnitKeeps s (s.record h o e) := by
  have written := s.onCell_unitKeeps e (cellIndex o.req.row o.req.col)
    (fun _ => (s.cell e (cellIndex o.req.row o.req.col)).recorded o.req.depth (s.copy e.key.copy).overTol) deeper
  simp only [State.record]
  split
  case h_1 => exact written.andThenCounts h _ _ e.key _ _ _
  case h_2 =>
    exact (written.andThenCounts h _ _ e.key _ _ _).andThen (State.violation_sameTiles _ _ h)

theorem State.serveReport_unitKeeps (s : State) (h : HeadNo) (o : Outstanding) (e : Entry) :
    UnitKeeps s (s.serveReport h o e) := by
  simp only [State.serveReport]
  split_ifs with kept
  · exact SameTiles.unitKeeps (by simp [SameTiles])
  · have recorded := s.record_unitKeeps h o e (by omega)
    split
    · exact recorded.andThen (by simp [SameTiles])
    · exact recorded.andThen (by simp [SameTiles])

theorem State.serveProbe_unitKeeps (s : State) (h : HeadNo) (o : Outstanding) (e : Entry) :
    UnitKeeps s (s.serveProbe h o e) := by
  simp only [State.serveProbe]
  split <;> exact SameTiles.unitKeeps (by simp [SameTiles])

/-- R26: a unit's re-check keeps what the service of its request keeps. -/
theorem State.recheck_unitKeeps (s : State) (h : HeadNo) (o : Outstanding) (k : TileKey)
    {serve : State → HeadNo → Outstanding → Entry → State} (served : ∀ e, UnitKeeps s (serve s h o e)) :
    UnitKeeps s (s.recheck h o k serve) := by
  simp only [State.recheck, State.meetCopying]
  split
  case h_1 => exact SameTiles.unitKeeps (by simp [SameTiles])
  case h_2 e _ =>
    split_ifs
    · exact SameTiles.unitKeeps (by simp [SameTiles])
    · exact SameTiles.unitKeeps (by simp [SameTiles])
    · exact SameTiles.unitKeeps (by simp [SameTiles])
    · exact served e

theorem State.probeUnit_unitKeeps (s : State) (h : HeadNo) (o : Outstanding) (k : TileKey) :
    UnitKeeps s (s.probeUnit h o k) :=
  (s.recheck_unitKeeps h o k (s.serveProbe_unitKeeps h o)).andThen (by simp [SameTiles, State.probeUnit])

theorem State.releaseCarriedOn_sameTiles (s : State) (h : HeadNo) (o : Outstanding) (k : TileKey) :
    SameTiles s (s.releaseCarriedOn h o k) := by
  simp only [State.releaseCarriedOn]
  split <;> simp [SameTiles]

theorem State.reportUnit_unitKeeps (s : State) (h : HeadNo) (o : Outstanding) (k : TileKey) :
    UnitKeeps s (s.reportUnit h o k) := by
  have checked := s.recheck_unitKeeps h o k (s.serveReport_unitKeeps h o)
  exact (checked.andThen (State.releaseCarriedOn_sameTiles _ h o k)).andThen (by simp [SameTiles, State.reportUnit])

/-- R20: a head's step keeps what its unit keeps. -/
theorem State.headUnitStep_unitKeeps (s : State) (h : HeadNo) (kind : RequestKind)
    {run : State → HeadNo → Outstanding → TileKey → State} (keeps : ∀ o k, UnitKeeps s (run s h o k)) :
    UnitKeeps s (s.headUnitStep h kind run) := by
  simp only [State.headUnitStep]
  split
  case h_1 => exact SameTiles.rfl.unitKeeps
  case h_2 o _ =>
    split
    case h_1 => exact SameTiles.rfl.unitKeeps
    case h_2 k _ =>
      split_ifs
      · exact keeps o k
      · exact SameTiles.rfl.unitKeeps

/-! ## The Copy Engine's unit -/

theorem State.completeDest_sameTiles (s : State) (dst : TileKey) : SameTiles s (s.completeDest dst) := by
  simp only [State.completeDest]
  split
  case h_1 => exact SameTiles.rfl
  case h_2 =>
    split_ifs
    · exact (s.onEntry_sameTiles dst _).trans (State.enterDone_sameTiles _ dst)
    · exact s.onEntry_sameTiles dst _

theorem State.resumeCopyWait_sameTiles (s : State) (h : HeadNo) : SameTiles s (s.resumeCopyWait h) := by
  simp [SameTiles, State.resumeCopyWait]

theorem State.completeCopy_sameTiles (s : State) (job : CopyJob) : SameTiles s (s.completeCopy job) := by
  have entries := (s.onEntry_sameTiles job.source Entry.returnFromCopy).trans
    (State.completeDest_sameTiles _ job.dest)
  have ended : SameTiles s ((((s.onEntry job.source Entry.returnFromCopy).completeDest job.dest).raise
      .copyDone).onEngine (fun _ => { job := none, next := 0, waiting := [] })) := entries
  exact ended.trans (SameTiles.foldl State.resumeCopyWait_sameTiles _ _)

/-- R59: a transfer writes into the destination alone, which is not settled. -/
theorem State.transferCell_unitKeeps {s : State} (dirExact : DirectoryExact s) {job : CopyJob}
    (busy : s.engine.job = some job) : UnitKeeps s (s.transferCell job) := by
  have inTile : s.engine.next < 64 := by
    obtain ⟨_, _, _, ⟨_, _, _, _, jobs, _⟩, _⟩ := dirExact
    obtain ⟨_, _, _, inTile, _⟩ := jobs job busy
    exact inTile
  simp only [State.transferCell]
  split
  case h_1 src dst _ hd =>
    exact State.onCell_unitKeeps_of_not_settled dirExact (State.entry_eq_some hd).1
      (not_settled_of_dest dirExact busy hd) inTile _
  case h_2 => exact SameTiles.rfl.unitKeeps

theorem State.copyUnit_unitKeeps {s : State} (dirExact : DirectoryExact s) {job : CopyJob}
    (busy : s.engine.job = some job) : UnitKeeps s (s.copyUnit job) := by
  have transferred := State.transferCell_unitKeeps dirExact busy
  simp only [State.copyUnit]
  split_ifs
  · exact transferred.andThen (by simp [SameTiles])
  · exact (transferred.andThen (State.completeCopy_sameTiles _ job)).andThen (by simp [SameTiles])

/-! ## Every step -/

/-- The conclusion of R18 for one step: an entry that stays has its slot, and if it was settled no cut of its
tile has fallen. -/
def CutsStand (s t : State) : Prop :=
  ∀ e ∈ s.dir, ∀ e' ∈ t.dir, Entry.settled e = true → e'.key = e.key →
    e'.slot = e.slot ∧ ∀ i < 64, (s.store.read (cellAddr e.slot i)).cut ≤ (t.store.read (cellAddr e'.slot i)).cut

/-- R23: an entry whose tile stood before stands where the entry of its key stood. -/
theorem slot_eq_of_key_eq {s : State} (distinct : KeysDistinct s) {e e' : Entry} (he : e ∈ s.dir)
    (stood : e'.tile ∈ s.dir.map Entry.tile) (sameKey : e'.key = e.key) : e'.slot = e.slot := by
  obtain ⟨d, hd, sameTile⟩ := List.mem_map.1 stood
  obtain ⟨key, slot⟩ : d.key = e'.key ∧ d.slot = e'.slot := Prod.mk.inj sameTile
  obtain rfl : d = e := List.inj_on_of_nodup_map distinct hd he (key.trans sameKey)
  exact slot.symm

theorem UnitKeeps.cutsStand {s t : State} (keeps : UnitKeeps s t) (distinct : KeysDistinct s) : CutsStand s t := by
  intro e he e' he' settled sameKey
  have slot := slot_eq_of_key_eq distinct he (keeps.1 ▸ List.mem_map_of_mem he') sameKey
  exact ⟨slot, fun i hi => slot ▸ keeps.2 e he settled i hi⟩

theorem TilesFollow.cutsStand {s t : State} (follow : TilesFollow s t) (distinct : KeysDistinct s) :
    CutsStand s t := by
  intro e he e' he' _ sameKey
  obtain stood | fresh := follow.2 e'.tile (List.mem_map_of_mem he')
  · have slot := slot_eq_of_key_eq distinct he stood sameKey
    exact ⟨slot, fun i _ => by rw [slot, follow.1]⟩
  · exact absurd sameKey.symm (fresh e he)

theorem SameTiles.cutsStand {s t : State} (same : SameTiles s t) (distinct : KeysDistinct s) : CutsStand s t :=
  same.follow.cutsStand distinct

/-- R18 as `Obligations.CutNeverFalls` says it of one step, its conclusion named `CutsStand`. -/
theorem exec_cutsStand {c : Instr} {s t : State} (dirExact : DirectoryExact s) (stepped : exec c s = .next t) :
    CutsStand s t := by
  have distinct : KeysDistinct s := dirExact.1
  have decoder (own : IntakeByte → Bool) : CutsStand s (s.decoderStep own) :=
    (s.decoderStep_tilesFollow own).cutsStand distinct
  have same {u : State} (tiles : SameTiles s u) : CutsStand s u := tiles.cutsStand distinct
  have unit {u : State} (keeps : UnitKeeps s u) : CutsStand s u := keeps.cutsStand distinct
  cases c
  case hardwareReset =>
    obtain rfl := Host.Outcome.next.inj stepped
    intro e _ e' he'
    cases he'
  case parameterByte | unknownCommand | resultRead | statusRead | ack | attnSetup | clearWork | timebase | copySetup |
      bandBounds | bandSet | copyQuery | headBind | headUnbind | toolSet | spindleSet | headHalt | headResume |
      stepMode | headStep | headQuery | tileOpen | window | targetWrite | cutWrite | fill | tileSeal | fenceWrite |
      tileEdit | tileRetire | tileDuplicate | claimBreak | tileQuery | tileRead | nextDone | violationRead |
      violationClear =>
    exact Host.Outcome.next.inj stepped ▸ decoder _
  case tileOpenUnit | targetWriteValue | cutWriteValue | fillUnit | tileSealUnit | fenceWriteUnit | tileEditUnit |
      tileReadUnit =>
    obtain rfl := Host.Outcome.next.inj stepped
    refine unit (State.portUnitStep_unitKeeps dirExact ?_)
    rintro ⟨⟩ s' ran <;> cases ran
    rfl
  case probeUnit h =>
    exact Host.Outcome.next.inj stepped ▸ unit (s.headUnitStep_unitKeeps h .probe (s.probeUnit_unitKeeps h))
  case reportUnit h =>
    exact Host.Outcome.next.inj stepped ▸ unit (s.headUnitStep_unitKeeps h .report (s.reportUnit_unitKeeps h))
  case copyTransfer =>
    simp only [exec, execCopyTransfer] at stepped
    split at stepped
    case h_1 job busy _ => exact Host.Outcome.next.inj stepped ▸ unit (State.copyUnit_unitKeeps dirExact busy)
    case h_2 => exact Host.Outcome.next.inj stepped ▸ same SameTiles.rfl
  case cpByte | chipSelectBreak => exact Host.Outcome.next.inj stepped ▸ same (by simp [SameTiles])
  case probe h _ _ _ | report h _ _ _ _ | release h _ _ _ =>
    exact Host.Outcome.next.inj stepped ▸ same (s.requestFrame_sameTiles h _)
  case linkReset h => exact Host.Outcome.next.inj stepped ▸ same (State.linkReset_sameTiles (s.huntAgain h) h)
  case headLinkByte h value => exact Host.Outcome.next.inj stepped ▸ same (s.linkByte_sameTiles h value)
  case framingError h => exact Host.Outcome.next.inj stepped ▸ same (s.losePartial_sameTiles h)
  case gapTimerExpiry h => exact Host.Outcome.next.inj stepped ▸ same (s.gapExpiry_sameTiles h)
  case badFrame h => exact Host.Outcome.next.inj stepped ▸ same (s.badFrame_sameTiles h)
  case unknownKind h kind =>
    obtain rfl := Host.Outcome.next.inj stepped
    split
    · exact same (s.badFrame_sameTiles h)
    · exact same SameTiles.rfl
  case answerTransmitted h => exact Host.Outcome.next.inj stepped ▸ same (s.answerSent_sameTiles h)
  case timeBaseTick => exact Host.Outcome.next.inj stepped ▸ same s.tick_sameTiles
  case indexPulse => exact Host.Outcome.next.inj stepped ▸ same (by simp [SameTiles])
  case stallEntry h =>
    obtain rfl := Host.Outcome.next.inj stepped
    split
    · exact same (s.stallEntry_sameTiles h)
    · exact same SameTiles.rfl
  case holdTimerExpiry h =>
    obtain rfl := Host.Outcome.next.inj stepped
    split
    · exact same (s.holdExpiry_sameTiles h)
    · exact same SameTiles.rfl

/-- Settles O50: the decoder and the links leave the Tile Store alone and keep every slot; a store unit writes
within an entry that is not settled, or writes no cut, or, for a report, a deeper one. -/
theorem cutNeverFalls : Obligations.CutNeverFalls := by
  intro c s t e e' dirExact stepped he settled he' sameKey
  exact exec_cutsStand dirExact stepped e he e' he' settled sameKey

end Sys2Proof.Machine
end

section
/-! PROOFS. R50, R51: what FENCE WRITE and its store unit do. First come the rules of the Command Port and of the
Tile Store that they rest on: an action command at its last byte, the key it carries, a unit asked for and a unit
that ends, and the cells of a slot after all of them have been changed. -/

namespace Sys2Proof.Machine

open Sys2Proof.Safety

/-! ## The Command Port -/

/-- R165: an action command acts at the byte that completes its last parameter. -/
theorem exec_action {s : State} {c : Command} {vals : List Nat} {rest : List IntakeByte}
    (takes : TakesParameter s c vals rest) (action : c.row.cls = .action) (last : vals.length = c.row.widths.length) :
    exec (rowOf c) s = .next ((tookParameter s .complete vals rest).act c vals) := by
  have notStream : c.row.cls ≠ .stream := by simp [action]
  rw [exec_rowOf, State.commandStep_parameter takes notStream, action]
  simp only [last, if_true]

/-- R3: numbers of which one is too great are no key. -/
theorem keyOf_eq_none {copy row col : Nat} (bad : 7 < copy ∨ 511 < row ∨ 511 < col) : keyOf copy row col = none :=
  dif_neg fun _ => by omega

/-- R3: the numbers of a key are that key. -/
@[simp] theorem keyOf_key (k : TileKey) : keyOf k.copy.val k.row.val k.col.val = some k :=
  dif_pos ⟨k.copy.isLt, k.row.isLt, k.col.isLt⟩

theorem State.accept_eq (s : State) : s.accept = withResult s .ok := rfl

theorem State.refuse_eq (s : State) (r : ResultCode) : s.refuse r = refusedWith s r := rfl

theorem State.requestUnit_eq (s : State) (u : PortUnit) : s.requestUnit u = presentedUnit s u :=
  State.present_eq _ .cp

/-- R20, R21: a row runs the port's unit that holds the grant, and the unit ends. -/
theorem State.portUnitStep_granted {s s' : State} {u : PortUnit} {run : PortUnit → Option State}
    (granted : PortUnitGranted s u) (runs : run u = some s') : s.portUnitStep run = endedPortUnit s' := by
  obtain ⟨unit, grant⟩ := granted
  simp only [State.portUnitStep, grant, unit, runs]
  rfl

/-! ## The cells of a slot -/

/-- A change of all cells of a slot changes each cell as its index says. -/
theorem Memory.read_updateCells_inside (m : Memory) (slot : Nat) (f : Nat → Cell → Cell) {c : Nat} (inTile : c < 64) :
    (m.updateCells slot cellIndices f).read (slot * 64 + c) = f c (m.read (slot * 64 + c)) := by
  have here : cellIndices.find? (fun i => decide (cellAddr slot i = slot * 64 + c)) = some c := by
    rw [cellIndices, List.find?_range_eq_some]
    simpa [cellAddr, Config.cellsPerTile] using ⟨inTile, fun _ below => Nat.ne_of_lt below⟩
  rw [Memory.read_updateCells _ _ _ _ cellIndices_nodup, here]

/-- A change of all cells of a slot changes no cell outside it. -/
theorem Memory.read_updateCells_outside (m : Memory) (slot : Nat) (f : Nat → Cell → Cell) {a : Nat}
    (outside : ∀ c < 64, a ≠ slot * 64 + c) : (m.updateCells slot cellIndices f).read a = m.read a := by
  have nowhere : cellIndices.find? (fun i => decide (cellAddr slot i = a)) = none := by
    rw [List.find?_eq_none]
    exact fun c listed met => outside c (List.mem_range.1 listed) (of_decide_eq_true met).symm
  rw [Memory.read_updateCells _ _ _ _ cellIndices_nodup, nowhere]

/-! ## FENCE WRITE -/

theorem bitOf_eq_testBit (n i : Nat) : bitOf n i = n.testBit i := by
  rw [Nat.testBit_eq_decide_div_mod_eq, bitOf, beq_eq_decide]

/-- R51: bit `c` of row byte `r` is the fence flag of the cell in row `r` and column `c` of the tile. -/
theorem fenceBit_rowCol (rows : List Nat) (r : Nat) {c : Nat} (inRow : c < 8) :
    fenceBit rows (r * 8 + c) = (rows.getD r 0).testBit c := by
  have row : (r * 8 + c) / 8 = r := by omega
  have col : (r * 8 + c) % 8 = c := by omega
  rw [fenceBit, row, col, bitOf_eq_testBit]

/-- R50: FENCE WRITE with numbers that are no key. -/
theorem State.fenceWrite_badKey (s : State) {copy row col : Nat} (rows : List Nat)
    (bad : 7 < copy ∨ 511 < row ∨ 511 < col) : s.fenceWrite copy row col rows = refusedWith s .badArgument := by
  simp only [State.fenceWrite, keyOf_eq_none bad, State.refuse_eq]

/-- R50: FENCE WRITE with a key. -/
theorem State.fenceWrite_key (s : State) (k : TileKey) (rows : List Nat) :
    s.fenceWrite k.copy.val k.row.val k.col.val rows =
      if s.entry k = none then refusedWith s .notFound else presentedUnit s (.fenceWrite k rows) := by
  simp only [State.fenceWrite, keyOf_key, Option.isNone_iff_eq_none, State.refuse_eq, State.requestUnit_eq]

/-- R50: the unit on a COPYING entry. -/
theorem State.fenceWriteUnit_copying {s : State} {k : TileKey} {e : Entry} (rows : List Nat)
    (resident : s.entry k = some e) (copying : e.state = .copying) :
    s.fenceWriteUnit k rows = refusedWith s .busy := by
  simp only [State.fenceWriteUnit, resident, copying, if_true, State.refuse_eq]

/-- The Tile Store after the fence flags of a slot have been written (R51). -/
def fencedStore (m : Memory) (slot : Nat) (rows : List Nat) : Memory :=
  m.updateCells slot cellIndices (fun i c => { c with fence := fenceBit rows i })

/-- R51: the unit on any other entry. -/
theorem State.fenceWriteUnit_accepted {s : State} {k : TileKey} {e : Entry} (rows : List Nat)
    (resident : s.entry k = some e) (free : e.state ≠ .copying) :
    s.fenceWriteUnit k rows = withResult { s with store := fencedStore s.store e.slot rows } .ok := by
  simp only [State.fenceWriteUnit, resident, free, if_false, State.accept_eq]
  rfl

/-- R51: every cell of the slot has its fence flag from its bit, and the rest of it as before. -/
theorem read_fencedStore_inside (m : Memory) (slot : Nat) (rows : List Nat) {r c : Nat} (inTile : r < 8)
    (inRow : c < 8) : (fencedStore m slot rows).read (slot * 64 + (r * 8 + c)) =
      { m.read (slot * 64 + (r * 8 + c)) with fence := (rows.getD r 0).testBit c } := by
  have cell : r * 8 + c < 64 := by omega
  rw [fencedStore, Memory.read_updateCells_inside _ _ _ cell, fenceBit_rowCol rows r inRow]

/-- The row of FENCE WRITE's store unit runs that unit and ends it (R20, R21). -/
theorem exec_fenceWriteUnit {s : State} {k : TileKey} {rows : List Nat}
    (granted : PortUnitGranted s (.fenceWrite k rows)) :
    exec .fenceWriteUnit s = .next (endedPortUnit (s.fenceWriteUnit k rows)) :=
  congrArg Host.Outcome.next (State.portUnitStep_granted granted rfl)

/-- Settles O28: the command by the key it carries, and its unit by the state of the entry it finds. -/
theorem fenceWriteSetsFlags : Obligations.FenceWriteSetsFlags := by
  unfold Obligations.FenceWriteSetsFlags
  refine ⟨fun s y t u rows rest eight takes => ?command, fun s k rows e granted resident => ?unit⟩
  case command =>
    have acts : exec .fenceWrite s = .next
        ((tookParameter s .complete (y :: t :: u :: rows) rest).fenceWrite y t u rows) :=
      exec_action takes rfl (by simp [eight, Command.row])
    refine ⟨fun bad => ?_, ?_⟩
    · rw [acts, State.fenceWrite_badKey _ rows bad]
    · rintro k rfl rfl rfl
      rw [acts, State.fenceWrite_key]
      rfl
  case unit =>
    rw [exec_fenceWriteUnit granted]
    refine ⟨fun copying => ?_, fun free => ⟨fencedStore s.store e.slot rows, ?_, ?_, ?_⟩⟩
    · rw [State.fenceWriteUnit_copying rows resident copying]
    · rw [State.fenceWriteUnit_accepted rows resident free]
    · exact fun r inTile c inRow => read_fencedStore_inside s.store e.slot rows inTile inRow
    · exact fun a outside => Memory.read_updateCells_outside s.store e.slot _ outside

end Sys2Proof.Machine
end

section
/-! PROOFS. R68 to R79: the allowance computation. First come the class limit, the step that the load leaves and the
answer in each of its four cases; then the bounds of a CUT answer. -/

namespace Sys2Proof.Machine

open Sys2Proof.Safety

/-! ## The class limit (R70) -/

theorem classLimit_eq_classBound (tool : ToolClass) (cr : CopyRecord) (c : Cell) :
    classLimit tool cr c = classBound tool cr c := by
  cases tool <;> rfl

/-- R70: the limit never exceeds Tg. -/
theorem classBound_le_target (tool : ToolClass) (cr : CopyRecord) (c : Cell) : classBound tool cr c ≤ c.target := by
  unfold classBound
  split
  · exact Nat.le_refl _
  · split <;> exact Nat.sub_le _ _

/-! ## The step that the load leaves (R72 to R75) -/

theorem LoadMonitor.derates_iff (m : LoadMonitor) :
    m.derates = true ↔ 0 < m.curP0 ∧ m.state = .valid ∧ m.curP0 < m.lastP := by
  simp only [LoadMonitor.derates, Bool.and_eq_true, decide_eq_true_eq, and_assoc]

/-- R73: a derated spindle below the stall threshold. -/
theorem deratedStep_derated {m : LoadMonitor} (stepMax : Nat) (running : m.state ≠ .stalled)
    (derates : m.derates = true) (below : m.lastP < 4 * m.curP0) :
    deratedStep stepMax m = some (max 1 (stepMax * m.curP0 / m.lastP)) := by
  rw [deratedStep, if_neg running, if_pos derates, if_neg (Nat.not_le.2 below)]

/-- R72: no derating leaves S_max. -/
theorem deratedStep_full {m : LoadMonitor} (stepMax : Nat) (running : m.state ≠ .stalled)
    (full : ¬m.derates = true) : deratedStep stepMax m = some stepMax := by
  rw [deratedStep, if_neg running, if_neg full]

/-- R72, R73: the load never lengthens a step, since P exceeds P0 wherever derating applies. -/
theorem deratedStep_le {stepMax step : Nat} {m : LoadMonitor} (positive : 1 ≤ stepMax)
    (left : deratedStep stepMax m = some step) : step ≤ stepMax := by
  simp only [deratedStep, Option.ite_none_left_eq_some] at left
  obtain ⟨-, left⟩ := left
  split at left
  next derates =>
    obtain ⟨-, step_eq⟩ := Option.ite_none_left_eq_some.1 left
    obtain ⟨-, -, slower⟩ := m.derates_iff.1 derates
    have quotient : stepMax * m.curP0 / m.lastP ≤ stepMax :=
      Nat.div_le_of_le_mul (by rw [Nat.mul_comm m.lastP]; exact Nat.mul_le_mul_left _ slower.le)
    exact (Option.some.inj step_eq).ge.trans (max_le positive quotient)
  next => exact (Option.some.inj left).ge

/-! ## The answer (R68) -/

section
variable {tileDone : Bool} {c : Cell} {cr : CopyRecord} {b : BandRecord} {hu : HeadUnit} {m : LoadMonitor}
  {step : Nat}

/-- R69: the done test. -/
theorem probeVerdict_done (done : tileDone = true ∨ c.target ≤ c.cut + cr.finishTol) :
    probeVerdict tileDone c cr b hu m = { status := .done, value := c.cut + hu.wear / 256, dwell := 0 } := by
  have test : (tileDone || c.finished cr.finishTol) = true := by simpa [Cell.finished] using done
  simp only [probeVerdict, test, if_true, HeadUnit.wearOffset]

/-- R74, R75: the load leaves no step. -/
theorem probeVerdict_stall (live : tileDone = false) (unfinished : c.cut + cr.finishTol < c.target)
    (left : deratedStep b.stepMax m = none) :
    probeVerdict tileDone c cr b hu m = { status := .stall, value := 0, dwell := 0 } := by
  simp [probeVerdict, Cell.finished, live, unfinished, left]

/-- R76: the depth does not pass the cut. -/
theorem probeVerdict_atLimit (live : tileDone = false) (unfinished : c.cut + cr.finishTol < c.target)
    (left : deratedStep b.stepMax m = some step) (stays : min (c.cut + step) (classBound hu.toolClass cr c) ≤ c.cut) :
    probeVerdict tileDone c cr b hu m = { status := .atLimit, value := c.cut + hu.wear / 256, dwell := 0 } := by
  have test : (tileDone || c.finished cr.finishTol) = false := by simp [Cell.finished, live, unfinished]
  simp only [probeVerdict, test, left, classLimit_eq_classBound, if_pos stays, HeadUnit.wearOffset]
  rfl

/-- R77: the depth exceeds the cut. -/
theorem probeVerdict_cut (live : tileDone = false) (unfinished : c.cut + cr.finishTol < c.target)
    (left : deratedStep b.stepMax m = some step) (deeper : c.cut < min (c.cut + step) (classBound hu.toolClass cr c)) :
    probeVerdict tileDone c cr b hu m =
      { status := .cut, value := min (c.cut + step) (classBound hu.toolClass cr c) + hu.wear / 256,
        dwell := cutDwell b m } := by
  have test : (tileDone || c.finished cr.finishTol) = false := by simp [Cell.finished, live, unfinished]
  simp only [probeVerdict, test, left, classLimit_eq_classBound, if_neg (Nat.not_le.2 deeper), HeadUnit.wearOffset]
  rfl

/-- What an answer can be, as far as the cut goes: no CUT, and then without a dwell (R67), or the CUT of a step that
the load leaves. -/
theorem probeVerdict_cut_or_not (tileDone : Bool) (c : Cell) (cr : CopyRecord) (b : BandRecord) (hu : HeadUnit)
    (m : LoadMonitor) :
    ((probeVerdict tileDone c cr b hu m).status ≠ .cut ∧ (probeVerdict tileDone c cr b hu m).dwell = 0) ∨
    ∃ step, deratedStep b.stepMax m = some step ∧ c.cut < min (c.cut + step) (classBound hu.toolClass cr c) ∧
      probeVerdict tileDone c cr b hu m =
        { status := .cut, value := min (c.cut + step) (classBound hu.toolClass cr c) + hu.wear / 256,
          dwell := cutDwell b m } := by
  by_cases done : tileDone = true ∨ c.target ≤ c.cut + cr.finishTol
  · exact .inl (by simp [probeVerdict_done done])
  obtain ⟨live, unfinished⟩ := not_or.1 done
  rw [Bool.not_eq_true] at live
  rw [Nat.not_le] at unfinished
  cases left : deratedStep b.stepMax m with
  | none => exact .inl (by simp [probeVerdict_stall live unfinished left])
  | some step =>
    rcases Nat.lt_or_ge c.cut (min (c.cut + step) (classBound hu.toolClass cr c)) with deeper | stays
    · exact .inr ⟨step, rfl, deeper, probeVerdict_cut live unfinished left deeper⟩
    · exact .inl (by simp [probeVerdict_atLimit live unfinished left stays])

end

/-! ## The bounds of a CUT answer (R77) -/

/-- Settles O46: an answer is a CUT of a step that the load leaves of S_max, or has no dwell; the bounds are those of
the step and of the class limit. -/
theorem cutAnswerBounds : Obligations.CutAnswerBounds := by
  unfold Obligations.CutAnswerBounds
  intro tileDone c cr b hu m positive _ targetRange wearRange v limit derates slow
  have derates_eq : m.derates = true ↔ derates := m.derates_iff
  refine ⟨fun notCut => ?noDwell, fun live unfinished running below step derated full deeper => ?isCut,
    fun cut => ?bounds⟩
  case noDwell =>
    rcases probeVerdict_cut_or_not tileDone c cr b hu m with ⟨-, dwell⟩ | ⟨step, -, -, answer⟩
    · exact dwell
    · exact absurd (congrArg Verdict.status answer) notCut
  case isCut =>
    have left : deratedStep b.stepMax m = some step := by
      by_cases loaded : derates
      · rw [derated loaded, deratedStep_derated _ running (derates_eq.2 loaded) (below loaded)]
      · rw [full loaded, deratedStep_full _ running (derates_eq.not.2 loaded)]
    have answer := probeVerdict_cut (hu := hu) live unfinished left deeper
    exact ⟨congrArg Verdict.status answer, congrArg Verdict.value answer⟩
  case bounds =>
    rcases probeVerdict_cut_or_not tileDone c cr b hu m with ⟨notCut, -⟩ | ⟨step, left, deeper, answer⟩
    · exact absurd cut notCut
    have value : v.value = min (c.cut + step) limit + hu.wear / 256 := congrArg Verdict.value answer
    have dwell : v.dwell = cutDwell b m := congrArg Verdict.dwell answer
    have stepBound : step ≤ b.stepMax := deratedStep_le positive left
    have limitBound : limit ≤ c.target := classBound_le_target hu.toolClass cr c
    exact ⟨min (c.cut + step) limit, value, deeper, min_le_right _ _, limitBound, by omega, by omega, by omega, dwell⟩

end Sys2Proof.Machine
end

section
/-! PROOFS. R95, R96: VIOLATION READ and VIOLATION CLEAR. Both act at their command byte, which has a rule of its own
beside that of an action at its last parameter byte. -/

namespace Sys2Proof.Machine

open Sys2Proof.Safety

/-- R165, R167: a command without parameters that is no stream acts at its command byte. -/
theorem exec_parameterless {s : State} {c : Command} {followed : Bool} {rest : List IntakeByte}
    (takes : TakesCode s c followed rest) (notStream : c.row.cls ≠ .stream) (bare : c.row.widths = []) :
    exec (rowOf c) s = .next ((tookCode s c .complete followed rest).act c []) := by
  rw [exec_rowOf, State.commandStep_code takes, if_neg notStream, if_pos bare]

theorem State.answerRead_eq (s : State) (bytes : List Byte) : s.answerRead bytes = withResult (withReply s bytes) .ok :=
  rfl

/-- R172: an empty hold reads as 14 zeros. -/
theorem ViolationHold.reply_empty {v : ViolationHold} (empty : v.record = none) : v.reply = List.replicate 14 0x00 := by
  simp only [ViolationHold.reply, empty]

theorem ViolationKind.code_eq (kind : ViolationKind) : kind.code = if kind = .surface then 0x01 else 0x02 := by
  cases kind <;> rfl

/-- R172: a full hold reads as its record's fields in order, and the count. -/
theorem ViolationHold.reply_full {v : ViolationHold} {r : Violation} (full : v.record = some r) :
    v.reply = [0x01, byteOf r.head.val, byteOf r.tile.copy.val] ++ twoBytes r.tile.row.val ++
      twoBytes r.tile.col.val ++ [byteOf r.cell] ++ twoBytes r.reached ++ twoBytes r.limit ++
      [if r.kind = .surface then 0x01 else 0x02, byteOf v.count] := by
  simp only [ViolationHold.reply, full, ViolationKind.code_eq]
  rfl

/-- Settles O11: both commands act at their command byte; the reply is read off the hold as it stands. -/
theorem violationReadAndClear : Obligations.ViolationReadAndClear := by
  unfold Obligations.ViolationReadAndClear
  refine ⟨fun s followed rest takes => ?read, fun s followed rest takes => ?clear⟩
  case read =>
    intro bytes
    have reply : s.hold.reply = bytes := by
      cases record : s.hold.record with
      | none => simp only [bytes, record, ViolationHold.reply_empty record]
      | some r => simp only [bytes, record, ViolationHold.reply_full record]
    have acts : exec .violationRead s = .next ((tookCode s .violationRead .complete followed rest).violationRead) :=
      exec_parameterless takes (by decide) rfl
    rw [acts, State.violationRead, State.answerRead_eq, ← reply]
    rfl
  case clear => exact exec_parameterless takes (by decide) rfl

end Sys2Proof.Machine
end

section
/-! PROOFS. R87: what becomes of the wear accumulators. Almost every operation leaves all eight alone (`SameWear`); the
store unit of a report grows one; TOOL SET and HEAD BIND reset the one of the head they name, at the byte that
carries them out. -/

namespace Sys2Proof.Machine

open Sys2Proof.Safety

/-- No accumulator has changed. -/
abbrev SameWear (s t : State) : Prop := t.heads.map HeadUnit.wear = s.heads.map HeadUnit.wear

theorem SameWear.rfl {s : State} : SameWear s s := Eq.refl _

theorem SameWear.trans {s t u : State} (first : SameWear s t) (second : SameWear t u) : SameWear s u :=
  Eq.trans second first

/-- A fold leaves the accumulators alone where each of its steps does. -/
theorem SameWear.foldl {α : Type} {f : State → α → State} (each : ∀ s a, SameWear s (f s a)) (l : List α)
    (s : State) : SameWear s (l.foldl f s) := by
  induction l generalizing s with
  | nil => exact SameWear.rfl
  | cons a rest ih => exact (each s a).trans (ih (f s a))

/-- The accumulators of two states, head by head. -/
theorem SameWear.head {s t : State} (same : SameWear s t) (g : HeadNo) : (t.head g).wear = (s.head g).wear := by
  simpa [State.head] using congrArg (fun b => Bank.at b g) same

/-- A new head unit with the old one's accumulator leaves all accumulators as they were. -/
@[simp] theorem Bank.map_wear_put (b : Bank HeadUnit) (h : HeadNo) (hu : HeadUnit)
    (same : hu.wear = (Bank.at b h).wear) : (Bank.put b h hu).map HeadUnit.wear = b.map HeadUnit.wear := by
  apply Bank.ext
  intro g
  by_cases here : g = h <;> simp [Bank.at_put, here, same]

/-- A change of a head unit that leaves its accumulator alone. -/
theorem State.onHead_sameWear (s : State) (h : HeadNo) (f : HeadUnit → HeadUnit)
    (same : ∀ hu, (f hu).wear = hu.wear := by exact fun _ => rfl) : SameWear s (s.onHead h f) :=
  Bank.map_wear_put s.heads h _ (same _)

@[simp] theorem HeadUnit.orphan_wear (hu : HeadUnit) (gone : TileKey → Bool) : (hu.orphan gone).wear = hu.wear := by
  simp only [HeadUnit.orphan]
  repeat' split
  all_goals rfl

/-- R26: marking the requests on removed entries leaves the accumulators alone. -/
@[simp] theorem Bank.map_wear_orphan (b : Bank HeadUnit) (gone : TileKey → Bool) :
    (b.map (fun hu => hu.orphan gone)).map HeadUnit.wear = b.map HeadUnit.wear := by
  simp [Vector.map_map, Function.comp_def]

/-! ## The shared operations on the heads -/

@[simp] theorem State.setOutstanding_wear (s : State) (h : HeadNo) (o : Option Outstanding) :
    (s.setOutstanding h o).heads.map HeadUnit.wear = s.heads.map HeadUnit.wear :=
  s.onHead_sameWear h (fun hu => { hu with outstanding := o })

@[simp] theorem State.setWait_wear (s : State) (h : HeadNo) (w : WaitKind) :
    (s.setWait h w).heads.map HeadUnit.wear = s.heads.map HeadUnit.wear :=
  s.onHead_sameWear h (fun hu => { hu with outstanding := hu.outstanding.map (fun o => { o with wait := w }) })

@[simp] theorem State.endRequest_wear (s : State) (h : HeadNo) (status : Status) (value dwell : Nat) :
    (s.endRequest h status value dwell).heads.map HeadUnit.wear = s.heads.map HeadUnit.wear := by
  simp only [State.endRequest]
  repeat' split
  all_goals simp

@[simp] theorem State.proceed_wear (s : State) (h : HeadNo) :
    (s.proceed h).heads.map HeadUnit.wear = s.heads.map HeadUnit.wear := by
  simp [State.proceed]

@[simp] theorem State.removeEntry_wear (s : State) (k : TileKey) :
    (s.removeEntry k).heads.map HeadUnit.wear = s.heads.map HeadUnit.wear := by
  simp only [State.removeEntry]
  split
  case h_1 => rfl
  case h_2 => exact Bank.map_wear_orphan _ _

@[simp] theorem State.releaseFrom_wear (n : Nat) (s : State) (g : HeadNo) (k : TileKey) :
    (State.releaseFrom n s g k).heads.map HeadUnit.wear = s.heads.map HeadUnit.wear := by
  induction n generalizing s g k with
  | zero => simp [State.releaseFrom]
  | succ n ih =>
    simp only [State.releaseFrom]
    split
    case h_1 => simp
    case h_2 => split <;> simp [ih]

@[simp] theorem State.release_wear (s : State) (g : HeadNo) (k : TileKey) :
    (s.release g k).heads.map HeadUnit.wear = s.heads.map HeadUnit.wear :=
  State.releaseFrom_wear 8 s g k

@[simp] theorem State.releaseAll_wear (s : State) (g : HeadNo) (ks : List TileKey) :
    (s.releaseAll g ks).heads.map HeadUnit.wear = s.heads.map HeadUnit.wear :=
  SameWear.foldl (fun acc k => acc.release_wear g k) ks s

@[simp] theorem State.takeClaim_wear (s : State) (h : HeadNo) (k : TileKey) :
    (s.takeClaim h k).heads.map HeadUnit.wear = s.heads.map HeadUnit.wear := by
  simp only [State.takeClaim]
  split <;> simp

@[simp] theorem State.parkClaim_wear (s : State) (h : HeadNo) (k : TileKey) :
    (s.parkClaim h k).heads.map HeadUnit.wear = s.heads.map HeadUnit.wear := by
  simp only [State.parkClaim]
  split <;> simp

@[simp] theorem State.claimStep_wear (s : State) (h : HeadNo) (k : TileKey) :
    (s.claimStep h k).heads.map HeadUnit.wear = s.heads.map HeadUnit.wear := by
  simp only [State.claimStep]
  repeat' split
  all_goals simp

@[simp] theorem State.serveWaiters_wear (s : State) (waiters : List HeadNo) :
    (s.serveWaiters waiters).heads.map HeadUnit.wear = s.heads.map HeadUnit.wear :=
  SameWear.foldl (fun acc w => by simp [SameWear]) waiters s

@[simp] theorem State.enterDone_wear (s : State) (k : TileKey) :
    (s.enterDone k).heads.map HeadUnit.wear = s.heads.map HeadUnit.wear := by
  simp only [State.enterDone]
  split <;> simp

@[simp] theorem State.followCount_wear (s : State) (k : TileKey) :
    (s.followCount k).heads.map HeadUnit.wear = s.heads.map HeadUnit.wear := by
  simp only [State.followCount]
  repeat' split
  all_goals simp

/-! ## A head's request on its way -/

@[simp] theorem State.parkCopy_wear (s : State) (h : HeadNo) :
    (s.parkCopy h).heads.map HeadUnit.wear = s.heads.map HeadUnit.wear := by
  simp [State.parkCopy]

@[simp] theorem State.endParked_wear (s : State) (h : HeadNo) (status : Status) :
    (s.endParked h status).heads.map HeadUnit.wear = s.heads.map HeadUnit.wear := by
  simp only [State.endParked]
  split <;> simp

@[simp] theorem State.directoryStep_wear (s : State) (h : HeadNo) :
    (s.directoryStep h).heads.map HeadUnit.wear = s.heads.map HeadUnit.wear := by
  simp only [State.directoryStep]
  repeat' split
  all_goals simp

@[simp] theorem State.checkProbe_wear (s : State) (h : HeadNo) (r : Request) :
    (s.checkProbe h r).heads.map HeadUnit.wear = s.heads.map HeadUnit.wear := by
  simp only [State.checkProbe]
  repeat' split
  all_goals simp

@[simp] theorem State.checkReport_wear (s : State) (h : HeadNo) (r : Request) :
    (s.checkReport h r).heads.map HeadUnit.wear = s.heads.map HeadUnit.wear := by
  simp only [State.checkReport]
  repeat' split
  all_goals simp

@[simp] theorem State.checkRelease_wear (s : State) (h : HeadNo) (r : Request) :
    (s.checkRelease h r).heads.map HeadUnit.wear = s.heads.map HeadUnit.wear := by
  simp only [State.checkRelease, State.serveRelease]
  repeat' split
  all_goals simp

@[simp] theorem State.becomeOutstanding_wear (s : State) (h : HeadNo) (r : Request) :
    (s.becomeOutstanding h r).heads.map HeadUnit.wear = s.heads.map HeadUnit.wear := by
  simp only [State.becomeOutstanding]
  split <;> simp

@[simp] theorem State.settle_wear (s : State) (h : HeadNo) :
    (s.settle h).heads.map HeadUnit.wear = s.heads.map HeadUnit.wear := by
  simp only [State.settle]
  repeat' split
  all_goals simp [State.head]

@[simp] theorem State.requestArrives_wear (s : State) (h : HeadNo) (r : Request) :
    (s.requestArrives h r).heads.map HeadUnit.wear = s.heads.map HeadUnit.wear := by
  simp only [State.requestArrives]
  repeat' split
  all_goals simp [State.head]

@[simp] theorem State.leaveStepWait_wear (s : State) (h : HeadNo) :
    (s.leaveStepWait h).heads.map HeadUnit.wear = s.heads.map HeadUnit.wear := by
  simp [State.leaveStepWait]

/-! ## Time and the links -/

@[simp] theorem State.stallEntry_heads (s : State) (h : HeadNo) : (s.stallEntry h).heads = s.heads := by
  simp only [State.stallEntry]
  split <;> simp

@[simp] theorem State.monitorTick_heads (s : State) (h : HeadNo) : (s.monitorTick h).heads = s.heads := by
  simp only [State.monitorTick]
  repeat' split
  all_goals simp

@[simp] theorem State.holdExpiry_wear (s : State) (h : HeadNo) :
    (s.holdExpiry h).heads.map HeadUnit.wear = s.heads.map HeadUnit.wear := by
  simp [State.holdExpiry]

theorem State.holdTick_sameWear (s : State) (h : HeadNo) : SameWear s (s.holdTick h) := by
  simp only [State.holdTick]
  split <;> simp [SameWear]

theorem State.tick_sameWear (s : State) : SameWear s s.tick :=
  (SameWear.foldl (fun acc h => by simp [SameWear]) allHeads s).trans (SameWear.foldl State.holdTick_sameWear allHeads _)

@[simp] theorem State.huntAgain_heads (s : State) (h : HeadNo) : (s.huntAgain h).heads = s.heads := rfl

@[simp] theorem State.badFrame_heads (s : State) (h : HeadNo) : (s.badFrame h).heads = s.heads := by
  simp [State.badFrame]

@[simp] theorem State.linkReset_wear (s : State) (h : HeadNo) :
    (s.linkReset h).heads.map HeadUnit.wear = s.heads.map HeadUnit.wear := by
  have reset (r : State) : SameWear r (r.resetOutstanding h) := by
    simp only [State.resetOutstanding]
    repeat' split
    all_goals simp [SameWear]
  have emptied := s.onHead_sameWear h (fun hu => { hu with buffer := none })
  simp only [State.linkReset, State.releaseAll_wear]
  exact emptied.trans (reset _)

theorem State.takeFrame_sameWear (s : State) (h : HeadNo) (kind : Byte) (payload : List Byte) :
    SameWear s (s.takeFrame h kind payload) := by
  obtain ⟨r, request⟩ | reset | nothing := s.takeFrame_cases h kind payload
  · simp [SameWear, request]
  · simp [SameWear, reset]
  · simp [SameWear, nothing]

theorem State.linkByte_sameWear (s : State) (h : HeadNo) (b : Byte) : SameWear s (s.linkByte h b) := by
  simp only [State.linkByte]
  split
  case h_1 => split <;> simp [SameWear]
  case h_2 =>
    simp only [State.kindByte]
    split <;> simp [SameWear]
  case h_3 =>
    simp only [State.bodyByte]
    split_ifs
    · simp [SameWear]
    · exact State.takeFrame_sameWear (s.huntAgain h) h (s.link h).rx.kind (s.link h).rx.payload
    · simp [SameWear]

@[simp] theorem State.losePartial_heads (s : State) (h : HeadNo) : (s.losePartial h).heads = s.heads := by
  simp only [State.losePartial]
  split <;> simp

@[simp] theorem State.gapExpiry_heads (s : State) (h : HeadNo) : (s.gapExpiry h).heads = s.heads := by
  simp only [State.gapExpiry]
  split <;> simp

@[simp] theorem State.answerSent_heads (s : State) (h : HeadNo) : (s.answerSent h).heads = s.heads := by
  simp only [State.answerSent]
  split <;> simp

end Sys2Proof.Machine
end

section
/-! PROOFS. R87: what the decoder's step does to the wear accumulators. It resets one at most, that of the head named
by TOOL SET or HEAD BIND, at the byte that completes the last parameter of the command. -/

namespace Sys2Proof.Machine

open Sys2Proof.Safety

/-! ## The host commands that leave the accumulators alone -/

theorem State.storeStepMode_sameWear (s : State) (vals : List Nat) : SameWear s (s.storeStepMode vals) := by
  have stored (h : HeadNo) (on : Bool) : SameWear s (s.onHead h (fun hu => { hu with stepMode := on })) :=
    s.onHead_sameWear h _
  have set (h : HeadNo) (on : Bool) : SameWear s (s.setStepMode h on) := by
    simp only [State.setStepMode]
    split
    · exact (stored h on).trans (State.leaveStepWait_wear _ h)
    · exact stored h on
  simp only [State.storeStepMode]
  split
  case h_1 =>
    repeat' split
    all_goals simp [SameWear]
  case h_2 =>
    split
    case h_1 => exact SameWear.rfl
    case h_2 => exact set _ _
  case h_3 => exact SameWear.rfl

@[simp] theorem State.storeTimebase_heads (s : State) (vals : List Nat) : (s.storeTimebase vals).heads = s.heads := by
  simp only [State.storeTimebase]
  split <;> rfl

@[simp] theorem State.storeAttnSetup_heads (s : State) (vals : List Nat) :
    (s.storeAttnSetup vals).heads = s.heads := by
  simp only [State.storeAttnSetup]
  split <;> rfl

@[simp] theorem State.storeCopySetup_heads (s : State) (vals : List Nat) :
    (s.storeCopySetup vals).heads = s.heads := by
  simp only [State.storeCopySetup, State.copySetupSelect, State.copySetupShared]
  repeat' split
  all_goals simp

@[simp] theorem State.storeBandBounds_heads (s : State) (vals : List Nat) :
    (s.storeBandBounds vals).heads = s.heads := by
  simp only [State.storeBandBounds]
  repeat' split
  all_goals simp

@[simp] theorem State.storeBandSet_heads (s : State) (vals : List Nat) : (s.storeBandSet vals).heads = s.heads := by
  simp only [State.storeBandSet]
  repeat' split
  all_goals simp

@[simp] theorem State.storeWindow_heads (s : State) (vals : List Nat) : (s.storeWindow vals).heads = s.heads := by
  simp only [State.storeWindow]
  repeat' split
  all_goals simp

theorem State.storeSetting_sameWear (s : State) (c : Command) (vals : List Nat) :
    SameWear s (s.storeSetting c vals) := by
  simp only [State.storeSetting]
  split
  case h_7 => exact s.storeStepMode_sameWear vals
  all_goals simp [SameWear]

/-- R119: a head command leaves the accumulators alone where what it does to a bound head does. -/
theorem State.onBoundHead_sameWear {f : State → HeadNo → State} (hf : ∀ s h, SameWear s (f s h)) (s : State)
    (head : Nat) : SameWear s (s.onBoundHead head f) := by
  simp only [State.onBoundHead]
  repeat' split
  · simp [SameWear]
  · simp [SameWear]
  · exact hf s _

theorem State.headHalt_sameWear (s : State) (head : Nat) : SameWear s (s.headHalt head) :=
  State.onBoundHead_sameWear (fun s h => by simp [SameWear, State.head]) s head

theorem State.headResume_sameWear (s : State) (head : Nat) : SameWear s (s.headResume head) :=
  State.onBoundHead_sameWear (fun s h => by simp [SameWear, State.head]) s head

theorem State.headStep_sameWear (s : State) (head : Nat) : SameWear s (s.headStep head) :=
  State.onBoundHead_sameWear (fun s h => by split <;> simp [SameWear]) s head

theorem State.unbind_sameWear (s : State) (h : HeadNo) : SameWear s (s.unbind h) := by
  have buffer (r : State) : SameWear r (r.unbindBuffer h) := by
    simp only [State.unbindBuffer]
    split <;> simp [SameWear, State.head]
  have parked : SameWear s ((s.endParked h .unbound).unbindBuffer h) :=
    SameWear.trans (s.endParked_wear h .unbound) (buffer _)
  refine SameWear.trans ?_ (State.onHead_sameWear _ h (fun hu => { hu with state := .unbound, boundCopy := none }))
  simpa [SameWear] using parked

theorem State.headUnbind_sameWear (s : State) (head : Nat) : SameWear s (s.headUnbind head) := by
  simp only [State.headUnbind]
  split
  case h_1 => simp [SameWear]
  case h_2 h _ =>
    split
    · simp [SameWear]
    · exact (s.unbind_sameWear h).trans (by simp [SameWear])

theorem State.cancelWaits_sameWear (s : State) (h : HeadNo) : SameWear s (s.cancelWaits h) := by
  simp only [State.cancelWaits]
  repeat' split
  all_goals simp [SameWear]

/-- R39: CLEAR WORK leaves the accumulators alone. -/
theorem State.clearWork_sameWear (s : State) : SameWear s s.clearWork := by
  simp only [State.clearWork]
  generalize hc : State.withdraw _ _ = cleared
  have orphaned : SameWear s cleared := by
    subst hc
    rw [SameWear, State.withdraw_heads]
    exact Bank.map_wear_orphan _ _
  have cancelled := SameWear.foldl State.cancelWaits_sameWear allHeads cleared
  exact (orphaned.trans cancelled).trans (by simp [SameWear])

theorem State.headQuery_sameWear (s : State) (head : Nat) : SameWear s (s.headQuery head) := by
  simp only [State.headQuery]
  split <;> simp [SameWear]

theorem State.copyQuery_sameWear (s : State) (copy : Nat) : SameWear s (s.copyQuery copy) := by
  simp only [State.copyQuery]
  split <;> simp [SameWear]

theorem State.spindleSet_sameWear (s : State) (head n p0 : Nat) : SameWear s (s.spindleSet head n p0) := by
  simp only [State.spindleSet]
  repeat' split
  all_goals simp [SameWear]

theorem State.tileOpen_sameWear (s : State) (copy row col : Nat) : SameWear s (s.tileOpen copy row col) := by
  simp only [State.tileOpen]
  repeat' split
  all_goals simp [SameWear]

theorem State.fill_sameWear (s : State) (depth : Nat) : SameWear s (s.fill depth) := by
  simp only [State.fill]
  split <;> simp [SameWear]

theorem State.tileSeal_sameWear (s : State) : SameWear s s.tileSeal := by
  simp only [State.tileSeal]
  split <;> simp [SameWear]

theorem State.fenceWrite_sameWear (s : State) (copy row col : Nat) (rows : List Nat) :
    SameWear s (s.fenceWrite copy row col rows) := by
  simp only [State.fenceWrite]
  repeat' split
  all_goals simp [SameWear]

theorem State.tileEdit_sameWear (s : State) (copy row col cell depth : Nat) :
    SameWear s (s.tileEdit copy row col cell depth) := by
  simp only [State.tileEdit]
  repeat' split
  all_goals simp [SameWear]

theorem State.tileRetire_sameWear (s : State) (copy row col abandon : Nat) :
    SameWear s (s.tileRetire copy row col abandon) := by
  simp only [State.tileRetire]
  repeat' split
  all_goals simp [SameWear]

theorem State.tileDuplicate_sameWear (s : State) (copy row col destCopy : Nat) :
    SameWear s (s.tileDuplicate copy row col destCopy) := by
  simp only [State.tileDuplicate, State.acceptDuplicate]
  repeat' split
  all_goals simp [SameWear]

theorem State.claimBreak_sameWear (s : State) (copy row col : Nat) : SameWear s (s.claimBreak copy row col) := by
  simp only [State.claimBreak]
  repeat' split
  all_goals simp [SameWear]

theorem State.tileQuery_sameWear (s : State) (copy row col : Nat) : SameWear s (s.tileQuery copy row col) := by
  simp only [State.tileQuery]
  repeat' split
  all_goals simp [SameWear]

theorem State.tileRead_sameWear (s : State) (copy row col field : Nat) :
    SameWear s (s.tileRead copy row col field) := by
  simp only [State.tileRead]
  repeat' split
  all_goals simp [SameWear]

theorem State.nextDone_sameWear (s : State) : SameWear s s.nextDone := by
  simp only [State.nextDone]
  split <;> simp [SameWear]

theorem State.streamValue_sameWear (s : State) (c : Command) (v : Nat) : SameWear s (s.streamValue c v) := by
  simp only [State.streamValue]
  split <;> simp [SameWear]

/-! ## TOOL SET and HEAD BIND -/

theorem headOf_eq_some {n : Nat} {h : HeadNo} (named : headOf n = some h) : h.val = n := by
  simp only [headOf, Option.dite_none_right_eq_some] at named
  obtain ⟨_, eq⟩ := named
  exact (congrArg Fin.val (Option.some.inj eq)).symm

/-- R123: TOOL SET leaves every accumulator but that of the head it names. -/
theorem State.toolSet_wear_other (s : State) {head : Nat} (cls limit : Nat) {g : HeadNo} (other : head ≠ g.val) :
    ((s.toolSet head cls limit).head g).wear = (s.head g).wear := by
  simp only [State.toolSet, State.onBoundHead]
  split
  case h_1 => rfl
  case h_2 h named =>
    have differ : g ≠ h := fun same => other (same ▸ headOf_eq_some named).symm
    split
    · rfl
    · simp [State.head, Bank.at_put_other _ _ _ _ differ]

/-- R120: HEAD BIND leaves every accumulator but that of the head it names. -/
theorem State.headBind_wear_other (s : State) {head : Nat} (copy cls limit n p0 hold : Nat) {g : HeadNo}
    (other : head ≠ g.val) : ((s.headBind head copy cls limit n p0 hold).head g).wear = (s.head g).wear := by
  simp only [State.headBind]
  split
  case h_1 h y named _ =>
    have differ : g ≠ h := fun same => other (same ▸ headOf_eq_some named).symm
    split_ifs
    · rfl
    · rfl
    · simp [State.head, Bank.at_put_other _ _ _ _ differ]
  case h_2 => rfl

/-! ## The decoder's step -/

/-- `c` is TOOL SET or HEAD BIND, and `vals` are all its parameters, the first of them naming head `g`. -/
def ResetsWear (c : Command) (vals : List Nat) (g : HeadNo) : Prop :=
  vals.head? = some g.val ∧ (c = .toolSet ∧ vals.length = 3 ∨ c = .headBind ∧ vals.length = 7)

/-- A command that acts leaves a head's accumulator alone, or is one that resets it. -/
theorem State.act_wear (s : State) (c : Command) (vals : List Nat) (g : HeadNo) :
    ((s.act c vals).head g).wear = (s.head g).wear ∨ ResetsWear c vals g := by
  have same {t : State} (wear : SameWear s t) {p : Prop} : (t.head g).wear = (s.head g).wear ∨ p := .inl (wear.head g)
  simp only [State.act]
  split
  case h_4 => exact same s.clearWork_sameWear
  case h_5 => exact same (s.copyQuery_sameWear _)
  case h_6 head copy cls limit n p0 hold =>
    by_cases named : head = g.val
    · exact .inr ⟨congrArg some named, .inr ⟨rfl, rfl⟩⟩
    · exact .inl (s.headBind_wear_other copy cls limit n p0 hold named)
  case h_7 => exact same (s.headUnbind_sameWear _)
  case h_8 head cls limit =>
    by_cases named : head = g.val
    · exact .inr ⟨congrArg some named, .inl ⟨rfl, rfl⟩⟩
    · exact .inl (s.toolSet_wear_other cls limit named)
  case h_9 => exact same (s.spindleSet_sameWear _ _ _)
  case h_10 => exact same (s.headHalt_sameWear _)
  case h_11 => exact same (s.headResume_sameWear _)
  case h_12 => exact same (s.headStep_sameWear _)
  case h_13 => exact same (s.headQuery_sameWear _)
  case h_14 => exact same (s.tileOpen_sameWear _ _ _)
  case h_15 => exact same (s.fill_sameWear _)
  case h_16 => exact same s.tileSeal_sameWear
  case h_17 => exact same (s.fenceWrite_sameWear _ _ _ _)
  case h_18 => exact same (s.tileEdit_sameWear _ _ _ _ _)
  case h_19 => exact same (s.tileRetire_sameWear _ _ _ _)
  case h_20 => exact same (s.tileDuplicate_sameWear _ _ _ _)
  case h_21 => exact same (s.claimBreak_sameWear _ _ _)
  case h_22 => exact same (s.tileQuery_sameWear _ _ _)
  case h_23 => exact same (s.tileRead_sameWear _ _ _ _)
  case h_24 => exact same s.nextDone_sameWear
  all_goals exact .inl rfl

@[simp] theorem State.endCommand_heads (s : State) : s.endCommand.heads = s.heads := by
  simp only [State.endCommand]
  repeat' split
  all_goals simp

@[simp] theorem State.treatOverrun_heads (s : State) : s.treatOverrun.heads = s.heads := by
  simp only [State.treatOverrun, State.beginCommand]
  split <;> simp

@[simp] theorem State.completeSetting_heads (s : State) : s.completeSetting.heads = s.heads := by
  simp only [State.completeSetting]
  split <;> simp

/-- R162: no command resets an accumulator at its command byte. -/
theorem State.takeCommand_wear (s : State) (code : Byte) (followed : Bool) (g : HeadNo) :
    ((s.takeCommand code followed).head g).wear = (s.head g).wear := by
  have begun (cur : Current) (phase : Phase) : SameWear s (s.endCommand.beginCommand cur phase followed) := by
    simp [SameWear, State.beginCommand]
  simp only [State.takeCommand]
  split
  case h_1 => exact SameWear.head (by simp [SameWear, State.beginCommand]) g
  case h_2 c _ =>
    split_ifs
    · have started (r : State) : SameWear r r.startStream := by
        simp only [State.startStream]
        split <;> simp [SameWear]
      exact ((begun _ _).trans (started _)).head g
    · obtain same | ⟨named, _⟩ := State.act_wear (s.endCommand.beginCommand (.known c) .complete followed) c [] g
      · exact same.trans ((begun _ _).head g)
      · exact absurd named (by simp)
    · exact (begun _ _).head g

/-- R162: a completed parameter leaves a head's accumulator alone, or is the last of a command that resets it. -/
theorem State.takeValue_wear (s : State) (c : Command) (v : Nat) (g : HeadNo) :
    ((s.takeValue c v).head g).wear = (s.head g).wear ∨ ResetsWear c (s.port.values ++ [v]) g := by
  have same {t : State} (wear : SameWear s t) {p : Prop} : (t.head g).wear = (s.head g).wear ∨ p := .inl (wear.head g)
  have onPort (f : Port → Port) : SameWear s (s.onPort f) := SameWear.rfl
  have stores (f : Port → Port) (vals : List Nat) : SameWear s ((s.onPort f).storeSetting c vals) :=
    (onPort f).trans (State.storeSetting_sameWear _ c vals)
  have completes (r : State) : SameWear r r.completeSetting := by simp [SameWear]
  simp only [State.takeValue]
  split
  case h_1 => exact same ((onPort _).trans (State.streamValue_sameWear _ c v))
  case h_2 =>
    split_ifs
    · exact same ((stores _ _).trans (completes _))
    · exact same (stores _ _)
  case h_3 =>
    split_ifs
    · exact State.act_wear _ c _ g
    · exact same (onPort _)
  case h_4 =>
    split_ifs
    · exact State.act_wear _ c _ g
    · exact same (onPort _)

/-- The next parameter of the current command `c` is the last of a TOOL SET or a HEAD BIND that names head `g`. -/
structure ResetComes (s : State) (c : Command) (g : HeadNo) : Prop where
  receiving : s.port.phase = .receiving
  named : s.port.values.head? = some g.val
  current : s.port.current = .known c
  last : c = .toolSet ∧ s.port.values.length = 2 ∨ c = .headBind ∧ s.port.values.length = 6

/-- The parameters before the last one name the head already. -/
theorem ResetsWear.comes {s : State} {c : Command} {v : Nat} {g : HeadNo}
    (resets : ResetsWear c (s.port.values ++ [v]) g) (current : s.port.current = .known c)
    (receiving : s.port.phase = .receiving) : ResetComes s c g := by
  obtain ⟨named, command⟩ := resets
  have lengths : c = .toolSet ∧ s.port.values.length = 2 ∨ c = .headBind ∧ s.port.values.length = 6 := by
    simpa using command
  refine ⟨receiving, ?_, current, lengths⟩
  cases values : s.port.values with
  | nil => simp [values] at lengths
  | cons first rest => simpa [values] using named

theorem State.takeParameter_wear (s : State) (b : Byte) (g : HeadNo) :
    ((s.takeParameter b).head g).wear = (s.head g).wear ∨ ∃ c, ResetComes s c g := by
  simp only [State.takeParameter]
  split
  case h_1 c current receiving =>
    have value (v : Nat) : ((s.takeValue c v).head g).wear = (s.head g).wear ∨ ∃ c, ResetComes s c g :=
      (s.takeValue_wear c v g).imp_right fun resets => ⟨c, resets.comes current receiving⟩
    split_ifs
    · split
      · exact .inl rfl
      · exact value _
    · exact value _
  case h_2 => exact .inl rfl

/-- R163: after an overrun has been treated, no command takes its bytes. -/
theorem State.treatOverrun_receiving {s : State} (receiving : s.treatOverrun.port.phase = .receiving) :
    s.treatOverrun = s := by
  simp only [State.treatOverrun] at receiving ⊢
  split_ifs at receiving ⊢
  · cases receiving
  · rfl

/-- R162: whatever byte the decoder takes, a head's accumulator stays, or the byte is a parameter byte before which the
current command is about to reset it. -/
theorem State.decoderStep_wear (s : State) (own : IntakeByte → Bool) (g : HeadNo) :
    ((s.decoderStep own).head g).wear = (s.head g).wear ∨
      ∃ b c, own b = true ∧ b.line = .parameter ∧ ResetComes s c g := by
  simp only [State.decoderStep]
  split
  case h_1 b rest _ _ =>
    split_ifs with mine
    · simp only [State.decodeByte]
      generalize hq : s.onPort (fun p => { p with intake := rest }) = queued
      have treated : (queued.treatOverrun.head g).wear = (s.head g).wear := by subst hq; simp [State.head]
      split
      case h_1 => exact .inl ((State.takeCommand_wear _ _ _ g).trans treated)
      case h_2 parameter =>
        obtain same | ⟨c, comes⟩ := State.takeParameter_wear queued.treatOverrun b.value g
        · exact .inl (same.trans treated)
        · rw [State.treatOverrun_receiving comes.receiving] at comes
          obtain ⟨receiving, named, current, last⟩ := comes
          subst hq
          exact .inr ⟨b, c, mine, parameter, ⟨receiving, named, current, last⟩⟩
    · exact .inl rfl
  case h_2 => exact .inl rfl

/-- A host command's row resets an accumulator only as the current command. -/
theorem State.commandStep_wear (s : State) (c : Command) (g : HeadNo) :
    ((s.commandStep c).head g).wear = (s.head g).wear ∨ ResetComes s c g := by
  refine (s.decoderStep_wear (s.ownByte c) g).imp_right ?_
  rintro ⟨b, c', mine, parameter, comes⟩
  have current : s.port.current = .known c := by simpa [State.ownByte, parameter] using mine
  obtain rfl : c = c' := Current.known.inj (current.symm.trans comes.current)
  exact comes

end Sys2Proof.Machine
end

section
/-! PROOFS. R87: a recorded report grows its head's wear accumulator by the stone removed times the band's wear rate;
nothing else in a store unit touches an accumulator. With the decoder's step this gives every step of the CM8. -/

namespace Sys2Proof.Machine

open Sys2Proof.Safety

/-! ## The store units of the Command Port and of the Copy Engine -/

theorem State.runUnit_sameWear (s : State) (u : PortUnit) : SameWear s (s.runUnit u) := by
  cases u with
  | tileOpen k =>
    simp only [State.runUnit, State.tileOpenUnit]
    split <;> simp [SameWear]
  | targetValue d | cutValue d =>
    simp only [State.runUnit, State.streamUnit]
    split <;> simp [SameWear]
  | fill d =>
    simp only [State.runUnit, State.fillUnit]
    split <;> simp [SameWear]
  | tileSeal =>
    simp only [State.runUnit, State.tileSealUnit]
    repeat' split
    all_goals simp [SameWear]
  | fenceWrite k rows =>
    simp only [State.runUnit, State.fenceWriteUnit]
    repeat' split
    all_goals simp [SameWear]
  | tileEdit k c d =>
    simp only [State.runUnit, State.tileEditUnit]
    repeat' split
    all_goals simp [SameWear]
  | tileRead k f =>
    simp only [State.runUnit, State.tileReadUnit]
    repeat' split
    all_goals simp [SameWear]

/-- R20: a row that runs some of the port's units leaves the accumulators alone. -/
theorem State.portUnitStep_sameWear (s : State) {run : PortUnit → Option State}
    (runs : ∀ u s', run u = some s' → s' = s.runUnit u) : SameWear s (s.portUnitStep run) := by
  simp only [State.portUnitStep]
  split
  case h_1 u _ _ =>
    split
    case h_1 s' ran =>
      obtain rfl := runs u s' ran
      exact (s.runUnit_sameWear u).trans (by simp [SameWear])
    case h_2 => exact SameWear.rfl
  case h_2 => exact SameWear.rfl

@[simp] theorem State.completeDest_wear (s : State) (dst : TileKey) :
    (s.completeDest dst).heads.map HeadUnit.wear = s.heads.map HeadUnit.wear := by
  simp only [State.completeDest]
  repeat' split
  all_goals simp

theorem State.completeCopy_sameWear (s : State) (job : CopyJob) : SameWear s (s.completeCopy job) := by
  have resumed (r : State) (h : HeadNo) : SameWear r (r.resumeCopyWait h) := by simp [SameWear, State.resumeCopyWait]
  exact SameWear.trans (by simp [SameWear]) (SameWear.foldl resumed _ _)

@[simp] theorem State.transferCell_heads (s : State) (job : CopyJob) : (s.transferCell job).heads = s.heads := by
  simp only [State.transferCell]
  split <;> simp

theorem State.copyUnit_sameWear (s : State) (job : CopyJob) : SameWear s (s.copyUnit job) := by
  simp only [State.copyUnit]
  split_ifs
  · simp [SameWear]
  · exact SameWear.trans (by simp [SameWear]) (State.completeCopy_sameWear _ job)

/-! ## The store units of the heads -/

/-- R87: the growth of the head's accumulator; becoming worn leaves it alone. -/
theorem State.growWear_wear (s : State) (h : HeadNo) (removed rate : Nat) (g : HeadNo) :
    ((s.growWear h removed rate).head g).wear =
      if g = h then grownWear (s.head h).wear removed rate else (s.head g).wear := by
  have grown : ((s.onHead h (fun hu => { hu with wear := grownWear hu.wear removed rate })).head g).wear =
      if g = h then grownWear (s.head h).wear removed rate else (s.head g).wear := by
    by_cases here : g = h <;> simp [State.head, Bank.at_put, here]
  simp only [State.growWear]
  split
  · exact ((State.onHead_sameWear _ h (fun hu => { hu with worn := true })).head g).trans grown
  · exact grown

@[simp] theorem State.finishIfNone_wear (s : State) (k : TileKey) :
    (s.finishIfNone k).heads.map HeadUnit.wear = s.heads.map HeadUnit.wear := by
  simp only [State.finishIfNone]
  repeat' split
  all_goals simp

theorem State.violation_sameWear (s : State) (v : Violation) (h : HeadNo) :
    SameWear s ((s.noteViolation v).onHead h HeadUnit.haltByViolation) := by
  have noted : SameWear s (s.noteViolation v) := by
    simp only [State.noteViolation]
    split <;> simp [SameWear]
  refine noted.trans (State.onHead_sameWear _ h _ fun hu => ?_)
  simp only [HeadUnit.haltByViolation]
  split <;> rfl

/-- R86, R87: of what a recorded report does, the growth of wear alone changes an accumulator. -/
theorem State.record_wear (s : State) (h : HeadNo) (o : Outstanding) (e : Entry) (g : HeadNo) :
    let c := cellIndex o.req.row o.req.col
    ((s.record h o e).head g).wear =
      if g = h then
        grownWear (s.head h).wear (o.req.depth - (s.cell e c).cut) (s.bandRecord e.key c).wearRate
      else (s.head g).wear := by
  have counted (t : State) (k : TileKey) (f : Entry → Entry) : SameWear t ((t.onEntry k f).finishIfNone k) := by
    simp [SameWear]
  simp only [State.record]
  split
  case h_1 => exact ((counted _ _ _).head g).trans (State.growWear_wear _ h _ _ g)
  case h_2 =>
    exact (((counted _ _ _).trans (State.violation_sameWear _ _ h)).head g).trans (State.growWear_wear _ h _ _ g)

/-- R85, R87: a report that goes no deeper than its cell's cut is kept and wears no tool. -/
theorem State.serveReport_wear (s : State) (h : HeadNo) (o : Outstanding) (e : Entry) (g : HeadNo) :
    let c := cellIndex o.req.row o.req.col
    ((s.serveReport h o e).head g).wear =
      if (s.cell e c).cut < o.req.depth ∧ g = h then
        grownWear (s.head h).wear (o.req.depth - (s.cell e c).cut) (s.bandRecord e.key c).wearRate
      else (s.head g).wear := by
  have ended (t : State) (status : Status) (value : Nat) : SameWear t (t.endRequest h status value 0) :=
    t.endRequest_wear h status value 0
  intro c
  by_cases kept : o.req.depth ≤ (s.cell e c).cut
  · rw [State.serveReport, if_pos kept, if_neg fun deeper => absurd deeper.1 (Nat.not_lt.2 kept)]
    exact (ended s .kept _).head g
  · have recorded := s.record_wear h o e g
    simp only [State.serveReport, c, if_neg kept, Nat.not_le.1 kept, true_and] at recorded ⊢
    split
    · exact ((ended _ _ _).head g).trans recorded
    · exact ((ended _ _ _).head g).trans recorded

theorem State.serveProbe_sameWear (s : State) (h : HeadNo) (o : Outstanding) (e : Entry) :
    SameWear s (s.serveProbe h o e) := by
  simp only [State.serveProbe]
  split <;> simp [SameWear]

/-- R26: a unit leaves the accumulators alone, or serves its request on an entry. -/
theorem State.recheck_wear (s : State) (h : HeadNo) (o : Outstanding) (k : TileKey)
    (serve : State → HeadNo → Outstanding → Entry → State) :
    SameWear s (s.recheck h o k serve) ∨ ∃ e, s.recheck h o k serve = serve s h o e := by
  simp only [State.recheck, State.meetCopying]
  split
  case h_1 => exact .inl (by simp [SameWear])
  case h_2 e _ =>
    split_ifs
    · exact .inl (by simp [SameWear])
    · exact .inl (by simp [SameWear])
    · exact .inl (by simp [SameWear])
    · exact .inr ⟨e, rfl⟩

theorem State.probeUnit_sameWear (s : State) (h : HeadNo) (o : Outstanding) (k : TileKey) :
    SameWear s (s.probeUnit h o k) := by
  have checked : SameWear s (s.recheck h o k State.serveProbe) := by
    obtain same | ⟨e, served⟩ := s.recheck_wear h o k State.serveProbe
    · exact same
    · exact served ▸ s.serveProbe_sameWear h o e
  exact checked.trans (by simp [SameWear, State.probeUnit])

/-- R86: what follows the re-check in a report's unit leaves the accumulators alone. -/
theorem State.reportUnit_wear (s : State) (h : HeadNo) (o : Outstanding) (k : TileKey) :
    SameWear (s.recheck h o k State.serveReport) (s.reportUnit h o k) := by
  simp only [SameWear, State.reportUnit, State.endUnit_heads, State.settle_wear, State.releaseCarriedOn]
  split <;> simp

/-! ## The growth at a recorded report -/

/-- R26: a report that meets its entry LIVE or DONE, and claimed where it must be, is served. -/
theorem State.recheck_serves {s : State} {h : HeadNo} {o : Outstanding} {k : TileKey} {e : Entry}
    (serve : State → HeadNo → Outstanding → Entry → State) (present : o.orphaned = false)
    (resident : s.entry k = some e)
    (ready : e.state = .done ∨ e.state = .live ∧ ((s.copy k.copy).shared = true → e.owner = some h)) :
    s.recheck h o k serve = serve s h o e := by
  have notCopying : e.state ≠ .copying := by rintro copying; simp [copying] at ready
  have found : s.requestEntry o k = some e := by
    have notFilling : e.state ≠ .filling := by rintro filling; simp [filling] at ready
    simp [State.requestEntry, present, resident, notFilling]
  have claimed : ¬(e.state = .live ∧ (s.copy k.copy).shared = true ∧ e.owner ≠ some h) := by
    rintro ⟨live, shared, unowned⟩
    obtain done | ⟨_, owned⟩ := ready
    · exact absurd (live.symm.trans done) (by decide)
    · exact unowned (owned shared)
  simp only [State.recheck, found, if_neg notCopying, if_neg claimed]

/-- R20: the row of a report's store unit runs it where the head holds the grant. -/
theorem exec_reportUnit {s : State} {h : HeadNo} {o : Outstanding} {k : TileKey} (granted : HeadUnitGranted s h o k)
    (kind : o.req.kind = .report) : exec (.reportUnit h) s = .next (s.reportUnit h o k) := by
  obtain ⟨outstanding, service, key, grant⟩ := granted
  simp only [exec, execReportUnit, State.headUnitStep, outstanding, key, grant, service, kind, and_self, if_true]

/-- R9, R66: the band record of a named cell is that of the band that takes its row. -/
theorem State.bandRecord_of_bandTakes {s : State} {k : TileKey} {c row col : Nat} {b : Fin 8}
    (names : NamesCell row col k c) (takes : BandTakes s k.copy row b) : s.bandRecord k c = s.band k.copy b := by
  have sameRow : cellRow k c = row := by
    obtain ⟨eq, -, -⟩ := names
    simp only [cellRow]
    omega
  rw [State.bandRecord, sameRow, bandOf_of_bandTakes takes]

/-- R87: the accumulators after the unit of a report that is served: that of its head has grown if the report is
deeper than the cut, and no other has changed. -/
theorem State.reportUnit_wear_served {s : State} {h : HeadNo} {o : Outstanding} {k : TileKey} {e : Entry} {c : Nat}
    {b : Fin 8} (present : o.orphaned = false) (resident : s.entry k = some e)
    (names : NamesCell o.req.row o.req.col k c) (takes : BandTakes s k.copy o.req.row b)
    (ready : e.state = .done ∨ e.state = .live ∧ ((s.copy k.copy).shared = true → e.owner = some h)) (g : HeadNo) :
    ((s.reportUnit h o k).head g).wear =
      if (s.cell e c).cut < o.req.depth ∧ g = h then
        grownWear (s.head h).wear (o.req.depth - (s.cell e c).cut) (s.band k.copy b).wearRate
      else (s.head g).wear := by
  have key : e.key = k := (State.entry_eq_some resident).2
  rw [(s.reportUnit_wear h o k).head g, State.recheck_serves State.serveReport present resident ready,
    State.serveReport_wear, cellIndex_of_namesCell names, key, State.bandRecord_of_bandTakes names takes]

/-! ## Every step -/

/-- No accumulator has fallen. -/
def WearRises (s t : State) : Prop := ∀ g : HeadNo, (s.head g).wear ≤ (t.head g).wear

theorem SameWear.rises {s t : State} (same : SameWear s t) : WearRises s t := fun g => (same.head g).ge

theorem WearRises.andThen {s t u : State} (first : WearRises s t) (second : SameWear t u) : WearRises s u :=
  fun g => (first g).trans (second.head g).ge

/-- Growth up to the maximum is growth where the accumulator is in its range. -/
theorem le_grownWear {wear : Nat} (inRange : wear ≤ Config.maxWear) (removed rate : Nat) :
    wear ≤ grownWear wear removed rate :=
  le_min (Nat.le_add_right _ _) inRange

theorem State.serveReport_wearRises {s : State} (order : HeadsInOrder s) (h : HeadNo) (o : Outstanding) (e : Entry) :
    WearRises s (s.serveReport h o e) := by
  intro g
  have inRange : (s.head h).wear ≤ Config.maxWear := by
    obtain ⟨-, wear, -, -⟩ := order h
    exact wear
  rw [State.serveReport_wear]
  split
  case isTrue grown => exact grown.2 ▸ le_grownWear inRange _ _
  case isFalse => exact le_rfl

theorem State.reportUnit_wearRises {s : State} (order : HeadsInOrder s) (h : HeadNo) (o : Outstanding) (k : TileKey) :
    WearRises s (s.reportUnit h o k) := by
  have checked : WearRises s (s.recheck h o k State.serveReport) := by
    obtain same | ⟨e, served⟩ := s.recheck_wear h o k State.serveReport
    · exact same.rises
    · exact served ▸ State.serveReport_wearRises order h o e
  exact checked.andThen (s.reportUnit_wear h o k)

/-- R20: a head's step lets no accumulator fall where its unit lets none fall. -/
theorem State.headUnitStep_wearRises {s : State} {h : HeadNo} {kind : RequestKind}
    {run : State → HeadNo → Outstanding → TileKey → State} (rises : ∀ o k, WearRises s (run s h o k)) :
    WearRises s (s.headUnitStep h kind run) := by
  simp only [State.headUnitStep]
  split
  case h_1 => exact SameWear.rfl.rises
  case h_2 o _ =>
    split
    case h_1 => exact SameWear.rfl.rises
    case h_2 k _ =>
      split_ifs
      · exact rises o k
      · exact SameWear.rfl.rises

/-- R87: the steps that may lower the accumulator of head `g`: reset, and the row of TOOL SET or HEAD BIND, or
PARAMETER_BYTE, about to take the last parameter of that command, which names the head. -/
def MayResetWear (i : Instr) (s : State) (g : HeadNo) : Prop :=
  i = .hardwareReset ∨ ∃ c, (i = rowOf c ∨ i = .parameterByte) ∧ ResetComes s c g

/-- R87 as `Obligations.WearGrowsByReports` says it of one step, its exceptions named `MayResetWear`. -/
theorem exec_wear_or_reset {i : Instr} {s t : State} (g : HeadNo) (order : HeadsInOrder s)
    (stepped : exec i s = .next t) : (s.head g).wear ≤ (t.head g).wear ∨ MayResetWear i s g := by
  have same {u : State} {p : Prop} (wear : SameWear s u) : (s.head g).wear ≤ (u.head g).wear ∨ p := .inl (wear.rises g)
  cases i
  case hardwareReset => exact .inr (.inl rfl)
  case resultRead | statusRead | ack | attnSetup | clearWork | timebase | copySetup | bandBounds | bandSet | copyQuery |
      headBind | headUnbind | toolSet | spindleSet | headHalt | headResume | stepMode | headStep | headQuery |
      tileOpen | window | targetWrite | cutWrite | fill | tileSeal | fenceWrite | tileEdit | tileRetire |
      tileDuplicate | claimBreak | tileQuery | tileRead | nextDone | violationRead | violationClear =>
    obtain rfl := Host.Outcome.next.inj stepped
    exact (s.commandStep_wear _ g).imp Eq.ge fun comes => .inr ⟨_, .inl rfl, comes⟩
  case parameterByte =>
    obtain rfl := Host.Outcome.next.inj stepped
    obtain wear | ⟨_, c, _, _, comes⟩ := s.decoderStep_wear (fun b => decide (b.line = .parameter)) g
    · exact .inl wear.ge
    · exact .inr (.inr ⟨c, .inr rfl, comes⟩)
  case unknownCommand =>
    obtain rfl := Host.Outcome.next.inj stepped
    obtain wear | ⟨b, _, mine, parameter, _⟩ := s.decoderStep_wear
      (fun b => decide (b.line = .command) && (commandOf b.value).isNone) g
    · exact .inl wear.ge
    · simp [parameter] at mine
  case tileOpenUnit | targetWriteValue | cutWriteValue | fillUnit | tileSealUnit | fenceWriteUnit | tileEditUnit |
      tileReadUnit =>
    obtain rfl := Host.Outcome.next.inj stepped
    refine same (State.portUnitStep_sameWear s ?_)
    rintro ⟨⟩ s' ran <;> cases ran
    rfl
  case probeUnit h =>
    exact Host.Outcome.next.inj stepped ▸
      .inl (State.headUnitStep_wearRises (fun o k => (s.probeUnit_sameWear h o k).rises) g)
  case reportUnit h =>
    exact Host.Outcome.next.inj stepped ▸ .inl (State.headUnitStep_wearRises (State.reportUnit_wearRises order h) g)
  case copyTransfer =>
    simp only [exec, execCopyTransfer] at stepped
    split at stepped
    case h_1 job _ _ => exact Host.Outcome.next.inj stepped ▸ same (s.copyUnit_sameWear job)
    case h_2 => exact Host.Outcome.next.inj stepped ▸ same SameWear.rfl
  case cpByte | chipSelectBreak | indexPulse => exact Host.Outcome.next.inj stepped ▸ same SameWear.rfl
  case probe | report | release | linkReset | framingError | badFrame | gapTimerExpiry | answerTransmitted =>
    exact Host.Outcome.next.inj stepped ▸ same (by simp [SameWear])
  case headLinkByte h value => exact Host.Outcome.next.inj stepped ▸ same (s.linkByte_sameWear h value)
  case timeBaseTick => exact Host.Outcome.next.inj stepped ▸ same s.tick_sameWear
  case unknownKind | stallEntry | holdTimerExpiry =>
    obtain rfl := Host.Outcome.next.inj stepped
    split <;> exact same (by simp [SameWear])

/-- The excuse of R87 in the words of the statement: the two commands, each with its count of parameters. -/
theorem MayResetWear.excuse {i : Instr} {s : State} {g : HeadNo} (resets : MayResetWear i s g) :
    i = .hardwareReset ∨
      (s.port.phase = .receiving ∧ s.port.values.head? = some g.val ∧
        (((i = .toolSet ∨ i = .parameterByte) ∧ s.port.current = .known .toolSet ∧ s.port.values.length = 2) ∨
          ((i = .headBind ∨ i = .parameterByte) ∧ s.port.current = .known .headBind ∧ s.port.values.length = 6))) := by
  obtain reset | ⟨c, row, ⟨receiving, named, current, last⟩⟩ := resets
  · exact .inl reset
  obtain ⟨rfl, length⟩ | ⟨rfl, length⟩ := last
  · exact .inr ⟨receiving, named, .inl ⟨row, current, length⟩⟩
  · exact .inr ⟨receiving, named, .inr ⟨row, current, length⟩⟩

/-- R87: an accumulator in its range gives a wear offset of at most 1023. -/
theorem HeadUnit.wearOffset_le {hu : HeadUnit} (inRange : hu.wear ≤ Config.maxWear) : hu.wearOffset ≤ 1023 := by
  simp only [Config.maxWear] at inRange
  simp only [HeadUnit.wearOffset]
  omega

/-- Settles O48: the growth from the unit of a served report, the offset from the accumulator's range, and the last
part from the case split over the commands in `exec_wear_or_reset`. -/
theorem wearGrowsByReports : Obligations.WearGrowsByReports := by
  unfold Obligations.WearGrowsByReports
  refine ⟨?growth, fun s h order => ⟨rfl, ?offset⟩, fun i s t g order stepped => ?step⟩
  case growth =>
    intro s t h o k e c b granted kind present resident names takes ready stepped cut
    obtain rfl : s.reportUnit h o k = t := Host.Outcome.next.inj ((exec_reportUnit granted kind).symm.trans stepped)
    have wear := State.reportUnit_wear_served present resident names takes ready
    refine ⟨fun deeper => ?_, fun kept => ?_, fun g other => ?_⟩
    · exact (wear h).trans (if_pos ⟨deeper, rfl⟩)
    · exact (wear h).trans (if_neg fun grown => absurd grown.1 (Nat.not_lt.2 kept))
    · exact (wear g).trans (if_neg fun grown => other grown.2)
  case offset =>
    obtain ⟨-, inRange, -, -⟩ := order h
    exact HeadUnit.wearOffset_le inRange
  case step => exact (exec_wear_or_reset g order stepped).imp_right MayResetWear.excuse

end Sys2Proof.Machine
end

section
/-! PROOFS. R139 to R143: what index pulses and ticks do to the load monitors. First a monitor by itself, a tick and a
pulse of it in each of their cases; then the bank of eight, where a pulse changes one monitor and a tick of the Time
Base changes each as if it stood alone. -/

namespace Sys2Proof.Machine

open Sys2Proof.Safety

/-! ## A tick at a monitor (R139) -/

/-- R139: the monitor after one tick. -/
def LoadMonitor.ticked (m : LoadMonitor) : LoadMonitor :=
  if m.atBrink then m.saturate else if m.counts then { m with counter := m.counter + 1 } else m

theorem LoadMonitor.counts_of {m : LoadMonitor} (running : m.running = true)
    (measures : m.state ≠ .stalled ∨ m.opened = true) : m.counts = true := by
  simpa [LoadMonitor.counts, running] using measures

theorem LoadMonitor.ticked_brink {m : LoadMonitor} (counts : m.counts = true) (brink : 65534 ≤ m.counter) :
    m.ticked = { m with state := .stalled, opened := false, index := 0, counter := 65535 } := by
  have atBrink : m.atBrink = true := by simpa [LoadMonitor.atBrink, counts, Config.counterTop] using brink
  rw [LoadMonitor.ticked, if_pos atBrink]
  rfl

theorem LoadMonitor.ticked_ordinary {m : LoadMonitor} (counts : m.counts = true) (below : m.counter < 65534) :
    m.ticked = { m with counter := m.counter + 1 } := by
  have notAtBrink : m.atBrink = false := by simpa [LoadMonitor.atBrink, counts, Config.counterTop] using below
  simp [LoadMonitor.ticked, notAtBrink, counts]

/-! ## An index pulse at a monitor (R140, R141, R143) -/

theorem LoadMonitor.openWindow_pending {m : LoadMonitor} (pending : m.pendFlag = true) :
    m.openWindow = { m with
      counter := 0, index := 0, opened := true, curN := m.pendN, curP0 := m.pendP0, pendFlag := false
      state := if m.state = .valid then .none else m.state } :=
  if_pos pending

theorem LoadMonitor.openWindow_settled {m : LoadMonitor} (settled : m.pendFlag = false) :
    m.openWindow = { m with counter := 0, index := 0, opened := true } :=
  if_neg (by simp [settled])

theorem LoadMonitor.pulse_stopped {m : LoadMonitor} (stopped : m.running = false) : m.pulse = m := by
  simp [LoadMonitor.pulse, stopped]

theorem LoadMonitor.pulse_closed {m : LoadMonitor} (running : m.running = true) (closed : m.opened = false) :
    m.pulse = m.openWindow := by
  simp [LoadMonitor.pulse, running, closed]

theorem LoadMonitor.pulse_short {m : LoadMonitor} (running : m.running = true) (opened : m.opened = true)
    (short : m.index + 1 < m.curN) : m.pulse = { m with index := m.index + 1 } := by
  simp [LoadMonitor.pulse, running, opened, short]

/-- R141: the period completed is at least 1. -/
theorem LoadMonitor.pulse_last {m : LoadMonitor} (running : m.running = true) (opened : m.opened = true)
    (last : m.curN ≤ m.index + 1) :
    m.pulse = LoadMonitor.openWindow { m with lastP := max m.counter 1, state := .valid } := by
  simp [LoadMonitor.pulse, running, opened, Nat.not_lt.2 last, LoadMonitor.completeWindow]

/-! ## The bank of eight -/

@[simp] theorem State.monitor_onMonitor (s : State) (h : HeadNo) (f : LoadMonitor → LoadMonitor) :
    (s.onMonitor h f).monitor h = f (s.monitor h) :=
  Bank.at_put_same _ _ _

theorem State.onMonitor_of_fixed {s : State} {h : HeadNo} {f : LoadMonitor → LoadMonitor}
    (fixed : f (s.monitor h) = s.monitor h) : s.onMonitor h f = s := by
  have bank : Bank.put s.monitors h (f (s.monitor h)) = s.monitors := by
    rw [fixed]
    exact Bank.put_same s.monitors h
  rw [State.onMonitor, bank]

theorem exec_indexPulse {s : State} {h : HeadNo} {m : LoadMonitor} (pulse : (s.monitor h).pulse = m) :
    exec (.indexPulse h) s = .next { s with monitors := Bank.put s.monitors h m } := by
  subst pulse
  rfl

@[simp] theorem State.stallEntry_monitors (s : State) (h : HeadNo) :
    (s.stallEntry h).monitors = Bank.put s.monitors h (s.monitor h).saturate := by
  simp only [State.stallEntry]
  split <;> rfl

theorem State.monitorTick_monitors (s : State) (h : HeadNo) :
    (s.monitorTick h).monitors = Bank.put s.monitors h (s.monitor h).ticked := by
  simp only [State.monitorTick, LoadMonitor.ticked]
  split_ifs
  · exact s.stallEntry_monitors h
  · rfl
  · exact (Bank.put_same s.monitors h).symm

/-- A tick at the monitors of a list of heads, none named twice, ticks those monitors once and no others. -/
theorem State.monitor_foldl_monitorTick {heads : List HeadNo} (distinct : heads.Nodup) (s : State) (g : HeadNo) :
    (heads.foldl State.monitorTick s).monitor g = if g ∈ heads then (s.monitor g).ticked else s.monitor g := by
  induction heads generalizing s with
  | nil => rfl
  | cons h rest ih =>
    obtain ⟨new, distinctRest⟩ := List.nodup_cons.1 distinct
    have first : (s.monitorTick h).monitor g = if g = h then (s.monitor h).ticked else s.monitor g := by
      rw [State.monitor, State.monitorTick_monitors, Bank.at_put]
      rfl
    rw [List.foldl_cons, ih distinctRest, first]
    by_cases here : g = h
    · subst here
      simp [new]
    · simp [here]

@[simp] theorem State.holdTick_monitors (s : State) (h : HeadNo) : (s.holdTick h).monitors = s.monitors := by
  simp only [State.holdTick, State.holdExpiry]
  split <;> simp

theorem State.foldl_holdTick_monitors (heads : List HeadNo) (s : State) :
    (heads.foldl State.holdTick s).monitors = s.monitors := by
  induction heads generalizing s with
  | nil => rfl
  | cons h rest ih => rw [List.foldl_cons, ih, State.holdTick_monitors]

/-- R135: a tick of the Time Base is one tick at every monitor; the hold timers do not touch them. -/
@[simp] theorem State.monitor_tick (s : State) (h : HeadNo) : s.tick.monitor h = (s.monitor h).ticked := by
  have every : h ∈ allHeads := by revert h; decide
  calc s.tick.monitor h
      = (allHeads.foldl State.monitorTick s).monitor h := by
        rw [State.monitor, State.tick, State.foldl_holdTick_monitors]
        rfl
    _ = (s.monitor h).ticked := by rw [State.monitor_foldl_monitorTick (by decide), if_pos every]

/-! ## The pulse's cases -/

/-- Settles O54, by the cases of a pulse; at a window's start, by whether values wait. -/
theorem indexPulseMeasures : Obligations.IndexPulseMeasures := by
  unfold Obligations.IndexPulseMeasures
  intro s h m put opening
  have opens {m' : LoadMonitor} (flag : m'.pendFlag = m.pendFlag) (n : m'.pendN = m.pendN)
      (p0 : m'.pendP0 = m.pendP0) : m'.openWindow = opening m' := by
    cases pending : m.pendFlag with
    | true => simp [opening, pending, LoadMonitor.openWindow_pending (flag.trans pending), n, p0]
    | false => simp [opening, pending, LoadMonitor.openWindow_settled (flag.trans pending)]
  refine ⟨fun stopped => ?stopped, fun running closed => ?closed, fun running opened short => ?short,
    fun running opened last => ?last⟩
  case stopped => exact congrArg _ (State.onMonitor_of_fixed (LoadMonitor.pulse_stopped stopped))
  case closed => exact exec_indexPulse ((LoadMonitor.pulse_closed running closed).trans (opens rfl rfl rfl))
  case short => exact exec_indexPulse (LoadMonitor.pulse_short running opened short)
  case last => exact exec_indexPulse ((LoadMonitor.pulse_last running opened last).trans (opens rfl rfl rfl))

/-! ## A pulse and a tick in either order (R142) -/

section
variable {m : LoadMonitor}

/-- R139: the window that a pulse opens counts 1 at the next tick. -/
theorem LoadMonitor.ticked_openWindow (running : m.running = true) (settled : m.pendFlag = false) :
    m.openWindow.ticked = { m with counter := 1, index := 0, opened := true } := by
  have ordinary : (0 : Nat) < 65534 := by decide
  rw [LoadMonitor.openWindow_settled settled]
  exact LoadMonitor.ticked_ordinary (LoadMonitor.counts_of running (.inr rfl)) ordinary

theorem LoadMonitor.ticked_pulse_last (running : m.running = true) (settled : m.pendFlag = false)
    (opened : m.opened = true) (last : m.index + 1 = m.curN) :
    m.pulse.ticked =
      { m with lastP := max m.counter 1, state := .valid, opened := true, counter := 1, index := 0 } := by
  rw [LoadMonitor.pulse_last running opened last.ge]
  exact LoadMonitor.ticked_openWindow running settled

/-- R142: a pulse that opens a window, taken before the tick, saves the monitor from the stall. -/
theorem LoadMonitor.ticked_pulse_closed (running : m.running = true) (settled : m.pendFlag = false)
    (closed : m.opened = false) : m.pulse.ticked = { m with opened := true, counter := 1, index := 0 } := by
  rw [LoadMonitor.pulse_closed running closed]
  exact LoadMonitor.ticked_openWindow running settled

/-- R142: a pulse short of the N-th, taken before the tick, is lost in the stall. -/
theorem LoadMonitor.ticked_pulse_short (running : m.running = true) (opened : m.opened = true)
    (short : m.index + 1 < m.curN) (brink : 65534 ≤ m.counter) :
    m.pulse.ticked = { m with state := .stalled, opened := false, index := 0, counter := 65535 } := by
  rw [LoadMonitor.pulse_short running opened short]
  exact LoadMonitor.ticked_brink (LoadMonitor.counts_of running (.inr opened)) brink

/-- R142: a pulse after the stalling tick opens a window of the stalled monitor. -/
theorem LoadMonitor.pulse_ticked_brink (running : m.running = true) (settled : m.pendFlag = false)
    (measures : m.state ≠ .stalled ∨ m.opened = true) (brink : 65534 ≤ m.counter) :
    m.ticked.pulse = { m with state := .stalled, opened := true, counter := 0, index := 0 } := by
  rw [LoadMonitor.ticked_brink (LoadMonitor.counts_of running measures) brink]
  exact Eq.trans (LoadMonitor.pulse_closed running rfl) (LoadMonitor.openWindow_settled settled)

/-- R142: at an ordinary tick the N-th pulse, taken after it, completes a period longer by 1. -/
theorem LoadMonitor.pulse_ticked_last (running : m.running = true) (settled : m.pendFlag = false)
    (opened : m.opened = true) (last : m.index + 1 = m.curN) (below : m.counter < 65534) :
    m.ticked.pulse =
      { m with lastP := max (m.counter + 1) 1, state := .valid, opened := true, counter := 0, index := 0 } := by
  rw [LoadMonitor.ticked_ordinary (LoadMonitor.counts_of running (.inr opened)) below]
  exact Eq.trans (LoadMonitor.pulse_last running opened last.ge) (LoadMonitor.openWindow_settled settled)

end

/-- Settles O55: each order leaves at the head's monitor what it leaves at a monitor by itself. -/
theorem pulseAndTickOrders : Obligations.PulseAndTickOrders := by
  unfold Obligations.PulseAndTickOrders
  intro s h running settled m
  refine ⟨_, _, _, _, rfl, rfl, rfl, rfl, ?_⟩
  simp only [State.monitor_tick, State.monitor_onMonitor]
  refine ⟨fun brink measures => ⟨fun opened last => ?last, fun opened short => ⟨?counted, ?lost⟩,
    fun closed _ => ?opens, ?stalls, ?reopens⟩, fun opened positive below last => ?ordinary⟩
  case last =>
    have period : max m.counter 1 = 65534 := by simp [brink]
    rw [LoadMonitor.ticked_pulse_last running settled opened last, period]
  case counted => rw [LoadMonitor.pulse_short running opened short]
  case lost => exact LoadMonitor.ticked_pulse_short running opened short brink.ge
  case opens => exact LoadMonitor.ticked_pulse_closed running settled closed
  case stalls => exact LoadMonitor.ticked_brink (LoadMonitor.counts_of running measures) brink.ge
  case reopens => exact LoadMonitor.pulse_ticked_brink running settled measures brink.ge
  case ordinary =>
    rw [LoadMonitor.ticked_pulse_last running settled opened last,
      LoadMonitor.pulse_ticked_last running settled opened last below]
    exact ⟨max_eq_left positive, max_eq_left (Nat.le_add_left 1 m.counter), rfl, rfl⟩

end Sys2Proof.Machine
end

section
/-! PROOFS. R135, R136: TIMEBASE. It rests on the rule of a setting command at its last parameter byte. -/

namespace Sys2Proof.Machine

open Sys2Proof.Safety

/-- R165: a setting command that has not been refused completes with OK. -/
theorem State.completeSetting_receiving {s : State} (receiving : s.port.phase = .receiving) :
    s.completeSetting = withResult { s with port := { s.port with phase := .complete } } .ok :=
  if_pos receiving

/-- R165: a setting command stores its last parameter, and completes, at the byte that completes the parameter. -/
theorem exec_setting_last {s : State} {c : Command} {vals : List Nat} {rest : List IntakeByte}
    (takes : TakesParameter s c vals rest) (setting : c.row.cls = .setting) (last : vals.length = c.row.widths.length) :
    exec (rowOf c) s = .next ((tookParameter s .receiving vals rest).storeSetting c vals).completeSetting := by
  have notStream : c.row.cls ≠ .stream := by simp [setting]
  rw [exec_rowOf, State.commandStep_parameter takes notStream, setting]
  simp only [last, if_true]

/-- Settles O12: TIMEBASE has one parameter, so the byte that completes it stores p and completes the command. -/
theorem timebaseRestartsMonitors : Obligations.TimebaseRestartsMonitors := by
  unfold Obligations.TimebaseRestartsMonitors
  intro s p rest takes
  have stores : exec .timebase s =
      .next ((tookParameter s .receiving [p] rest).storeTimebase [p]).completeSetting :=
    exec_setting_last takes rfl rfl
  rw [stores, State.completeSetting_receiving rfl]
  rfl

end Sys2Proof.Machine
end

section
/-! PROOFS. Every step, once: the 65 rows of the table come down to the moves below (`exec_moves`), so that an
invariant needs one argument for each move; and what a move can be when the decoder takes a byte
(`DecoderKeeps.decodeByte`). -/

namespace Sys2Proof.Machine

open Sys2Proof.Safety

/-- What command `i` can do to the state. Rows that share a meaning share a constructor: the decoder's rows, the port's
store units, and the frames that arrive whole or byte by byte. -/
inductive Moves (i : Instr) (s : State) : State → Prop
  | idle : Moves i s s
  | reset (row : i = .hardwareReset) : Moves i s { State.reset with pending := s.pending }
  | wireByte (line : PortLine) (value : Byte) (early : Bool) :
      Moves i s (s.onPort (fun p => p.takeByte line value early))
  | chipSelect : Moves i s (s.onPort (fun p => { p with bitCount := 0 }))
  | decodes (b : IntakeByte) (rest : List IntakeByte) (free : s.port.unit = none) (front : s.port.intake = b :: rest)
      (row : ∀ c : Command, b.line = .command → b.value = c.row.code → i = rowOf c) :
      Moves i s (s.decodeByte b rest)
  | portUnit (u : PortUnit) (granted : PortUnitGranted s u) : Moves i s (s.runUnit u).endPortUnit
  | probeUnit (h : HeadNo) (o : Outstanding) (k : TileKey) (granted : HeadUnitGranted s h o k)
      (kind : o.req.kind = .probe) : Moves i s (s.probeUnit h o k)
  | reportUnit (h : HeadNo) (o : Outstanding) (k : TileKey) (granted : HeadUnitGranted s h o k)
      (kind : o.req.kind = .report) : Moves i s (s.reportUnit h o k)
  | transfer (job : CopyJob) (busy : s.engine.job = some job) (granted : s.arb.granted = some .ce) :
      Moves i s (s.copyUnit job)
  | request (h : HeadNo) (kind : RequestKind) (tag : Byte) (row col depth : Nat) :
      Moves i s ((s.huntAgain h).requestArrives h (requestOf kind tag row col depth))
  | linkReset (h : HeadNo) : Moves i s ((s.huntAgain h).linkReset h)
  | badFrame (h : HeadNo) : Moves i s (s.badFrame h)
  | lost (h : HeadNo) : Moves i s ((s.huntAgain h).raise .linkFault)
  | answerSent (h : HeadNo) : Moves i s (s.answerSent h)
  | receives (h : HeadNo) (rx : Receiver) (order : ReceiverInOrder (s.link h).rx → ReceiverInOrder rx) :
      Moves i s (s.onLink h (fun l => { l with rx := rx }))
  | pulse (h : HeadNo) : Moves i s (s.onMonitor h LoadMonitor.pulse)
  | stall (h : HeadNo) (brink : (s.monitor h).atBrink = true) : Moves i s (s.stallEntry h)
  | expiry (h : HeadNo) (brink : s.holdAtBrink h = true) : Moves i s (s.holdExpiry h)
  | tick : Moves i s s.tick

/-! ## The decoder's rows and the store units -/

theorem State.decoderStep_moves {i : Instr} (s : State) {own : IntakeByte → Bool}
    (row : ∀ b, own b = true → ∀ c : Command, b.line = .command → b.value = c.row.code → i = rowOf c) :
    Moves i s (s.decoderStep own) := by
  simp only [State.decoderStep]
  split
  case h_1 b rest free front =>
    split_ifs with mine
    · exact .decodes b rest free front (row b mine)
    · exact .idle
  case h_2 => exact .idle

/-- R170: a code is that of one command. -/
theorem Command.eq_of_code {c d : Command} (same : c.row.code = d.row.code) : c = d := by
  have found := commandOf_code c
  rw [same, commandOf_code] at found
  exact (Option.some.inj found).symm

theorem State.commandStep_moves {i : Instr} (s : State) (c : Command) (row : i = rowOf c) :
    Moves i s (s.commandStep c) := by
  subst row
  refine s.decoderStep_moves fun b mine d command code => ?_
  have value : b.value = c.row.code := by simpa [State.ownByte, command] using mine
  rw [Command.eq_of_code (value.symm.trans code)]

theorem State.portUnitStep_moves {i : Instr} (s : State) {run : PortUnit → Option State}
    (runs : ∀ u s', run u = some s' → s' = s.runUnit u) : Moves i s (s.portUnitStep run) := by
  simp only [State.portUnitStep]
  split
  case h_1 u grant unit =>
    split
    case h_1 s' ran => exact runs u s' ran ▸ .portUnit u ⟨unit, grant⟩
    case h_2 => exact .idle
  case h_2 => exact .idle

theorem State.headUnitStep_moves {i : Instr} {s : State} {h : HeadNo} {kind : RequestKind}
    {run : State → HeadNo → Outstanding → TileKey → State}
    (runs : ∀ o k, HeadUnitGranted s h o k → o.req.kind = kind → Moves i s (run s h o k)) :
    Moves i s (s.headUnitStep h kind run) := by
  simp only [State.headUnitStep]
  split
  case h_1 => exact .idle
  case h_2 o outstanding =>
    split
    case h_1 => exact .idle
    case h_2 k key =>
      split_ifs with ready
      · obtain ⟨grant, service, sameKind⟩ := ready
        exact runs o k ⟨outstanding, service, key, grant⟩ sameKind
      · exact .idle

/-! ## The links' rows -/

/-- R148: the receiver as it waits for the KIND byte. -/
theorem receiverInOrder_kind : ReceiverInOrder { Receiver.reset with state := .kind, gapRunning := true } := rfl

/-- R149: the receiver right after a known KIND byte. -/
theorem receiverInOrder_begun {kind : Byte} {n : Nat} (known : bytesAfterKind kind = some n) :
    ReceiverInOrder { state := .body, kind := kind, expected := n, sum := kind, payload := [], gapRunning := true } := by
  have positive : 1 ≤ n := by
    simp only [bytesAfterKind] at known
    split_ifs at known <;> cases known <;> decide
  exact ⟨rfl, positive, by simpa using known, by simp [byteSum]⟩

/-- R148: the receiver after one more byte in BODY. -/
theorem receiverInOrder_next {rx : Receiver} (order : ReceiverInOrder rx) (body : rx.state = .body)
    (more : 1 < rx.expected) (b : Byte) :
    ReceiverInOrder { rx with
      expected := rx.expected - 1, sum := rx.sum + b, payload := rx.payload ++ [b], gapRunning := true } := by
  simp only [ReceiverInOrder, body] at order ⊢
  obtain ⟨-, -, known, sum⟩ := order
  have counted : rx.payload.length + rx.expected = rx.payload.length + 1 + (rx.expected - 1) := by omega
  refine ⟨trivial, by omega, ?_, ?_⟩
  · simpa [← counted] using known
  · rw [sum, byteSum, byteSum, ← List.cons_append, List.foldl_append]
    rfl

theorem State.takeFrame_moves {i : Instr} (s : State) (h : HeadNo) (kind : Byte) (payload : List Byte) :
    Moves i s ((s.huntAgain h).takeFrame h kind payload) :=
  match payload with
  | [] => .linkReset h
  | [tag, r1, r0, c1, c0] => .request h (if kind = 0x01 then .probe else .release) tag (joinBytes r1 r0) (joinBytes c1 c0) 0
  | [tag, r1, r0, c1, c0, d1, d0] => .request h .report tag (joinBytes r1 r0) (joinBytes c1 c0) (joinBytes d1 d0)
  | [_] | [_, _] | [_, _, _] | [_, _, _, _] | [_, _, _, _, _, _] | _ :: _ :: _ :: _ :: _ :: _ :: _ :: _ :: _ =>
    .receives h Receiver.reset fun _ => rfl

theorem State.linkByte_moves {i : Instr} (s : State) (h : HeadNo) (b : Byte) : Moves i s (s.linkByte h b) := by
  simp only [State.linkByte]
  split
  case h_1 =>
    split_ifs
    · exact .receives h _ fun _ => receiverInOrder_kind
    · exact .idle
  case h_2 =>
    simp only [State.kindByte]
    split
    case h_1 => exact .badFrame h
    case h_2 known => exact .receives h _ fun _ => receiverInOrder_begun known
  case h_3 body =>
    simp only [State.bodyByte]
    split_ifs with more
    · exact .receives h _ fun order => receiverInOrder_next order body more b
    · exact s.takeFrame_moves h _ _
    · exact .badFrame h

theorem State.losePartial_moves {i : Instr} (s : State) (h : HeadNo) : Moves i s (s.losePartial h) := by
  simp only [State.losePartial]
  split_ifs
  · exact .idle
  · exact .lost h

/-! ## Every row -/

/-- Every command answers a next state, which is that of one of the moves. -/
theorem exec_moves (i : Instr) (s : State) : ∃ t, exec i s = .next t ∧ Moves i s t := by
  cases i
  case hardwareReset => exact ⟨_, rfl, .reset rfl⟩
  case cpByte line value early => exact ⟨_, rfl, .wireByte line value early⟩
  case chipSelectBreak => exact ⟨_, rfl, .chipSelect⟩
  case parameterByte => exact ⟨_, rfl, s.decoderStep_moves (by simp +contextual)⟩
  case unknownCommand =>
    refine ⟨_, rfl, s.decoderStep_moves fun b mine c command code => ?_⟩
    simp [command, code] at mine
  case resultRead | statusRead | ack | attnSetup | clearWork | timebase | copySetup |
      bandBounds | bandSet | copyQuery | headBind | headUnbind | toolSet | spindleSet | headHalt | headResume |
      stepMode | headStep | headQuery | tileOpen | window | targetWrite | cutWrite | fill | tileSeal | fenceWrite |
      tileEdit | tileRetire | tileDuplicate | claimBreak | tileQuery | tileRead | nextDone | violationRead |
      violationClear =>
    exact ⟨_, rfl, s.commandStep_moves _ rfl⟩
  case tileOpenUnit | targetWriteValue | cutWriteValue | fillUnit | tileSealUnit | fenceWriteUnit | tileEditUnit |
      tileReadUnit =>
    refine ⟨_, rfl, s.portUnitStep_moves ?_⟩
    rintro ⟨⟩ s' ran <;> cases ran
    rfl
  case probeUnit h => exact ⟨_, rfl, State.headUnitStep_moves fun o k granted kind => .probeUnit h o k granted kind⟩
  case reportUnit h => exact ⟨_, rfl, State.headUnitStep_moves fun o k granted kind => .reportUnit h o k granted kind⟩
  case copyTransfer =>
    simp only [exec, execCopyTransfer]
    split
    case h_1 job busy granted => exact ⟨_, rfl, .transfer job busy granted⟩
    case h_2 => exact ⟨_, rfl, .idle⟩
  case probe h tag row col => exact ⟨_, rfl, .request h .probe tag row.toNat col.toNat 0⟩
  case report h tag row col depth => exact ⟨_, rfl, .request h .report tag row.toNat col.toNat depth.toNat⟩
  case release h tag row col => exact ⟨_, rfl, .request h .release tag row.toNat col.toNat 0⟩
  case linkReset h => exact ⟨_, rfl, .linkReset h⟩
  case headLinkByte h b => exact ⟨_, rfl, s.linkByte_moves h b⟩
  case framingError h => exact ⟨_, rfl, s.losePartial_moves h⟩
  case gapTimerExpiry h =>
    refine ⟨_, rfl, ?_⟩
    simp only [State.gapExpiry]
    split_ifs
    · exact s.losePartial_moves h
    · exact .idle
  case badFrame h => exact ⟨_, rfl, .badFrame h⟩
  case unknownKind h kind =>
    refine ⟨_, rfl, ?_⟩
    split_ifs
    · exact .badFrame h
    · exact .idle
  case answerTransmitted h => exact ⟨_, rfl, .answerSent h⟩
  case timeBaseTick => exact ⟨_, rfl, .tick⟩
  case indexPulse h => exact ⟨_, rfl, .pulse h⟩
  case stallEntry h =>
    refine ⟨_, rfl, ?_⟩
    split_ifs with brink
    · exact .stall h brink
    · exact .idle
  case holdTimerExpiry h =>
    refine ⟨_, rfl, ?_⟩
    split_ifs with brink
    · exact .expiry h brink
    · exact .idle

theorem moves_of_exec {i : Instr} {s t : State} (stepped : exec i s = .next t) : Moves i s t := by
  obtain ⟨u, answered, moves⟩ := exec_moves i s
  rwa [Host.Outcome.next.inj (stepped.symm.trans answered)]

/-- An invariant that does not speak of the queue of commands is kept by every step where it is kept by every move. -/
theorem keptByEveryStep_of_moves {inv : State → Prop} (queue : ∀ s rest, inv s → inv { s with pending := rest })
    (kept : ∀ {i s t}, inv s → Moves i s t → inv t) : KeptByEveryStep inv := by
  intro s t holds stepped
  simp only [step] at stepped
  split at stepped
  case h_1 => exact Host.Outcome.next.inj stepped ▸ holds
  case h_2 c rest _ => exact kept (queue s rest holds) (moves_of_exec stepped)

end Sys2Proof.Machine
end

section
/-! PROOFS. What the way of a head's request leaves alone. Its operations move claims, wait lists, outstanding requests,
answers, flags and grants; everything else they leave (`State.base`). One lemma per operation. -/

namespace Sys2Proof.Machine

open Sys2Proof.Safety

/-- An entry without its claim and its wait list. -/
def Entry.bare (e : Entry) : Entry := { e with owner := none, waiters := [] }

/-- The head record (R117), without the outstanding slot and the buffer. -/
def HeadUnit.record (hu : HeadUnit) : HeadUnit := { hu with outstanding := none, buffer := none }

/-- A link without its transmit queue. -/
def Link.untold (l : Link) : Link := { l with tx := [] }

/-- The part of the state that a request on its way leaves alone. -/
def State.base (s : State) : State :=
  { s with
    dir := s.dir.map Entry.bare
    heads := s.heads.map HeadUnit.record
    links := s.links.map Link.untold
    engine := { s.engine with waiting := [] }
    claims := State.reset.claims
    arb := State.reset.arb
    attn := State.reset.attn }

/-! ## The shared operations -/

theorem State.onEntry_base (s : State) (k : TileKey) (f : Entry → Entry)
    (same : ∀ e, (f e).bare = e.bare := by exact fun _ => rfl) : (s.onEntry k f).base = s.base := by
  have dir : (s.onEntry k f).dir.map Entry.bare = s.dir.map Entry.bare := by
    rw [State.onEntry_dir, List.map_map]
    refine List.map_congr_left fun e _ => ?_
    by_cases hk : e.key = k <;> simp [hk, same]
  simp only [State.base, dir]
  rfl

@[simp] theorem State.setWaiters_base (s : State) (k : TileKey) (f : Entry → List HeadNo) :
    (s.onEntry k (fun e => { e with waiters := f e })).base = s.base := s.onEntry_base k _

@[simp] theorem State.setOwner_base (s : State) (k : TileKey) (o : Option HeadNo) :
    (s.onEntry k (fun e => { e with owner := o })).base = s.base := s.onEntry_base k _

@[simp] theorem State.onClaim_base (s : State) (h : HeadNo) (f : ClaimUnit → ClaimUnit) :
    (s.onClaim h f).base = s.base := rfl

@[simp] theorem State.raise_base (s : State) (x : EventFlag) : (s.raise x).base = s.base := rfl

@[simp] theorem State.present_base (s : State) (r : Requester) : (s.present r).base = s.base := by
  rw [State.present_eq]
  rfl

@[simp] theorem State.withdraw_base (s : State) (r : Requester) : (s.withdraw r).base = s.base := by
  rw [State.withdraw_eq]
  rfl

@[simp] theorem State.endUnit_base (s : State) (r : Requester) : (s.endUnit r).base = s.base := rfl

theorem Bank.map_put_of_same {α β : Type} (f : α → β) (b : Bank α) (h : Fin 8) (x : α) (same : f x = f (Bank.at b h)) :
    (Bank.put b h x).map f = b.map f := by
  apply Bank.ext
  intro g
  by_cases here : g = h <;> simp [Bank.at_put, here, same]

theorem State.onHead_base (s : State) (h : HeadNo) (f : HeadUnit → HeadUnit)
    (same : ∀ hu, (f hu).record = hu.record := by exact fun _ => rfl) : (s.onHead h f).base = s.base := by
  have heads : (s.onHead h f).heads.map HeadUnit.record = s.heads.map HeadUnit.record :=
    Bank.map_put_of_same _ _ _ _ (same _)
  simp only [State.base, heads]
  rfl

@[simp] theorem State.setOutstanding_base (s : State) (h : HeadNo) (o : Option Outstanding) :
    (s.setOutstanding h o).base = s.base := s.onHead_base h _

@[simp] theorem State.setWait_base (s : State) (h : HeadNo) (w : WaitKind) : (s.setWait h w).base = s.base :=
  s.onHead_base h _

@[simp] theorem State.setBuffer_base (s : State) (h : HeadNo) (b : Option Request) :
    (s.onHead h (fun hu => { hu with buffer := b })).base = s.base := s.onHead_base h _

@[simp] theorem State.queueAnswer_base (s : State) (h : HeadNo) (a : Answer) : (s.queueAnswer h a).base = s.base := by
  have links : (s.queueAnswer h a).links.map Link.untold = s.links.map Link.untold :=
    Bank.map_put_of_same _ _ _ _ rfl
  simp only [State.base, links]
  rfl

@[simp] theorem State.setWaiting_base (s : State) (f : CopyEngine → List HeadNo) :
    (s.onEngine (fun e => { e with waiting := f e })).base = s.base := rfl

@[simp] theorem State.endRequest_base (s : State) (h : HeadNo) (status : Status) (value dwell : Nat) :
    (s.endRequest h status value dwell).base = s.base := by
  simp only [State.endRequest]
  repeat' split
  all_goals simp

@[simp] theorem State.proceed_base (s : State) (h : HeadNo) : (s.proceed h).base = s.base := by
  simp [State.proceed]

/-! ## Claims -/

@[simp] theorem State.stopTimer_base (s : State) (h : HeadNo) : (s.stopTimer h).base = s.base := rfl

@[simp] theorem State.dropClaim_base (s : State) (g : HeadNo) (k : TileKey) : (s.dropClaim g k).base = s.base := by
  simp [State.dropClaim]

@[simp] theorem State.giveClaim_base (s : State) (h : HeadNo) (k : TileKey) : (s.giveClaim h k).base = s.base := by
  simp [State.giveClaim]

@[simp] theorem State.releaseFrom_base (n : Nat) (s : State) (g : HeadNo) (k : TileKey) :
    (State.releaseFrom n s g k).base = s.base := by
  induction n generalizing s g k with
  | zero => simp [State.releaseFrom]
  | succ n ih =>
    simp only [State.releaseFrom]
    split
    case h_1 => simp
    case h_2 => split <;> simp [ih]

@[simp] theorem State.release_base (s : State) (g : HeadNo) (k : TileKey) : (s.release g k).base = s.base :=
  State.releaseFrom_base 8 s g k

/-- A fold leaves the base alone where each of its steps does. -/
theorem State.foldl_base {α : Type} {f : State → α → State} (each : ∀ s a, (f s a).base = s.base) (l : List α)
    (s : State) : (l.foldl f s).base = s.base := by
  induction l generalizing s with
  | nil => rfl
  | cons a rest ih => exact (ih (f s a)).trans (each s a)

@[simp] theorem State.releaseAll_base (s : State) (g : HeadNo) (ks : List TileKey) :
    (s.releaseAll g ks).base = s.base :=
  State.foldl_base (fun acc k => acc.release_base g k) ks s

@[simp] theorem State.takeClaim_base (s : State) (h : HeadNo) (k : TileKey) : (s.takeClaim h k).base = s.base := by
  simp only [State.takeClaim]
  split <;> simp

@[simp] theorem State.parkClaim_base (s : State) (h : HeadNo) (k : TileKey) : (s.parkClaim h k).base = s.base := by
  simp only [State.parkClaim]
  split <;> simp

@[simp] theorem State.claimStep_base (s : State) (h : HeadNo) (k : TileKey) : (s.claimStep h k).base = s.base := by
  simp only [State.claimStep]
  repeat' split
  all_goals simp

@[simp] theorem State.serveWaiters_base (s : State) (ws : List HeadNo) : (s.serveWaiters ws).base = s.base :=
  State.foldl_base (fun acc w => by simp) ws s

/-- R31: entering DONE touches the Done Queue beside claims and waits. -/
theorem State.enterDone_base (s : State) (k : TileKey) :
    (s.enterDone k).base = { s.base with done := s.done ++ [k] } := by
  simp only [State.enterDone, State.serveWaiters_base, State.setWaiters_base]
  split
  · rw [State.dropClaim_base]
    rfl
  · rfl

/-! ## A head's request on its way -/

@[simp] theorem State.parkCopy_base (s : State) (h : HeadNo) : (s.parkCopy h).base = s.base := by
  simp [State.parkCopy]

@[simp] theorem State.leaveWait_base (s : State) (h : HeadNo) : (s.leaveWait h).base = s.base := by
  simp only [State.leaveWait]
  repeat' split
  all_goals simp

@[simp] theorem State.endParked_base (s : State) (h : HeadNo) (status : Status) :
    (s.endParked h status).base = s.base := by
  simp only [State.endParked]
  split <;> simp

@[simp] theorem State.directoryStep_base (s : State) (h : HeadNo) : (s.directoryStep h).base = s.base := by
  simp only [State.directoryStep]
  repeat' split
  all_goals simp

@[simp] theorem State.checkProbe_base (s : State) (h : HeadNo) (r : Request) : (s.checkProbe h r).base = s.base := by
  simp only [State.checkProbe]
  repeat' split
  all_goals simp

@[simp] theorem State.checkReport_base (s : State) (h : HeadNo) (r : Request) : (s.checkReport h r).base = s.base := by
  simp only [State.checkReport]
  repeat' split
  all_goals simp

@[simp] theorem State.checkRelease_base (s : State) (h : HeadNo) (r : Request) :
    (s.checkRelease h r).base = s.base := by
  simp only [State.checkRelease, State.serveRelease]
  repeat' split
  all_goals simp

@[simp] theorem State.becomeOutstanding_base (s : State) (h : HeadNo) (r : Request) :
    (s.becomeOutstanding h r).base = s.base := by
  simp only [State.becomeOutstanding]
  split <;> simp

@[simp] theorem State.settle_base (s : State) (h : HeadNo) : (s.settle h).base = s.base := by
  simp only [State.settle]
  repeat' split
  all_goals simp

@[simp] theorem State.requestArrives_base (s : State) (h : HeadNo) (r : Request) :
    (s.requestArrives h r).base = s.base := by
  simp only [State.requestArrives]
  repeat' split
  all_goals simp

@[simp] theorem State.leaveStepWait_base (s : State) (h : HeadNo) : (s.leaveStepWait h).base = s.base := by
  simp [State.leaveStepWait]

@[simp] theorem State.cancelWaits_base (s : State) (h : HeadNo) : (s.cancelWaits h).base = s.base := by
  simp only [State.cancelWaits]
  repeat' split
  all_goals simp

@[simp] theorem State.holdExpiry_base (s : State) (h : HeadNo) : (s.holdExpiry h).base = s.base := by
  simp [State.holdExpiry]

@[simp] theorem State.holdTick_base (s : State) (h : HeadNo) : (s.holdTick h).base = s.base := by
  simp only [State.holdTick]
  split <;> simp

@[simp] theorem State.unbindBuffer_base (s : State) (h : HeadNo) : (s.unbindBuffer h).base = s.base := by
  simp only [State.unbindBuffer]
  split <;> simp

@[simp] theorem State.resumeCopyWait_base (s : State) (h : HeadNo) : (s.resumeCopyWait h).base = s.base := by
  simp [State.resumeCopyWait]

@[simp] theorem State.resetOutstanding_base (s : State) (h : HeadNo) : (s.resetOutstanding h).base = s.base := by
  simp only [State.resetOutstanding]
  repeat' split
  all_goals simp

@[simp] theorem State.linkReset_base (s : State) (h : HeadNo) : (s.linkReset h).base = s.base := by
  simp [State.linkReset]

@[simp] theorem State.releaseCarriedOn_base (s : State) (h : HeadNo) (o : Outstanding) (k : TileKey) :
    (s.releaseCarriedOn h o k).base = s.base := by
  simp only [State.releaseCarriedOn]
  split <;> simp

@[simp] theorem State.serveProbe_base (s : State) (h : HeadNo) (o : Outstanding) (e : Entry) :
    (s.serveProbe h o e).base = s.base := by
  simp only [State.serveProbe]
  split <;> simp

@[simp] theorem State.meetCopying_base (s : State) (h : HeadNo) (o : Outstanding) : (s.meetCopying h o).base = s.base := by
  simp only [State.meetCopying]
  split <;> simp

/-! ## What two states of the same base share -/

section
variable {s t : State} (same : t.base = s.base)
include same

theorem copies_of_base : t.copies = s.copies := (congrArg State.copies same :)
theorem bands_of_base : t.bands = s.bands := (congrArg State.bands same :)
theorem bare_of_base : t.dir.map Entry.bare = s.dir.map Entry.bare := (congrArg State.dir same :)
theorem freeSlots_of_base : t.freeSlots = s.freeSlots := (congrArg State.freeSlots same :)
theorem done_of_base : t.done = s.done := (congrArg State.done same :)
theorem store_of_base : t.store = s.store := (congrArg State.store same :)
theorem load_of_base : t.load = s.load := (congrArg State.load same :)
theorem hold_of_base : t.hold = s.hold := (congrArg State.hold same :)
theorem monitors_of_base : t.monitors = s.monitors := (congrArg State.monitors same :)
theorem timebase_of_base : t.timebase = s.timebase := (congrArg State.timebase same :)
theorem port_of_base : t.port = s.port := (congrArg State.port same :)
theorem pending_of_base : t.pending = s.pending := (congrArg State.pending same :)
theorem job_of_base : t.engine.job = s.engine.job := congrArg (fun u => u.engine.job) same
theorem next_of_base : t.engine.next = s.engine.next := congrArg (fun u => u.engine.next) same

theorem record_of_base (g : HeadNo) : (t.head g).record = (s.head g).record := by
  simpa [State.base, State.head] using congrArg (fun u => Bank.at u.heads g) same

theorem rx_of_base (g : HeadNo) : (t.link g).rx = (s.link g).rx := by
  simpa [State.base, State.link, Link.untold] using congrArg (fun u => (Bank.at u.links g).rx) same

end

end Sys2Proof.Machine
end

section
/-! PROOFS. What the decoder's step keeps. An invariant that results, flags and replies do not touch is kept by every
byte the decoder takes, if it is kept by what the commands do (`WiresKeep`, `ActionsKeep`, `DecoderKeeps`). -/

namespace Sys2Proof.Machine

open Sys2Proof.Safety

/-- R165 to R169: what a command that has its parameters leaves of the port `p`. It writes RESULT and the reply, and a
setting command may be refused. -/
structure Port.Follows (p q : Port) : Prop where
  current : q.current = p.current
  values : q.values = p.values
  phase : q.phase = p.phase ∨ q.phase = .refused
  intake : q.intake = p.intake
  bitCount : q.bitCount = p.bitCount
  latch : p.readIndex ≤ p.reply.length → q.readIndex ≤ q.reply.length

/-- A change of RESULT, of the reply, or of the phase of a refused setting command. -/
def RegisterMove (f : Port → Port) : Prop := ∀ p, (f p).unit = p.unit ∧ p.Follows (f p)

theorem registerMove_result (r : ResultCode) : RegisterMove (fun p => { p with result := r }) :=
  fun _ => ⟨rfl, ⟨rfl, rfl, .inl rfl, rfl, rfl, id⟩⟩

theorem registerMove_refused : RegisterMove (fun p => { p with phase := .refused }) :=
  fun _ => ⟨rfl, ⟨rfl, rfl, .inr rfl, rfl, rfl, id⟩⟩

theorem registerMove_latch (reply : List Byte) :
    RegisterMove (fun p => { p with reply := reply, readIndex := 0, readable := !p.followed }) :=
  fun _ => ⟨rfl, ⟨rfl, rfl, .inl rfl, rfl, rfl, fun _ => Nat.zero_le _⟩⟩

/-- What the decoder knows of a store unit as it asks for it: a clamped depth (R1), the open tile's key (R27), one of
the 64 cells (R52). -/
structure UnitAsked (s : State) (u : PortUnit) : Prop where
  depth : unitDepth u ≤ Config.maxDepth
  opened : ∀ k, u = .tileOpen k → s.load.openTile = some k
  cell : ∀ k c d, u = .tileEdit k c d → c < Config.cellsPerTile

theorem clampDepth_le (d : Nat) : clampDepth d ≤ Config.maxDepth := min_le_right _ _

/-- The invariant is kept by the port's own registers, by the Attention Unit and by asking for a store unit. -/
structure WiresKeep (inv : State → Prop) : Prop where
  port : ∀ {s : State} (f : Port → Port), RegisterMove f → inv s → inv (s.onPort f)
  attn : ∀ {s : State} (a : Attention), inv s → inv { s with attn := a }
  unit : ∀ {s : State} (u : PortUnit), UnitAsked s u → inv s → inv (s.requestUnit u)

section
variable {inv : State → Prop} (wires : WiresKeep inv) {s : State}
include wires

theorem WiresKeep.accept (holds : inv s) : inv s.accept :=
  wires.port _ (registerMove_result .ok) holds

theorem WiresKeep.refuse (r : ResultCode) (holds : inv s) : inv (s.refuse r) :=
  wires.attn _ (wires.port _ (registerMove_result r) holds)

theorem WiresKeep.refuseSetting (r : ResultCode) (holds : inv s) : inv (s.refuseSetting r) :=
  wires.port _ registerMove_refused (wires.refuse r holds)

theorem WiresKeep.answerRead (reply : List Byte) (holds : inv s) : inv (s.answerRead reply) :=
  wires.accept (wires.port _ (registerMove_latch reply) holds)

theorem WiresKeep.refuseRead (r : ResultCode) (holds : inv s) : inv (s.refuseRead r) :=
  wires.refuse r (wires.port _ (registerMove_latch []) holds)

end

/-- The invariant is kept by what the commands do once their checks have passed. -/
structure ActionsKeep (inv : State → Prop) (allowed : Command → Prop) : Prop extends WiresKeep inv where
  clear : ∀ {s : State}, allowed .clearWork → s.port.unit = none → inv s → inv s.clearWork
  bind : ∀ {s : State} {h : HeadNo} (y : CopyNo) (cls limit n p0 hold : Nat), (s.head h).state = .unbound →
    (s.head h).outstanding = none → inv s →
    inv ((s.onHead h (fun hu => hu.bind y cls limit hold)).onMonitor h (fun _ => LoadMonitor.started (clampWindow n) p0))
  unbind : ∀ {s : State} {h : HeadNo}, (s.head h).state ≠ .unbound → inv s → inv (s.unbind h)
  tool : ∀ {s : State} {h : HeadNo} (cls : ToolClass) (limit : Nat), (s.head h).state ≠ .unbound → inv s →
    inv (s.onHead h (fun hu => { hu with toolClass := cls, wearLimit := clampWearLimit limit, wear := 0, worn := false }))
  spindle : ∀ {s : State} {h : HeadNo} (n p0 : Nat), (s.head h).state ≠ .unbound → inv s →
    inv (s.onMonitor h (fun m => { m with pendN := clampWindow n, pendP0 := p0, pendFlag := true }))
  halt : ∀ {s : State} {h : HeadNo}, (s.head h).state ≠ .unbound → inv s →
    inv ((s.onHead h (fun hu => { hu with state := .halted })).endParked h .halted)
  resume : ∀ {s : State} {h : HeadNo}, (s.head h).state ≠ .unbound → inv s →
    inv (s.onHead h (fun hu => { hu with state := .active }))
  stepOn : ∀ {s : State} {h : HeadNo}, (s.head h).inStepWait = true → inv s → inv (s.leaveStepWait h)
  opens : ∀ {s : State} {k : TileKey} {slot : Nat} {pool : List Nat}, s.load.openTile = none → s.entry k = none →
    s.freeSlots = slot :: pool → inv s →
    inv ((s.createEntry k .filling).onLoad (fun _ => { LoadUnit.reset with openTile := some k }))
  retireFilling : ∀ {s : State} {k : TileKey} {e : Entry}, s.port.unit = none → s.entry k = some e →
    e.state = .filling → inv s →
    inv (s.removeEntry k).closeTile
  retireLive : ∀ {s : State} {k : TileKey} {e : Entry}, s.entry k = some e → e.state = .live → e.owner = none →
    inv s → inv (s.removeEntry k)
  retireDone : ∀ {s : State} {k : TileKey} {e : Entry}, s.entry k = some e → e.state = .done → inv s →
    inv ((s.removeEntry k).leaveDoneQueue k)
  duplicate : ∀ {s : State} {src dst : TileKey} {e : Entry} {slot : Nat} {pool : List Nat}, s.entry src = some e →
    (e.state = .live ∨ e.state = .done) → s.engine.job = none → s.entry dst = none → s.freeSlots = slot :: pool →
    inv s → inv (s.acceptDuplicate src dst)
  breakClaim : ∀ {s : State} {k : TileKey} {g : HeadNo}, s.ownerOf k = some g → inv s → inv (s.release g k)
  takeDone : ∀ {s : State} {k : TileKey} {rest : List TileKey}, s.done = k :: rest → inv s →
    inv { s with done := rest }
  emptyHold : ∀ {s : State}, allowed .violationClear → inv s → inv { s with hold := { record := none, count := 0 } }

section
variable {inv : State → Prop} {allowed : Command → Prop} (actions : ActionsKeep inv allowed) {s : State}
include actions

/-- R119: a head command keeps the invariant where what it does to a bound head does. -/
theorem ActionsKeep.onBoundHead {f : State → HeadNo → State}
    (hf : ∀ h, (s.head h).state ≠ .unbound → inv s → inv (f s h)) (head : Nat) (holds : inv s) :
    inv (s.onBoundHead head f) := by
  simp only [State.onBoundHead]
  split
  case h_1 => exact actions.refuse _ holds
  case h_2 h _ =>
    split_ifs with unbound
    · exact actions.refuse _ holds
    · exact hf h unbound holds

theorem ActionsKeep.tileOpen (copy row col : Nat) (holds : inv s) : inv (s.tileOpen copy row col) := by
  simp only [State.tileOpen]
  split
  case h_1 => exact actions.refuse _ holds
  case h_2 k _ =>
    split_ifs with busy present full
    · exact actions.refuse _ holds
    · exact actions.refuse _ holds
    · exact actions.refuse _ holds
    · obtain ⟨slot, pool, free⟩ : ∃ slot pool, s.freeSlots = slot :: pool :=
        List.exists_cons_of_ne_nil (by simpa using full)
      exact actions.unit _ ⟨Nat.zero_le _, by rintro _ ⟨⟩; rfl, nofun⟩ (actions.opens (by simpa using busy) (by simpa using present) free holds)

theorem ActionsKeep.tileRetire (free : s.port.unit = none) (copy row col abandon : Nat) (holds : inv s) :
    inv (s.tileRetire copy row col abandon) := by
  simp only [State.tileRetire]
  split
  case h_1 => exact actions.refuse _ holds
  case h_2 k _ =>
    split
    case h_1 => exact actions.refuse _ holds
    case h_2 e resident =>
      split
      case h_1 => exact actions.refuse _ holds
      case h_2 filling => exact actions.accept (actions.retireFilling free resident filling holds)
      case h_3 live =>
        split_ifs with keep claimed
        · exact actions.refuse _ holds
        · exact actions.refuse _ holds
        · exact actions.accept (actions.retireLive resident live (by simpa using claimed) holds)
      case h_4 done => exact actions.accept (actions.retireDone resident done holds)

theorem ActionsKeep.tileDuplicate (copy row col destCopy : Nat) (holds : inv s) :
    inv (s.tileDuplicate copy row col destCopy) := by
  simp only [State.tileDuplicate]
  split
  case h_1 src y _ _ =>
    split
    case h_1 => exact actions.refuse _ holds
    case h_2 e resident =>
      split_ifs with unsettled busy present full
      · exact actions.refuse _ holds
      · exact actions.refuse _ holds
      · exact actions.refuse _ holds
      · exact actions.refuse _ holds
      · obtain ⟨slot, pool, free⟩ : ∃ slot pool, s.freeSlots = slot :: pool :=
          List.exists_cons_of_ne_nil (by simpa using full)
        have settled : e.state = .live ∨ e.state = .done := by
          revert unsettled
          cases e.state <;> simp
        exact actions.duplicate resident settled (by simpa using busy) (by simpa using present) free holds
  case h_2 => exact actions.refuse _ holds

theorem ActionsKeep.claimBreak (copy row col : Nat) (holds : inv s) : inv (s.claimBreak copy row col) := by
  simp only [State.claimBreak]
  split
  case h_1 => exact actions.refuse _ holds
  case h_2 k _ =>
    split
    case h_1 => exact actions.refuse _ holds
    case h_2 e resident =>
      split
      case h_1 => exact actions.accept holds
      case h_2 g owned =>
        have owner : s.ownerOf k = some g := by simp [State.ownerOf, resident, owned]
        exact actions.accept (actions.breakClaim owner holds)

theorem ActionsKeep.headBind (head copy cls limit n p0 hold : Nat) (holds : inv s) :
    inv (s.headBind head copy cls limit n p0 hold) := by
  simp only [State.headBind]
  split
  case h_1 h y _ _ =>
    split_ifs with busy taken
    · exact actions.refuse _ holds
    · exact actions.refuse _ holds
    · rw [not_or, not_not] at busy
      obtain ⟨unbound, idle⟩ := busy
      exact actions.accept (actions.bind y cls limit n p0 hold unbound (by simpa using idle) holds)
  case h_2 => exact actions.refuse _ holds

/-- R165, R167: whatever an action or a read does, by its command. -/
theorem ActionsKeep.act {c : Command} (permitted : allowed c) (vals : List Nat) (holds : inv s)
    (free : s.port.unit = none) : inv (s.act c vals) := by
  simp only [State.act]
  split
  case h_1 =>
    simp only [State.resultRead]
    exact actions.port _ (registerMove_latch _) holds
  case h_2 => exact actions.attn _ (actions.port _ (registerMove_latch _) holds)
  case h_3 => exact actions.accept (actions.attn _ holds)
  case h_4 => exact actions.clear permitted free holds
  case h_5 =>
    simp only [State.copyQuery]
    split
    · exact actions.refuseRead _ holds
    · exact actions.answerRead _ holds
  case h_6 => exact actions.headBind _ _ _ _ _ _ _ holds
  case h_7 =>
    simp only [State.headUnbind]
    split
    case h_1 => exact actions.refuse _ holds
    case h_2 h _ =>
      split_ifs with unbound
      · exact actions.accept holds
      · exact actions.accept (actions.unbind unbound holds)
  case h_8 => exact actions.onBoundHead (fun h bound kept => actions.accept (actions.tool _ _ bound kept)) _ holds
  case h_9 =>
    simp only [State.spindleSet]
    split
    case h_1 => exact actions.refuse _ holds
    case h_2 h _ =>
      split_ifs with unbound
      · exact actions.refuse _ holds
      · exact actions.accept (actions.spindle _ _ unbound holds)
  case h_10 => exact actions.onBoundHead (fun h bound kept => actions.accept (actions.halt bound kept)) _ holds
  case h_11 => exact actions.onBoundHead (fun h bound kept => actions.accept (actions.resume bound kept)) _ holds
  case h_12 =>
    refine actions.onBoundHead (fun h _ kept => ?_) _ holds
    split_ifs with waits
    · exact actions.accept (actions.stepOn waits kept)
    · exact actions.refuse _ kept
  case h_13 =>
    simp only [State.headQuery]
    split
    · exact actions.refuseRead _ holds
    · exact actions.answerRead _ holds
  case h_14 => exact actions.tileOpen _ _ _ holds
  case h_15 =>
    simp only [State.fill]
    split_ifs
    · exact actions.refuse _ holds
    · exact actions.unit _ ⟨clampDepth_le _, nofun, nofun⟩ holds
  case h_16 =>
    simp only [State.tileSeal]
    split_ifs
    · exact actions.refuse _ holds
    · exact actions.unit _ ⟨Nat.zero_le _, nofun, nofun⟩ holds
  case h_17 =>
    simp only [State.fenceWrite]
    split
    · exact actions.refuse _ holds
    · split_ifs
      · exact actions.refuse _ holds
      · exact actions.unit _ ⟨Nat.zero_le _, nofun, nofun⟩ holds
  case h_18 =>
    simp only [State.tileEdit]
    split
    · exact actions.refuse _ holds
    · split_ifs with wide
      · exact actions.refuse _ holds
      · exact actions.refuse _ holds
      · exact actions.unit _ ⟨clampDepth_le _, nofun, by rintro _ _ _ ⟨⟩; exact Nat.not_le.1 wide⟩ holds
  case h_19 => exact actions.tileRetire free _ _ _ _ holds
  case h_20 => exact actions.tileDuplicate _ _ _ _ holds
  case h_21 => exact actions.claimBreak _ _ _ holds
  case h_22 =>
    simp only [State.tileQuery]
    split
    · exact actions.refuseRead _ holds
    · split
      · exact actions.refuseRead _ holds
      · exact actions.answerRead _ holds
  case h_23 =>
    simp only [State.tileRead]
    split
    · exact actions.refuseRead _ holds
    · split_ifs
      · exact actions.refuseRead _ holds
      · exact actions.refuseRead _ holds
      · exact actions.unit _ ⟨Nat.zero_le _, nofun, nofun⟩ holds
  case h_24 =>
    simp only [State.nextDone]
    split
    case h_1 => exact actions.answerRead _ holds
    case h_2 queue => exact actions.answerRead _ (actions.takeDone queue holds)
  case h_25 => exact actions.answerRead _ holds
  case h_26 => exact actions.accept (actions.emptyHold permitted holds)
  case h_27 => exact holds

end

/-- The window is well formed and the write pointer stands inside it (R41). -/
def LoadUnit.InOrder (l : LoadUnit) : Prop :=
  l.firstRow ≤ l.ptrRow ∧ l.ptrRow ≤ l.lastRow ∧ l.lastRow ≤ 7 ∧
  l.firstCol ≤ l.ptrCol ∧ l.ptrCol ≤ l.lastCol ∧ l.lastCol ≤ 7

/-- What WINDOW does to the Load Unit: the open tile stays, and so does the order of window and pointer. -/
def EdgeMove (f : LoadUnit → LoadUnit) : Prop := ∀ l, (f l).openTile = l.openTile ∧ (l.InOrder → (f l).InOrder)

theorem clampEdge_le (v : Nat) : clampEdge v ≤ 7 := min_le_right _ _

theorem edgeMove_setFirstRow (v : Nat) : EdgeMove (fun l => l.setFirstRow (clampEdge v)) := by
  refine fun l => ⟨rfl, fun order => ?_⟩
  have edge := clampEdge_le v
  simp only [LoadUnit.InOrder, LoadUnit.setFirstRow, LoadUnit.homePointer] at order ⊢
  omega

theorem edgeMove_setLastRow (v : Nat) : EdgeMove (fun l => l.setLastRow (clampEdge v)) := by
  refine fun l => ⟨rfl, fun order => ?_⟩
  have edge := clampEdge_le v
  simp only [LoadUnit.InOrder, LoadUnit.setLastRow, LoadUnit.homePointer] at order ⊢
  omega

theorem edgeMove_setFirstCol (v : Nat) : EdgeMove (fun l => l.setFirstCol (clampEdge v)) := by
  refine fun l => ⟨rfl, fun order => ?_⟩
  have edge := clampEdge_le v
  simp only [LoadUnit.InOrder, LoadUnit.setFirstCol, LoadUnit.homePointer] at order ⊢
  omega

theorem edgeMove_setLastCol (v : Nat) : EdgeMove (fun l => l.setLastCol (clampEdge v)) := by
  refine fun l => ⟨rfl, fun order => ?_⟩
  have edge := clampEdge_le v
  simp only [LoadUnit.InOrder, LoadUnit.setLastCol, LoadUnit.homePointer] at order ⊢
  omega

theorem copyOf_eq_some {n : Nat} {y : CopyNo} (named : copyOf n = some y) : y.val = n := by
  simp only [copyOf, Option.dite_none_right_eq_some] at named
  obtain ⟨_, eq⟩ := named
  exact (congrArg Fin.val (Option.some.inj eq)).symm

/-- COPY SETUP is taking values for copy `y` (R5). -/
structure SettingUp (s : State) (y : CopyNo) : Prop where
  current : s.port.current = .known .copySetup
  receiving : s.port.phase = .receiving
  named : s.port.values.head? = some y.val
  selected : 2 ≤ s.port.values.length

/-! ## The tables -/

/-- R4: the ranges of a copy record. -/
def CopyRecord.Fits (r : CopyRecord) : Prop :=
  r.roughAllow ≤ 255 ∧ r.fenceAllow ≤ 255 ∧ r.finishTol ≤ 63 ∧ r.overTol ≤ 255

/-- R8: the ranges of a band record. -/
def BandRecord.Fits (r : BandRecord) : Prop :=
  r.start ≤ 4095 ∧ 1 ≤ r.stepMax ∧ r.stepMax ≤ 1023 ∧ r.wearRate ≤ 255 ∧ r.dwell ≤ 255

/-- R4, R8: the Copy Table and the Band Table. -/
structure TablesFit (s : State) : Prop where
  copy : ∀ y, (s.copy y).Fits
  band : ∀ y b, (s.band y b).Fits
  first : ∀ y, (s.band y 0).start = 0

/-- The parameters taken so far are those of the current command, no more of them than it has and each as wide as the
command table gives. -/
def Port.Fitted (p : Port) : Prop :=
  ∀ c : Command, p.current = .known c → (c.row.cls ≠ .stream → p.values.length ≤ c.row.widths.length) ∧
    ∀ i < p.values.length, p.values.getD i 0 < 256 ^ (c.row.widths.getD i 1)

/-- What a setting command stores lies in the range of its field. -/
def Stores (s t : State) : Prop := s.port.Fitted → TablesFit s → TablesFit t

theorem stores_onCopy {s : State} {y : CopyNo} {f : CopyRecord → CopyRecord}
    (kept : s.port.Fitted → (s.copy y).Fits → (f (s.copy y)).Fits) : Stores s (s.onCopy y f) := by
  intro fitted fit
  refine ⟨fun z => ?_, fit.band, fit.first⟩
  by_cases here : z = y
  · subst here
    have own : (s.onCopy z f).copy z = f (s.copy z) := Bank.at_put_same _ _ _
    rw [own]
    exact kept fitted (fit.copy z)
  · have other : (s.onCopy y f).copy z = s.copy z := Bank.at_put_other _ _ _ _ here
    rw [other]
    exact fit.copy z

theorem State.band_onBand (s : State) (y z : CopyNo) (b d : Fin 8) (f : BandRecord → BandRecord) :
    (s.onBand y b f).band z d = if z = y ∧ d = b then f (s.band y b) else s.band z d := by
  simp only [State.band, State.onBand, Bank.at_put]
  by_cases here : z = y
  · subst here
    by_cases own : d = b <;> simp [own, Bank.at_put]
  · simp [here]

theorem stores_onBand {s : State} {y : CopyNo} {b : Fin 8} {f : BandRecord → BandRecord}
    (kept : s.port.Fitted → TablesFit s → (f (s.band y b)).Fits)
    (first : s.port.Fitted → b = 0 → (f (s.band y b)).start = (s.band y b).start) : Stores s (s.onBand y b f) := by
  intro fitted fit
  refine ⟨fit.copy, fun z d => ?_, fun z => ?_⟩
  · rw [State.band_onBand]
    split_ifs
    · exact kept fitted fit
    · exact fit.band z d
  · rw [State.band_onBand]
    split_ifs with here
    · obtain ⟨-, zero⟩ := here
      subst zero
      exact (first fitted rfl).trans (fit.first y)
    · exact fit.first z

/-- The invariant is kept by every parameter that a setting command stores. -/
structure SettingsKeep (inv : State → Prop) : Prop extends WiresKeep inv where
  stepOn : ∀ {s : State} {h : HeadNo}, (s.head h).inStepWait = true → inv s → inv (s.leaveStepWait h)
  timebase : ∀ {s : State} (p : Nat), inv s → inv { s with
    timebase := min p Config.maxTimebase, monitors := s.monitors.map (fun m : LoadMonitor => m.restarted) }
  copyValue : ∀ {s : State} {y : CopyNo} (f : CopyRecord → CopyRecord), SettingUp s y → Stores s (s.onCopy y f) →
    inv s → inv (s.onCopy y f)
  bandValue : ∀ {s : State} (y : CopyNo) (b : Fin 8) (f : BandRecord → BandRecord), Stores s (s.onBand y b f) →
    inv s → inv (s.onBand y b f)
  edge : ∀ {s : State} {f : LoadUnit → LoadUnit}, EdgeMove f → inv s → inv (s.onLoad f)
  stepMode : ∀ {s : State} (h : HeadNo) (on : Bool), inv s → inv (s.onHead h (fun hu => { hu with stepMode := on }))

/-- The invariant is kept by everything that the decoder does, its own registers included. -/
structure DecoderKeeps (inv : State → Prop) (allowed : Command → Prop) : Prop
    extends ActionsKeep inv allowed, SettingsKeep inv where
  decoder : ∀ {s : State} (f : Port → Port), (∀ p, (f p).unit = p.unit) → inv s → inv (s.onPort f)

section
variable {inv : State → Prop} (keeps : SettingsKeep inv) {s : State}
include keeps

theorem SettingsKeep.storeCopySetup (current : s.port.current = .known .copySetup)
    (receiving : s.port.phase = .receiving) (holds : inv s) : inv (s.storeCopySetup s.port.values) := by
  have byte (i : Nat) (within : i < s.port.values.length) (narrow : Command.copySetup.row.widths.getD i 1 = 1)
      (fitted : s.port.Fitted) : s.port.values.getD i 0 ≤ 255 := by
    have fits := (fitted _ current).2 i within
    rw [narrow] at fits
    omega
  simp only [State.storeCopySetup]
  split
  case h_1 =>
    simp only [State.copySetupSelect]
    repeat' split
    · exact keeps.refuseSetting _ holds
    · exact keeps.refuseSetting _ holds
    · exact holds
  case h_2 copy rest more values =>
    rw [values] at byte
    split
    case h_1 => exact holds
    case h_2 y named =>
      have selected : 2 ≤ s.port.values.length := by
        rw [values, List.length_cons]
        exact Nat.succ_le_succ (List.length_pos_iff.2 more)
      have setting : SettingUp s y := ⟨current, receiving, by rw [values, copyOf_eq_some named]; rfl, selected⟩
      split
      case h_1 v =>
        refine keeps.copyValue _ setting (stores_onCopy fun fitted ⟨_, fence, finish, overcut⟩ => ?_) holds
        exact ⟨byte 1 (by simp) rfl fitted, fence, finish, overcut⟩
      case h_2 =>
        refine keeps.copyValue _ setting (stores_onCopy fun fitted ⟨rough, _, finish, overcut⟩ => ?_) holds
        exact ⟨rough, byte 2 (by simp) rfl fitted, finish, overcut⟩
      case h_3 =>
        refine keeps.copyValue _ setting (stores_onCopy fun fitted ⟨rough, fence, _, overcut⟩ => ?_) holds
        exact ⟨rough, fence, min_le_right _ _, overcut⟩
      case h_4 =>
        refine keeps.copyValue _ setting (stores_onCopy fun fitted ⟨rough, fence, finish, _⟩ => ?_) holds
        exact ⟨rough, fence, finish, byte 4 (by simp) rfl fitted⟩
      case h_5 =>
        simp only [State.copySetupShared]
        split_ifs
        · exact keeps.refuseSetting _ holds
        · exact keeps.copyValue _ setting (stores_onCopy fun _ fits => fits) holds
      case h_6 => exact holds
  case h_3 => exact holds

/-- R11: the i-th value of BAND BOUNDS is stored in band i, so band 0 keeps its start. -/
theorem SettingsKeep.storeBandBounds (current : s.port.current = .known .bandBounds) (holds : inv s) :
    inv (s.storeBandBounds s.port.values) := by
  simp only [State.storeBandBounds]
  split
  case h_1 =>
    split_ifs
    · exact keeps.refuseSetting _ holds
    · exact holds
  case h_2 copy rest more values =>
    split
    case h_1 => exact holds
    case h_2 y _ =>
      refine keeps.bandValue _ _ _ (stores_onBand (fun _ fit => ?_) fun fitted zero => ?_) holds
      · obtain ⟨-, steps⟩ := fit.band y (Fin.ofNat 8 rest.length)
        obtain ⟨before, -⟩ := fit.band y (Fin.ofNat 8 (rest.length - 1))
        exact ⟨max_le (min_le_right _ _) before, steps⟩
      · have short : s.port.values.length ≤ 8 := (fitted _ current).1 nofun
        have some : rest ≠ [] := more
        have pos := List.length_pos_iff.2 some
        rw [values, List.length_cons] at short
        have wraps : rest.length % 8 = 0 := congrArg Fin.val zero
        omega
  case h_3 => exact holds

/-- R12, R13. -/
theorem SettingsKeep.storeBandSet (current : s.port.current = .known .bandSet) (holds : inv s) :
    inv (s.storeBandSet s.port.values) := by
  have byte (i : Nat) (within : i < s.port.values.length) (narrow : Command.bandSet.row.widths.getD i 1 = 1)
      (fitted : s.port.Fitted) : s.port.values.getD i 0 ≤ 255 := by
    have fits := (fitted _ current).2 i within
    rw [narrow] at fits
    omega
  simp only [State.storeBandSet]
  split
  case h_1 =>
    split_ifs
    · exact keeps.refuseSetting _ holds
    · exact holds
  case h_2 =>
    split_ifs
    · exact keeps.refuseSetting _ holds
    · exact holds
  case h_3 copy band rest _ _ values =>
    rw [values] at byte
    split
    case h_1 y b _ _ =>
      split
      case h_1 v =>
        refine keeps.bandValue _ _ _ (stores_onBand (fun _ fit => ?_) fun _ _ => rfl) holds
        obtain ⟨start, -, -, rate, dwell⟩ := fit.band y b
        refine ⟨start, ?_, ?_, rate, dwell⟩ <;> simp only [clampStep, Config.maxStep] <;> omega
      case h_2 =>
        refine keeps.bandValue _ _ _ (stores_onBand (fun fitted fit => ?_) fun _ _ => rfl) holds
        obtain ⟨start, low, high, -, dwell⟩ := fit.band y b
        exact ⟨start, low, high, byte 3 (by simp) rfl fitted, dwell⟩
      case h_3 => exact keeps.bandValue _ _ _ (stores_onBand (fun _ fit => fit.band y b) fun _ _ => rfl) holds
      case h_4 =>
        refine keeps.bandValue _ _ _ (stores_onBand (fun fitted fit => ?_) fun _ _ => rfl) holds
        obtain ⟨start, low, high, rate, -⟩ := fit.band y b
        exact ⟨start, low, high, rate, byte 5 (by simp) rfl fitted⟩
      case h_5 => exact holds
    case h_2 => exact holds
  case h_4 => exact holds

/-- R165: whatever a setting command stores. -/
theorem SettingsKeep.setting {c : Command} (current : s.port.current = .known c)
    (receiving : s.port.phase = .receiving) (holds : inv s) : inv (s.storeSetting c s.port.values) := by
  simp only [State.storeSetting]
  split
  case h_1 =>
    simp only [State.storeTimebase]
    split
    · exact keeps.timebase _ holds
    · exact holds
  case h_2 =>
    simp only [State.storeAttnSetup]
    split
    · exact keeps.attn _ holds
    · exact keeps.attn _ holds
    · exact holds
  case h_3 => exact keeps.storeCopySetup current receiving holds
  case h_4 => exact keeps.storeBandBounds current holds
  case h_5 => exact keeps.storeBandSet current holds
  case h_6 =>
    simp only [State.storeWindow]
    repeat' split
    · exact keeps.refuseSetting _ holds
    · exact keeps.edge (edgeMove_setFirstRow _) holds
    · exact keeps.edge (edgeMove_setLastRow _) holds
    · exact keeps.edge (edgeMove_setFirstCol _) holds
    · exact keeps.edge (edgeMove_setLastCol _) holds
    · exact holds
  case h_7 =>
    simp only [State.storeStepMode]
    repeat' split
    · exact keeps.refuseSetting _ holds
    · exact keeps.refuseSetting _ holds
    · exact holds
    · exact holds
    case h_2 h _ =>
      have stored (on : Bool) := keeps.stepMode h on holds
      simp only [State.setStepMode]
      split_ifs with resumed
      · refine keeps.stepOn ?_ (stored _)
        have waits : (s.head h).inStepWait = true := by simp_all
        simpa [State.head, State.onHead, HeadUnit.inStepWait] using waits
      · exact stored _
    · exact holds
  case h_8 => exact holds

end

theorem State.endCommand_unit (s : State) : s.endCommand.port.unit = s.port.unit := by
  simp only [State.endCommand]
  repeat' split
  all_goals rfl

theorem State.treatOverrun_unit (s : State) : s.treatOverrun.port.unit = s.port.unit := by
  simp only [State.treatOverrun]
  split <;> rfl

/-- R170: a code found in the table is the command's own. -/
theorem commandOf_eq_some {code : Byte} {c : Command} (found : commandOf code = some c) : code = c.row.code := by
  have sameCode := List.find?_some found
  exact (of_decide_eq_true sameCode).symm

section
variable {inv : State → Prop} {allowed : Command → Prop} (keeps : DecoderKeeps inv allowed) {s : State}
include keeps

theorem DecoderKeeps.takeCommand (code : Byte) (followed : Bool) (permitted : ∀ c : Command, code = c.row.code → allowed c)
    (holds : inv s) (free : s.port.unit = none) : inv (s.takeCommand code followed) := by
  have ended : inv s.endCommand := by
    simp only [State.endCommand]
    split
    · split
      · exact keeps.accept holds
      · exact holds
      · exact keeps.refuse _ holds
      · exact keeps.refuse _ holds
    · exact holds
  have begun (cur : Current) (phase : Phase) : inv (s.endCommand.beginCommand cur phase followed) :=
    keeps.decoder _ (fun _ => rfl) ended
  simp only [State.takeCommand]
  split
  case h_1 => exact keeps.refuse _ (begun _ _)
  case h_2 c found =>
    split_ifs
    · simp only [State.startStream]
      split_ifs
      · exact keeps.refuseSetting _ (begun _ _)
      · exact keeps.accept (begun _ _)
    · exact keeps.act (permitted c (commandOf_eq_some found)) [] (begun _ _) ((State.endCommand_unit s).trans free)
    · exact begun _ _

theorem DecoderKeeps.takeValue {c : Command} (permitted : c.row.widths ≠ [] → allowed c) (v : Nat)
    (current : s.port.current = .known c) (receiving : s.port.phase = .receiving) (holds : inv s)
    (free : s.port.unit = none) : inv (s.takeValue c v) := by
  have parameters {vals : List Nat} (last : decide ((vals ++ [v]).length = c.row.widths.length) = true) : allowed c := by
    refine permitted fun bare => ?_
    simp [bare] at last
  simp only [State.takeValue]
  split
  case h_1 =>
    have emptied : inv (s.onPort (fun p => { p with half := none })) := keeps.decoder _ (fun _ => rfl) holds
    simp only [State.streamValue]
    split
    · exact keeps.unit _ ⟨clampDepth_le _, nofun, nofun⟩ emptied
    · exact keeps.unit _ ⟨clampDepth_le _, nofun, nofun⟩ emptied
    · exact emptied
  case h_2 =>
    have stored : inv ((s.onPort (fun p => { p with half := none, values := s.port.values ++ [v] })).storeSetting c
        (s.port.values ++ [v])) :=
      keeps.setting (s := s.onPort (fun p => { p with half := none, values := s.port.values ++ [v] })) current receiving
        (keeps.decoder _ (fun _ => rfl) holds)
    split_ifs
    · simp only [State.completeSetting]
      split_ifs
      · exact keeps.decoder _ (fun _ => rfl) (keeps.accept stored)
      · exact stored
    · exact stored
  case h_3 =>
    split_ifs with last
    · exact keeps.act (parameters last) _ (keeps.decoder _ (fun _ => rfl) holds) free
    · exact keeps.decoder _ (fun _ => rfl) holds
  case h_4 =>
    split_ifs with last
    · exact keeps.act (parameters last) _ (keeps.decoder _ (fun _ => rfl) holds) free
    · exact keeps.decoder _ (fun _ => rfl) holds

theorem DecoderKeeps.takeParameter (b : Byte) (permitted : ∀ c : Command, c.row.widths ≠ [] → allowed c)
    (holds : inv s) (free : s.port.unit = none) : inv (s.takeParameter b) := by
  simp only [State.takeParameter]
  split
  case h_1 c current receiving =>
    split_ifs
    · split
      · exact keeps.decoder _ (fun _ => rfl) holds
      · exact keeps.takeValue (permitted c) _ current receiving holds free
    · exact keeps.takeValue (permitted c) _ current receiving holds free
  case h_2 => exact holds

/-- R162: the byte at the front of the intake queue. A command without parameters acts at its command byte, any other
at a parameter byte. -/
theorem DecoderKeeps.decodeByte (b : IntakeByte) (rest : List IntakeByte) (free : s.port.unit = none)
    (withParameters : ∀ c : Command, c.row.widths ≠ [] → allowed c)
    (permitted : ∀ c : Command, b.line = .command → b.value = c.row.code → allowed c) (holds : inv s) :
    inv (s.decodeByte b rest) := by
  have treated : inv (s.onPort (fun p => { p with intake := rest })).treatOverrun := by
    have queued : inv (s.onPort (fun p => { p with intake := rest })) := keeps.decoder _ (fun _ => rfl) holds
    simp only [State.treatOverrun]
    split_ifs
    · exact keeps.refuse _ (keeps.decoder _ (fun _ => rfl) (keeps.decoder _ (fun _ => rfl) queued))
    · exact queued
  simp only [State.decodeByte]
  split
  case h_1 command => exact keeps.takeCommand _ _ (fun c code => permitted c command code) treated ((State.treatOverrun_unit _).trans free)
  case h_2 => exact keeps.takeParameter _ withParameters treated ((State.treatOverrun_unit _).trans free)

end

end Sys2Proof.Machine
end

section
/-! PROOFS. The steps that go beyond the way of a request, each as what it does beside that way: HEAD UNBIND, CLEAR WORK,
ticks, reports, store units and transfers. -/

namespace Sys2Proof.Machine

open Sys2Proof.Safety

/-- R121: HEAD UNBIND stops the monitor and unbinds the head; the rest is the way of requests and claims. -/
theorem State.unbind_eq (s : State) (h : HeadNo) : ∃ t : State, t.base = s.base ∧
    s.unbind h = (t.onMonitor h LoadMonitor.stopped).onHead h (fun hu => { hu with state := .unbound, boundCopy := none }) :=
  ⟨_, by simp, rfl⟩

/-- R39, R64: what CLEAR WORK empties, before it answers the waiting requests. -/
def State.cleared (s : State) : State :=
  { s with
    dir := []
    freeSlots := List.range Config.slots
    done := []
    load := { s.load with openTile := none }
    engine := { job := none, next := 0, waiting := [] }
    hold := { record := none, count := 0 }
    claims := s.claims.map (fun _ => { slots := [], timer := none })
    heads := s.heads.map (fun hu : HeadUnit => hu.orphan (fun _ => true))
    attn := s.attn.clearWork }

theorem State.clearWork_eq (s : State) :
    s.clearWork = (allHeads.foldl State.cancelWaits (s.cleared.withdraw .ce)).accept := rfl

theorem State.clearWork_base (s : State) : ∃ t : State, t.base = s.cleared.base ∧ s.clearWork = t.accept := by
  refine ⟨_, ?_, s.clearWork_eq⟩
  rw [State.foldl_base State.cancelWaits_base, State.withdraw_base]

/-- R139: the ticks at the monitors change the monitors and the flags. -/
theorem State.monitorTicks_eq (heads : List HeadNo) (s : State) :
    ∃ m a, heads.foldl State.monitorTick s = { s with monitors := m, attn := a } := by
  induction heads generalizing s with
  | nil => exact ⟨_, _, rfl⟩
  | cons h rest ih =>
    have first : ∃ m a, s.monitorTick h = { s with monitors := m, attn := a } := by
      simp only [State.monitorTick, State.stallEntry]
      repeat' split
      all_goals exact ⟨_, _, rfl⟩
    obtain ⟨m, a, eq⟩ := first
    obtain ⟨m', a', eq'⟩ := ih (s.monitorTick h)
    exact ⟨m', a', by rw [List.foldl_cons, eq', eq]⟩

/-- R135: a tick is a tick at every monitor; the rest is the way of requests whose hold timers expire. -/
theorem State.tick_base (s : State) :
    s.tick.base = ({ s with monitors := s.monitors.map LoadMonitor.ticked } : State).base := by
  obtain ⟨m, a, eq⟩ := s.monitorTicks_eq allHeads
  have monitors : m = s.monitors.map LoadMonitor.ticked := by
    have every : ∀ g : HeadNo, g ∈ allHeads := by decide
    refine Bank.ext fun g => ?_
    have ticked := State.monitor_foldl_monitorTick (by decide : allHeads.Nodup) s g
    rw [eq, if_pos (every g)] at ticked
    simpa [State.monitor] using ticked
  rw [State.tick, State.foldl_base State.holdTick_base, eq, monitors]
  rfl

/-- R139: the saturating tick of one monitor. -/
theorem State.stallEntry_base (s : State) (h : HeadNo) :
    (s.stallEntry h).base = (s.onMonitor h LoadMonitor.saturate).base := by
  simp only [State.stallEntry]
  split <;> rfl

/-! ## The store units, but for the fields they change -/

@[simp] theorem State.followCount_pending (s : State) (k : TileKey) : (s.followCount k).pending = s.pending := by
  simp only [State.followCount]
  repeat' split
  all_goals simp

@[simp] theorem State.followCount_hold (s : State) (k : TileKey) : (s.followCount k).hold = s.hold := by
  simp only [State.followCount]
  repeat' split
  all_goals simp

@[simp] theorem State.finishIfNone_pending (s : State) (k : TileKey) : (s.finishIfNone k).pending = s.pending := by
  simp only [State.finishIfNone]
  repeat' split
  all_goals simp

@[simp] theorem State.finishIfNone_hold (s : State) (k : TileKey) : (s.finishIfNone k).hold = s.hold := by
  simp only [State.finishIfNone]
  repeat' split
  all_goals simp

@[simp] theorem State.growWear_pending (s : State) (h : HeadNo) (removed k : Nat) :
    (s.growWear h removed k).pending = s.pending := by
  simp only [State.growWear]
  split <;> simp

@[simp] theorem State.growWear_hold (s : State) (h : HeadNo) (removed k : Nat) :
    (s.growWear h removed k).hold = s.hold := by
  simp only [State.growWear]
  split <;> simp

@[simp] theorem State.runUnit_pending (s : State) (u : PortUnit) : (s.runUnit u).pending = s.pending := by
  cases u <;> simp only [State.runUnit, State.tileOpenUnit, State.streamUnit, State.fillUnit, State.tileSealUnit,
    State.fenceWriteUnit, State.tileEditUnit, State.tileReadUnit] <;> (repeat' split) <;> simp

@[simp] theorem State.runUnit_hold (s : State) (u : PortUnit) : (s.runUnit u).hold = s.hold := by
  cases u <;> simp only [State.runUnit, State.tileOpenUnit, State.streamUnit, State.fillUnit, State.tileSealUnit,
    State.fenceWriteUnit, State.tileEditUnit, State.tileReadUnit] <;> (repeat' split) <;> simp

@[simp] theorem State.transferCell_pending (s : State) (job : CopyJob) : (s.transferCell job).pending = s.pending := by
  simp only [State.transferCell]
  split <;> simp

@[simp] theorem State.transferCell_hold (s : State) (job : CopyJob) : (s.transferCell job).hold = s.hold := by
  simp only [State.transferCell]
  split <;> simp

@[simp] theorem State.completeDest_pending (s : State) (dst : TileKey) : (s.completeDest dst).pending = s.pending := by
  simp only [State.completeDest]
  repeat' split
  all_goals simp

@[simp] theorem State.completeDest_hold (s : State) (dst : TileKey) : (s.completeDest dst).hold = s.hold := by
  simp only [State.completeDest]
  repeat' split
  all_goals simp

/-- R63: a completed duplication, before the requests of the copy-wait list go on. -/
def State.copyCompleted (s : State) (job : CopyJob) : State :=
  (((s.onEntry job.source Entry.returnFromCopy).completeDest job.dest).raise .copyDone).onEngine
    (fun _ => { job := none, next := 0, waiting := [] })

theorem State.completeCopy_eq (s : State) (job : CopyJob) :
    s.completeCopy job = ((s.onEntry job.source Entry.returnFromCopy).completeDest job.dest).engine.waiting.foldl
      State.resumeCopyWait (s.copyCompleted job) := rfl

@[simp] theorem State.completeCopy_base (s : State) (job : CopyJob) :
    (s.completeCopy job).base = (s.copyCompleted job).base :=
  State.foldl_base State.resumeCopyWait_base _ _

theorem State.copyUnit_pending (s : State) (job : CopyJob) : (s.copyUnit job).pending = s.pending := by
  simp only [State.copyUnit, State.endUnit_pending]
  split_ifs
  · simp
  · rw [pending_of_base (State.completeCopy_base _ _), State.copyCompleted]
    simp

theorem State.copyUnit_hold (s : State) (job : CopyJob) : (s.copyUnit job).hold = s.hold := by
  simp only [State.copyUnit, State.endUnit_hold]
  split_ifs
  · simp
  · rw [hold_of_base (State.completeCopy_base _ _), State.copyCompleted]
    simp

/-! ## Units of the heads -/

/-- R26: the re-check leads to the service of the request on an entry found LIVE or DONE, or leaves all but the way of
requests alone. -/
theorem State.recheck_cases (s : State) (h : HeadNo) (o : Outstanding) (k : TileKey)
    (serve : State → HeadNo → Outstanding → Entry → State) :
    (s.recheck h o k serve).base = s.base ∨
      ∃ e, s.entry k = some e ∧ (e.state = .live ∨ e.state = .done) ∧ s.recheck h o k serve = serve s h o e := by
  simp only [State.recheck]
  split
  case h_1 => exact .inl (by simp)
  case h_2 e found =>
    split_ifs with copying unclaimed
    · exact .inl (by simp)
    · exact .inl (by simp)
    · simp only [State.requestEntry] at found
      split_ifs at found
      split at found
      case h_1 => cases found
      case h_2 e' resident =>
        split_ifs at found with filling
        obtain rfl := Option.some.inj found
        refine .inr ⟨e', resident, ?_, rfl⟩
        revert filling copying
        cases e'.state <;> simp

theorem State.probeUnit_base (s : State) (h : HeadNo) (o : Outstanding) (k : TileKey) :
    (s.probeUnit h o k).base = s.base := by
  simp only [State.probeUnit, State.endUnit_base, State.settle_base]
  obtain same | ⟨e, -, -, served⟩ := s.recheck_cases h o k State.serveProbe
  · exact same
  · rw [served, State.serveProbe_base]

/-- R86: beside the way of requests, a report's unit records, or does nothing. -/
theorem State.reportUnit_base (s : State) (h : HeadNo) (o : Outstanding) (k : TileKey) :
    (s.reportUnit h o k).base = s.base ∨
      ∃ e, s.entry k = some e ∧ (e.state = .live ∨ e.state = .done) ∧
        (s.cell e (cellIndex o.req.row o.req.col)).cut < o.req.depth ∧
        (s.reportUnit h o k).base = (s.record h o e).base := by
  simp only [State.reportUnit, State.endUnit_base, State.settle_base, State.releaseCarriedOn_base]
  obtain same | ⟨e, resident, state, served⟩ := s.recheck_cases h o k State.serveReport
  · exact .inl same
  · rw [served]
    simp only [State.serveReport]
    split_ifs with kept
    · exact .inl (by simp)
    · refine .inr ⟨e, resident, state, Nat.not_le.1 kept, ?_⟩
      split <;> simp

theorem State.record_pending (s : State) (h : HeadNo) (o : Outstanding) (e : Entry) :
    (s.record h o e).pending = s.pending := by
  simp only [State.record, State.noteViolation]
  repeat' split
  all_goals simp

/-- R94: a recorded report leaves the record of a full hold, and counts at most one violation more. -/
theorem State.record_hold {s : State} {v : Violation} (full : s.hold.record = some v) (h : HeadNo) (o : Outstanding)
    (e : Entry) : (s.record h o e).hold = s.hold ∨
      (s.record h o e).hold = { s.hold with count := min (s.hold.count + 1) Config.maxViolations } := by
  simp only [State.record, State.noteViolation]
  split
  case h_1 => exact .inl (by simp)
  case h_2 => simp [full]

end Sys2Proof.Machine
end

section
/-! PROOFS. Log entries 2, 3 and 17: every command answers a next state and leaves the queue of commands. R94, R96: a
captured violation's record stands until it is cleared. -/

namespace Sys2Proof.Machine

open Sys2Proof.Safety

theorem decoderKeeps_pending (queue : List Instr) : DecoderKeeps (fun s => s.pending = queue) (fun _ => True) where
  port _ _ holds := holds
  decoder _ _ holds := holds
  attn _ holds := holds
  unit _ _ holds := by simpa
  clear {s} _ _ holds := by
    obtain ⟨t, base, eq⟩ := s.clearWork_base
    rw [eq, State.accept_pending, pending_of_base base]
    exact holds
  bind _ _ _ _ _ _ _ _ holds := holds
  unbind {s h} _ holds := by
    obtain ⟨t, base, eq⟩ := s.unbind_eq h
    rw [eq]
    exact (pending_of_base base).trans holds
  tool _ _ _ holds := holds
  spindle _ _ _ holds := holds
  halt _ holds := by simpa
  resume _ holds := holds
  stepOn _ holds := by simpa
  opens _ _ _ holds := by simpa
  retireFilling _ _ _ holds := by simpa
  retireLive _ _ _ holds := by simpa
  retireDone _ _ holds := by simpa
  duplicate _ _ _ _ _ holds := by simpa [State.acceptDuplicate]
  breakClaim _ holds := by simpa
  takeDone _ holds := holds
  emptyHold _ holds := holds
  timebase _ holds := holds
  copyValue _ _ _ holds := holds
  bandValue _ _ _ _ holds := holds
  edge _ holds := holds
  stepMode _ _ holds := holds

theorem Moves.pending {i : Instr} {s t : State} (moves : Moves i s t) : t.pending = s.pending := by
  cases moves
  case decodes b rest free _ _ =>
    exact (decoderKeeps_pending s.pending).decodeByte b rest free (fun _ _ => trivial) (fun _ _ _ => trivial) rfl
  case portUnit => simp
  case probeUnit h o k _ _ => exact pending_of_base (s.probeUnit_base h o k)
  case reportUnit h o k _ _ =>
    obtain same | ⟨e, -, -, -, base⟩ := s.reportUnit_base h o k
    · exact pending_of_base same
    · rw [pending_of_base base, State.record_pending]
  case transfer job _ _ => exact s.copyUnit_pending job
  case badFrame => simp [State.badFrame, State.huntAgain]
  case answerSent h =>
    simp only [State.answerSent]
    split <;> rfl
  case stall h _ => exact (pending_of_base (s.stallEntry_base h) :)
  case expiry h _ => exact pending_of_base (s.holdExpiry_base h)
  case tick => exact (pending_of_base s.tick_base :)
  case request h _ _ _ _ _ => exact (pending_of_base (State.requestArrives_base (s.huntAgain h) h _) :)
  case linkReset h => exact (pending_of_base (State.linkReset_base (s.huntAgain h) h) :)
  all_goals rfl

/-- Settles O2: every command comes down to one of the moves, and none of them touches the queue. -/
theorem everyCommandAnswersNext : Obligations.EveryCommandAnswersNext := by
  intro i s
  obtain ⟨t, answered, moves⟩ := exec_moves i s
  exact ⟨t, answered, moves.pending⟩

/-! ## The Violation Hold -/

/-- R94: the record of a full hold stands, and its count has risen by at most one. -/
def HoldStands (s t : State) : Prop :=
  t.hold = s.hold ∨ t.hold = { s.hold with count := min (s.hold.count + 1) Config.maxViolations }

theorem decoderKeeps_hold (v : ViolationHold) :
    DecoderKeeps (fun s => s.hold = v) (fun c => c ≠ .clearWork ∧ c ≠ .violationClear) where
  port _ _ holds := holds
  decoder _ _ holds := holds
  attn _ holds := holds
  unit _ _ holds := by simpa
  clear permitted _ _ := absurd rfl permitted.1
  bind _ _ _ _ _ _ _ _ holds := holds
  unbind {s h} _ holds := by
    obtain ⟨t, base, eq⟩ := s.unbind_eq h
    rw [eq]
    exact (hold_of_base base).trans holds
  tool _ _ _ holds := holds
  spindle _ _ _ holds := holds
  halt _ holds := by simpa
  resume _ holds := holds
  stepOn _ holds := by simpa
  opens _ _ _ holds := by simpa
  retireFilling _ _ _ holds := by simpa
  retireLive _ _ _ holds := by simpa
  retireDone _ _ holds := by simpa
  duplicate _ _ _ _ _ holds := by simpa [State.acceptDuplicate]
  breakClaim _ holds := by simpa
  takeDone _ holds := holds
  emptyHold permitted _ := absurd rfl permitted.2
  timebase _ holds := holds
  copyValue _ _ _ holds := holds
  bandValue _ _ _ _ holds := holds
  edge _ holds := holds
  stepMode _ _ holds := holds

/-- R93 to R96: the moves under which the record of a full hold stands. -/
theorem Moves.holdStands {i : Instr} {s t : State} {v : Violation} (full : s.hold.record = some v)
    (moves : Moves i s t) :
    HoldStands s t ∨ i = .violationClear ∨ i = .clearWork ∨ i = .hardwareReset := by
  cases moves
  case reset row => exact .inr (.inr (.inr row))
  case decodes b rest free _ row =>
    by_cases clears : i = .violationClear ∨ i = .clearWork
    · exact .inr (clears.imp_right .inl)
    rw [not_or] at clears
    obtain ⟨notClear, notWork⟩ := clears
    have withParameters (c : Command) (wide : c.row.widths ≠ []) : c ≠ .clearWork ∧ c ≠ .violationClear :=
      ⟨by rintro rfl; exact wide rfl, by rintro rfl; exact wide rfl⟩
    have permitted (c : Command) (command : b.line = .command) (code : b.value = c.row.code) :
        c ≠ .clearWork ∧ c ≠ .violationClear :=
      ⟨by rintro rfl; exact notWork (row _ command code), by rintro rfl; exact notClear (row _ command code)⟩
    exact .inl (.inl ((decoderKeeps_hold s.hold).decodeByte b rest free withParameters permitted rfl))
  case portUnit => exact .inl (.inl (by simp))
  case probeUnit h o k _ _ => exact .inl (.inl (hold_of_base (s.probeUnit_base h o k)))
  case reportUnit h o k _ _ =>
    obtain same | ⟨e, -, -, -, base⟩ := s.reportUnit_base h o k
    · exact .inl (.inl (hold_of_base same))
    · have recorded := State.record_hold full h o e
      rw [← hold_of_base base] at recorded
      exact .inl recorded
  case transfer job _ _ => exact .inl (.inl (s.copyUnit_hold job))
  case badFrame => exact .inl (.inl (by simp [State.badFrame, State.huntAgain]))
  case answerSent h =>
    refine .inl (.inl ?_)
    simp only [State.answerSent]
    split <;> rfl
  case stall h _ => exact .inl (.inl (hold_of_base (s.stallEntry_base h) :))
  case expiry h _ => exact .inl (.inl (hold_of_base (s.holdExpiry_base h)))
  case tick => exact .inl (.inl (hold_of_base s.tick_base :))
  case request h _ _ _ _ _ => exact .inl (.inl (hold_of_base (State.requestArrives_base (s.huntAgain h) h _) :))
  case linkReset h => exact .inl (.inl (hold_of_base (State.linkReset_base (s.huntAgain h) h) :))
  all_goals exact .inl (.inl rfl)

/-- Settles O49: only a recorded report touches a full hold, and it counts; the commands that clear the hold act at
their own command byte. -/
theorem holdKeepsRecord : Obligations.HoldKeepsRecord := by
  intro i s t v order full stepped
  obtain ⟨-, atMost⟩ := order
  refine ((moves_of_exec stepped).holdStands full).imp_left ?_
  simp only [Config.maxViolations] at atMost
  rintro (same | counted)
  · rw [same]
    exact ⟨full, by omega, by omega, by omega⟩
  · rw [counted]
    simp only [Config.maxViolations]
    exact ⟨full, by omega, by omega, by omega⟩

end Sys2Proof.Machine
end

section
/-! PROOFS. What the way of one head's request does to the head units: another head is left alone or served (its request
goes to the arbiter), and the head itself keeps its buffer and asks for nothing new (`HeadsFollow`). -/

namespace Sys2Proof.Machine

open Sys2Proof.Safety

/-- The head unit with its outstanding request in service. -/
def HeadUnit.served (hu : HeadUnit) : HeadUnit :=
  { hu with outstanding := hu.outstanding.map (fun o => { o with wait := .inService }) }

/-- What becomes of a head while another one's request is on its way (R106, R107). -/
def Served (hu hu' : HeadUnit) : Prop := hu' = hu ∨ hu' = hu.served

/-- What becomes of a head's request slots while its own request is on its way. -/
structure Owns (hu hu' : HeadUnit) : Prop where
  buffer : hu'.buffer = hu.buffer
  outstanding : ∀ o' ∈ hu'.outstanding, ∃ o ∈ hu.outstanding, o'.req = o.req

theorem HeadUnit.served_served (hu : HeadUnit) : hu.served.served = hu.served := by
  cases hu
  simp [HeadUnit.served, Option.map_map, Function.comp_def]

theorem Served.trans {a b c : HeadUnit} (first : Served a b) (second : Served b c) : Served a c := by
  obtain rfl | rfl := first
  · exact second
  · obtain rfl | rfl := second
    · exact .inr rfl
    · exact .inr a.served_served

theorem Owns.rfl {hu : HeadUnit} : Owns hu hu := ⟨Eq.refl _, fun o present => ⟨o, present, Eq.refl _⟩⟩

theorem Owns.trans {a b c : HeadUnit} (first : Owns a b) (second : Owns b c) : Owns a c := by
  refine ⟨second.buffer.trans first.buffer, fun o present => ?_⟩
  obtain ⟨p, present', req⟩ := second.outstanding o present
  obtain ⟨q, present'', req'⟩ := first.outstanding p present'
  exact ⟨q, present'', req.trans req'⟩

/-- A request that changes its registers, but not what it asks for. -/
theorem Owns.of_map (hu : HeadUnit) (f : Outstanding → Outstanding)
    (same : ∀ o, (f o).req = o.req := by exact fun _ => rfl) :
    Owns hu { hu with outstanding := hu.outstanding.map f } := by
  refine ⟨Eq.refl _, fun o' present => ?_⟩
  obtain ⟨o, listed, eq⟩ := Option.mem_map.1 present
  exact ⟨o, listed, eq ▸ same o⟩

theorem Owns.of_none (hu : HeadUnit) : Owns hu { hu with outstanding := none } := ⟨Eq.refl _, by simp⟩

theorem Served.owns {a b : HeadUnit} (served : Served a b) : Owns a b := by
  obtain rfl | rfl := served
  · exact .rfl
  · exact .of_map _ _

/-- What the way of head `h`'s request does to the head units. -/
structure HeadsFollow (h : HeadNo) (s t : State) : Prop where
  others : ∀ g, g ≠ h → Served (s.head g) (t.head g)
  own : Owns (s.head h) (t.head h)

section
variable {h : HeadNo} {s t u : State}

theorem HeadsFollow.trans (first : HeadsFollow h s t) (second : HeadsFollow h t u) : HeadsFollow h s u :=
  ⟨fun g other => (first.others g other).trans (second.others g other), first.own.trans second.own⟩

theorem HeadsFollow.of_heads (same : t.heads = s.heads) : HeadsFollow h s t := by
  have heads (g : HeadNo) : t.head g = s.head g := congrArg (fun b => Bank.at b g) same
  exact ⟨fun g _ => .inl (heads g), heads h ▸ .rfl⟩

theorem HeadsFollow.rfl : HeadsFollow h s s := .of_heads (Eq.refl _)

end

@[simp] theorem State.head_onHead_same (s : State) (h : HeadNo) (f : HeadUnit → HeadUnit) :
    (s.onHead h f).head h = f (s.head h) := Bank.at_put_same _ _ _

theorem State.head_onHead_other (s : State) {h g : HeadNo} (other : g ≠ h) (f : HeadUnit → HeadUnit) :
    (s.onHead h f).head g = s.head g := Bank.at_put_other _ _ _ _ other

/-- A fold follows where each of its steps does. -/
theorem HeadsFollow.foldl {α : Type} {h : HeadNo} {f : State → α → State} (each : ∀ s a, HeadsFollow h s (f s a))
    (l : List α) (s : State) : HeadsFollow h s (l.foldl f s) := by
  induction l generalizing s with
  | nil => exact .rfl
  | cons a rest ih => exact (each s a).trans (ih (f s a))

/-- A change of the head's own request slots. -/
theorem State.onHead_follow (s : State) (h : HeadNo) (f : HeadUnit → HeadUnit) (owns : Owns (s.head h) (f (s.head h))) :
    HeadsFollow h s (s.onHead h f) :=
  ⟨fun _ other => .inl (s.head_onHead_other other f), by rwa [State.head_onHead_same]⟩

theorem State.setWait_follow (s : State) (h : HeadNo) (w : WaitKind) : HeadsFollow h s (s.setWait h w) :=
  s.onHead_follow h _ (.of_map _ _)

theorem State.clearOutstanding_follow (s : State) (h : HeadNo) : HeadsFollow h s (s.setOutstanding h none) :=
  s.onHead_follow h _ (.of_none _)

theorem State.endRequest_follow (s : State) (h : HeadNo) (status : Status) (value dwell : Nat) :
    HeadsFollow h s (s.endRequest h status value dwell) := by
  simp only [State.endRequest]
  split
  case h_1 => exact .rfl
  case h_2 =>
    split
    · exact s.clearOutstanding_follow h
    · exact (s.clearOutstanding_follow h).trans (.of_heads (by simp))

/-- R106, R107: any head may be served. -/
theorem State.proceed_follow (s : State) (h w : HeadNo) : HeadsFollow h s (s.proceed w) := by
  have heads : (s.proceed w).heads = Bank.put s.heads w (s.head w).served := by
    simp only [State.proceed, State.present_heads]
    rfl
  have served (g : HeadNo) : Served (s.head g) ((s.proceed w).head g) := by
    by_cases here : g = w
    · subst here
      exact .inr (by simp [State.head, heads])
    · exact .inl (by simp [State.head, heads, Bank.at_put_other _ _ _ _ here])
  exact ⟨fun g _ => served g, (served h).owns⟩

/-! ## Claims -/

theorem State.releaseFrom_follow (n : Nat) (s : State) (h g : HeadNo) (k : TileKey) :
    HeadsFollow h s (State.releaseFrom n s g k) := by
  induction n generalizing s g k with
  | zero => exact .of_heads (by simp [State.releaseFrom])
  | succ n ih =>
    simp only [State.releaseFrom]
    split
    case h_1 => exact .of_heads (by simp)
    case h_2 w rest _ =>
      refine HeadsFollow.trans ?_ (State.proceed_follow _ h w)
      refine HeadsFollow.trans ?_ (.of_heads (State.giveClaim_heads _ w k))
      split
      · exact HeadsFollow.trans (.of_heads (by simp)) (ih _ _ _)
      · exact .of_heads (by simp)

theorem State.release_follow (s : State) (h g : HeadNo) (k : TileKey) : HeadsFollow h s (s.release g k) :=
  State.releaseFrom_follow 8 s h g k

theorem State.releaseAll_follow (s : State) (h g : HeadNo) (ks : List TileKey) : HeadsFollow h s (s.releaseAll g ks) :=
  HeadsFollow.foldl (fun acc k => acc.release_follow h g k) ks s

theorem State.takeClaim_follow (s : State) (h g : HeadNo) (k : TileKey) : HeadsFollow h s (s.takeClaim g k) := by
  simp only [State.takeClaim]
  refine HeadsFollow.trans ?_ (.of_heads (State.giveClaim_heads _ g k))
  split
  · exact s.release_follow h g _
  · exact .rfl

theorem State.parkClaim_follow (s : State) (h : HeadNo) (k : TileKey) : HeadsFollow h s (s.parkClaim h k) := by
  have waits : HeadsFollow h s ((s.onEntry k (fun e => { e with waiters := e.waiters ++ [h] })).setWait h .claim) := by
    refine HeadsFollow.trans ?_ (State.setWait_follow _ h .claim)
    exact .of_heads rfl
  simp only [State.parkClaim]
  split
  · exact waits.trans (.of_heads rfl)
  · exact waits

theorem State.claimStep_follow (s : State) (h : HeadNo) (k : TileKey) : HeadsFollow h s (s.claimStep h k) := by
  simp only [State.claimStep]
  split
  · exact s.endRequest_follow h _ _ _
  · split
    case h_1 => exact (s.takeClaim_follow h h k).trans (State.proceed_follow _ h h)
    case h_2 =>
      split_ifs
      · exact s.proceed_follow h h
      · exact s.endRequest_follow h _ _ _
      · refine HeadsFollow.trans ?_ (State.endRequest_follow (s.raise .contested) h _ _ _)
        exact .of_heads rfl
      · exact s.parkClaim_follow h k

theorem State.enterDone_follow (s : State) (h : HeadNo) (k : TileKey) : HeadsFollow h s (s.enterDone k) := by
  have each (r : State) (w : HeadNo) : HeadsFollow h r ((r.stopTimer w).proceed w) := by
    refine HeadsFollow.trans ?_ (State.proceed_follow _ h w)
    exact .of_heads rfl
  simp only [State.enterDone]
  refine HeadsFollow.trans (.of_heads ?_) (HeadsFollow.foldl each _ _)
  simp only [State.onEntry_heads]
  split <;> simp

/-! ## A head's request on its way -/

theorem State.parkCopy_follow (s : State) (h : HeadNo) : HeadsFollow h s (s.parkCopy h) := by
  refine HeadsFollow.trans ?_ (State.setWait_follow _ h .copy)
  exact .of_heads rfl

theorem State.endParked_follow (s : State) (h : HeadNo) (status : Status) : HeadsFollow h s (s.endParked h status) := by
  simp only [State.endParked]
  split
  · exact HeadsFollow.trans (.of_heads (s.leaveWait_heads h)) (State.endRequest_follow _ h _ _ _)
  · exact .rfl

theorem State.directoryStep_follow (s : State) (h : HeadNo) : HeadsFollow h s (s.directoryStep h) := by
  simp only [State.directoryStep]
  split
  case h_1 => exact .rfl
  case h_2 => exact s.endRequest_follow h _ _ _
  case h_3 o y outstanding _ =>
    generalize cellKey y o.req.row o.req.col = k
    have presented : HeadsFollow h s
        (s.setOutstanding h (some { o with wait := .inService, key := some k, orphaned := false })) := by
      refine s.onHead_follow h _ ⟨rfl, fun o' present => ⟨o, outstanding, ?_⟩⟩
      cases Option.some.inj present
      rfl
    split
    case h_1 => exact presented.trans (State.endRequest_follow _ h _ _ _)
    case h_2 =>
      split
      · exact presented.trans (State.endRequest_follow _ h _ _ _)
      · exact presented.trans (State.parkCopy_follow _ h)
      · split
        · exact presented.trans (State.claimStep_follow _ h _)
        · exact presented.trans (State.proceed_follow _ h h)
      · exact presented.trans (State.proceed_follow _ h h)

theorem State.checkProbe_follow (s : State) (h : HeadNo) (r : Request) : HeadsFollow h s (s.checkProbe h r) := by
  simp only [State.checkProbe]
  split_ifs
  · exact s.endRequest_follow h _ _ _
  · exact s.endRequest_follow h _ _ _
  · exact s.endRequest_follow h _ _ _
  · exact s.endRequest_follow h _ _ _
  · exact s.endRequest_follow h _ _ _
  · exact s.setWait_follow h _
  · exact s.directoryStep_follow h

theorem State.checkReport_follow (s : State) (h : HeadNo) (r : Request) : HeadsFollow h s (s.checkReport h r) := by
  simp only [State.checkReport]
  split_ifs
  · exact s.endRequest_follow h _ _ _
  · exact s.endRequest_follow h _ _ _
  · exact s.setWait_follow h _
  · exact s.directoryStep_follow h

theorem State.checkRelease_follow (s : State) (h : HeadNo) (r : Request) : HeadsFollow h s (s.checkRelease h r) := by
  simp only [State.checkRelease, State.serveRelease]
  split_ifs
  · exact s.endRequest_follow h _ _ _
  · exact s.endRequest_follow h _ _ _
  · split
    · exact s.endRequest_follow h _ _ _
    · split_ifs
      · exact (s.release_follow h h _).trans (State.endRequest_follow _ h _ _ _)
      · exact s.endRequest_follow h _ _ _

/-- The request as it becomes outstanding, before its checks (R129). -/
def State.taken (s : State) (h : HeadNo) (r : Request) : State :=
  s.setOutstanding h (some { req := r, wait := .inService, key := none, orphaned := false, silent := false })

theorem State.becomeOutstanding_follow (s : State) (h : HeadNo) (r : Request) :
    HeadsFollow h (s.taken h r) (s.becomeOutstanding h r) := by
  simp only [State.becomeOutstanding]
  split
  · exact State.checkProbe_follow _ h r
  · exact State.checkReport_follow _ h r
  · exact State.checkRelease_follow _ h r

/-! ## Requests and buffers -/

/-- R129: a buffered request stands behind one in service. -/
def HeadUnit.Behind (hu : HeadUnit) : Prop := hu.buffer.isSome = true → hu.inService = true

/-- Every request that the head unit holds satisfies `p`. -/
def HeadUnit.AllRequests (p : Request → Prop) (hu : HeadUnit) : Prop :=
  (∀ o ∈ hu.outstanding, p o.req) ∧ ∀ r ∈ hu.buffer, p r

theorem HeadUnit.served_inService {hu : HeadUnit} (service : hu.inService = true) : hu.served.inService = true := by
  simp only [HeadUnit.inService, HeadUnit.served] at service ⊢
  cases outstanding : hu.outstanding with
  | none => simp [outstanding] at service
  | some o => simp

theorem Served.behind {a b : HeadUnit} (served : Served a b) (behind : a.Behind) : b.Behind := by
  obtain rfl | rfl := served
  · exact behind
  · exact fun buffered => HeadUnit.served_inService (behind buffered)

theorem Owns.allRequests {p : Request → Prop} {a b : HeadUnit} (owns : Owns a b) (all : a.AllRequests p) :
    b.AllRequests p := by
  refine ⟨fun o present => ?_, owns.buffer ▸ all.2⟩
  obtain ⟨o', present', req⟩ := owns.outstanding o present
  exact req ▸ all.1 o' present'

theorem HeadsFollow.allRequests {p : Request → Prop} {h : HeadNo} {s t : State} (follow : HeadsFollow h s t)
    (all : ∀ g, (s.head g).AllRequests p) (g : HeadNo) : (t.head g).AllRequests p := by
  by_cases here : g = h
  · exact here ▸ follow.own.allRequests (all h)
  · exact (follow.others g here).owns.allRequests (all g)

/-- A head with an empty buffer has nothing behind its request. -/
theorem HeadsFollow.behind {h : HeadNo} {s t : State} (follow : HeadsFollow h s t)
    (others : ∀ g, g ≠ h → (s.head g).Behind) (empty : (s.head h).buffer = none) (g : HeadNo) : (t.head g).Behind := by
  by_cases here : g = h
  · subst here
    intro buffered
    rw [follow.own.buffer, empty] at buffered
    cases buffered
  · exact (follow.others g here).behind (others g here)

theorem HeadsFollow.behind_others {h : HeadNo} {s t : State} (follow : HeadsFollow h s t)
    (behind : ∀ g, (s.head g).Behind) (g : HeadNo) (other : g ≠ h) : (t.head g).Behind :=
  (follow.others g other).behind (behind g)

section
variable {s : State} {h : HeadNo} {r : Request}

theorem State.taken_buffer (s : State) (h g : HeadNo) (r : Request) :
    ((s.taken h r).head g).buffer = (s.head g).buffer := by
  by_cases here : g = h
  · subst here
    rw [State.taken, State.setOutstanding, State.head_onHead_same]
  · exact congrArg HeadUnit.buffer (s.head_onHead_other here _)

theorem State.taken_behind (others : ∀ g, g ≠ h → (s.head g).Behind) (g : HeadNo) (other : g ≠ h) :
    ((s.taken h r).head g).Behind := by
  rw [State.taken, State.setOutstanding, State.head_onHead_other _ other]
  exact others g other

theorem State.becomeOutstanding_behind (others : ∀ g, g ≠ h → (s.head g).Behind) (empty : (s.head h).buffer = none)
    (g : HeadNo) : ((s.becomeOutstanding h r).head g).Behind :=
  (s.becomeOutstanding_follow h r).behind (State.taken_behind others) ((s.taken_buffer h h r).trans empty) g

theorem State.becomeOutstanding_allRequests {p : Request → Prop} (all : ∀ g, (s.head g).AllRequests p) (new : p r)
    (g : HeadNo) : ((s.becomeOutstanding h r).head g).AllRequests p := by
  refine (s.becomeOutstanding_follow h r).allRequests (fun g => ⟨fun o present => ?_, ?_⟩) g
  · by_cases here : g = h
    · subst here
      rw [State.taken, State.setOutstanding, State.head_onHead_same] at present
      cases Option.some.inj present
      exact new
    · rw [State.taken, State.setOutstanding, State.head_onHead_other _ here] at present
      exact (all g).1 o present
  · rw [State.taken_buffer]
    exact (all g).2

/-- R129: after the next request has been taken from the buffer, every buffered request stands behind one in service. -/
theorem State.settle_behind (others : ∀ g, g ≠ h → (s.head g).Behind) (g : HeadNo) :
    ((s.settle h).head g).Behind := by
  simp only [State.settle]
  split
  case h_1 empty =>
    by_cases here : g = h
    · subst here
      simp [HeadUnit.Behind, empty]
    · exact others g here
  case h_2 =>
    split_ifs with service
    · by_cases here : g = h
      · exact here ▸ fun _ => service
      · exact others g here
    · have ended := (s.endParked_follow h .cancelled)
      refine State.becomeOutstanding_behind (fun g other => ?_) ?_ g
      · rw [State.head_onHead_other _ other]
        exact (ended.others g other).behind (others g other)
      · rw [State.head_onHead_same]

theorem State.settle_allRequests {p : Request → Prop} (all : ∀ g, (s.head g).AllRequests p) (g : HeadNo) :
    ((s.settle h).head g).AllRequests p := by
  simp only [State.settle]
  split
  case h_1 => exact all g
  case h_2 r buffered =>
    split_ifs
    · exact all g
    · have ended := (s.endParked_follow h .cancelled).allRequests all
      refine State.becomeOutstanding_allRequests (fun g => ?_) ((all h).2 r buffered) g
      by_cases here : g = h
      · subst here
        rw [State.head_onHead_same]
        exact ⟨(ended g).1, by simp⟩
      · rw [State.head_onHead_other _ here]
        exact ended g

theorem State.requestArrives_behind (behind : ∀ g, (s.head g).Behind) (g : HeadNo) :
    ((s.requestArrives h r).head g).Behind := by
  simp only [State.requestArrives]
  split
  case isTrue service =>
    split
    case h_1 =>
      by_cases here : g = h
      · subst here
        rw [State.head_onHead_same]
        exact fun _ => service
      · rw [State.head_onHead_other _ here]
        exact behind g
    case h_2 => simpa [State.head] using behind g
  case isFalse parked =>
    have ended := (s.endParked_follow h .cancelled)
    have empty : (s.head h).buffer = none := by
      rw [← Option.not_isSome_iff_eq_none]
      exact fun buffered => parked (behind h buffered)
    exact State.becomeOutstanding_behind (ended.behind_others behind) (ended.own.buffer.trans empty) g

theorem State.requestArrives_allRequests {p : Request → Prop} (all : ∀ g, (s.head g).AllRequests p) (new : p r)
    (g : HeadNo) : ((s.requestArrives h r).head g).AllRequests p := by
  simp only [State.requestArrives]
  split
  case isTrue =>
    split
    case h_1 =>
      by_cases here : g = h
      · subst here
        rw [State.head_onHead_same]
        exact ⟨(all g).1, by simpa using new⟩
      · rw [State.head_onHead_other _ here]
        exact all g
    case h_2 => simpa [State.head] using all g
  case isFalse => exact State.becomeOutstanding_allRequests ((s.endParked_follow h .cancelled).allRequests all) new g

end

end Sys2Proof.Machine
end

section
/-! PROOFS. The head units under the steps that go beyond the way of one request: store units, reports, LINK RESET,
CLEAR WORK and HEAD UNBIND. -/

namespace Sys2Proof.Machine

open Sys2Proof.Safety

/-! ## The units of the heads -/

theorem State.serveProbe_follow (s : State) (h : HeadNo) (o : Outstanding) (e : Entry) :
    HeadsFollow h s (s.serveProbe h o e) := by
  simp only [State.serveProbe]
  split_ifs
  · exact s.endRequest_follow h _ _ _
  · exact s.endRequest_follow h _ _ _

theorem State.finishIfNone_follow (s : State) (h : HeadNo) (k : TileKey) : HeadsFollow h s (s.finishIfNone k) := by
  simp only [State.finishIfNone]
  split
  case h_1 => exact .rfl
  case h_2 =>
    split_ifs
    · refine HeadsFollow.trans ?_ (State.enterDone_follow _ h k)
      exact .of_heads rfl
    · exact .rfl

theorem State.growWear_follow (s : State) (h : HeadNo) (removed rate : Nat) :
    HeadsFollow h s (s.growWear h removed rate) := by
  have grown := s.onHead_follow h (fun hu => { hu with wear := grownWear hu.wear removed rate }) ⟨rfl, fun o p => ⟨o, p, rfl⟩⟩
  simp only [State.growWear]
  split_ifs
  · refine HeadsFollow.trans (grown.trans (State.onHead_follow _ h (fun hu => { hu with worn := true })
      ⟨rfl, fun o p => ⟨o, p, rfl⟩⟩)) ?_
    exact .of_heads rfl
  · exact grown

@[simp] theorem State.noteViolation_heads (s : State) (v : Violation) : (s.noteViolation v).heads = s.heads := by
  simp only [State.noteViolation]
  split <;> rfl

theorem HeadUnit.haltByViolation_owns (hu : HeadUnit) : Owns hu hu.haltByViolation := by
  simp only [HeadUnit.haltByViolation]
  split
  · exact .rfl
  · exact ⟨rfl, fun o p => ⟨o, p, rfl⟩⟩

theorem State.record_follow (s : State) (h : HeadNo) (o : Outstanding) (e : Entry) :
    HeadsFollow h s (s.record h o e) := by
  have counted (t : State) (removed rate : Nat) (f : Entry → Entry) (same : t.heads = s.heads) :
      HeadsFollow h s (((t.growWear h removed rate).onEntry e.key f).finishIfNone e.key) := by
    refine HeadsFollow.trans ?_ (State.finishIfNone_follow _ h e.key)
    refine HeadsFollow.trans ?_ (.of_heads (State.onEntry_heads _ e.key f))
    exact HeadsFollow.trans (.of_heads same) (State.growWear_follow t h removed rate)
  simp only [State.record]
  split
  case h_1 => exact counted _ _ _ _ rfl
  case h_2 =>
    refine HeadsFollow.trans ?_ (State.onHead_follow _ h _ (HeadUnit.haltByViolation_owns _))
    refine HeadsFollow.trans ?_ (.of_heads (State.noteViolation_heads _ _))
    exact counted _ _ _ _ rfl

theorem State.serveReport_follow (s : State) (h : HeadNo) (o : Outstanding) (e : Entry) :
    HeadsFollow h s (s.serveReport h o e) := by
  simp only [State.serveReport]
  split_ifs
  · exact s.endRequest_follow h _ _ _
  · split
    · exact (s.record_follow h o e).trans (State.endRequest_follow _ h _ _ _)
    · exact (s.record_follow h o e).trans (State.endRequest_follow _ h _ _ _)

theorem State.recheck_follow (s : State) (h : HeadNo) (o : Outstanding) (k : TileKey)
    {serve : State → HeadNo → Outstanding → Entry → State} (serves : ∀ e, HeadsFollow h s (serve s h o e)) :
    HeadsFollow h s (s.recheck h o k serve) := by
  simp only [State.recheck, State.meetCopying]
  split
  case h_1 => exact s.endRequest_follow h _ _ _
  case h_2 e _ =>
    split_ifs
    · exact s.endRequest_follow h _ _ _
    · exact s.parkCopy_follow h
    · exact s.claimStep_follow h k
    · exact serves e

theorem State.releaseCarriedOn_follow (s : State) (h : HeadNo) (o : Outstanding) (k : TileKey) :
    HeadsFollow h s (s.releaseCarriedOn h o k) := by
  simp only [State.releaseCarriedOn]
  split
  · exact s.release_follow h h k
  · exact .rfl

theorem State.endUnit_heads_eq (s : State) (r : Requester) : (s.endUnit r).heads = s.heads := rfl

/-! ## What all heads keep -/

/-- An invariant of the head units that serving a head keeps, and that the head itself regains by taking the next
request from its buffer. -/
theorem served_of_follow_all {s t : State} (follow : ∀ h, HeadsFollow h s t) (g : HeadNo) :
    Served (s.head g) (t.head g) := by
  have differ : g ≠ g + 1 := by revert g; decide
  exact (follow (g + 1)).others g differ

theorem State.followCount_follow (s : State) (h : HeadNo) (k : TileKey) : HeadsFollow h s (s.followCount k) := by
  simp only [State.followCount]
  split
  case h_1 => exact .rfl
  case h_2 =>
    split_ifs
    · refine HeadsFollow.trans ?_ (State.enterDone_follow _ h k)
      exact .of_heads rfl
    · exact .of_heads rfl
    · exact .rfl

/-- A store unit of the Command Port changes a head only by serving a waiter. -/
theorem State.runUnit_follow (s : State) (h : HeadNo) (u : PortUnit) : HeadsFollow h s (s.runUnit u) := by
  cases u with
  | tileOpen k =>
    simp only [State.runUnit, State.tileOpenUnit]
    split <;> exact .of_heads (by simp)
  | targetValue d | cutValue d =>
    simp only [State.runUnit, State.streamUnit]
    split <;> exact .of_heads (by simp)
  | fill d =>
    simp only [State.runUnit, State.fillUnit]
    split <;> exact .of_heads (by simp)
  | tileSeal =>
    simp only [State.runUnit, State.tileSealUnit]
    split
    case h_1 => exact .rfl
    case h_2 =>
      split
      case h_1 => exact .rfl
      case h_2 =>
        refine HeadsFollow.trans ?_ (.of_heads (State.accept_heads _))
        split_ifs
        · refine HeadsFollow.trans ?_ (State.enterDone_follow _ h _)
          exact .of_heads (by simp)
        · exact .of_heads (by simp)
  | fenceWrite k rows =>
    simp only [State.runUnit, State.fenceWriteUnit]
    repeat' split
    all_goals exact .of_heads (by simp)
  | tileEdit k c d =>
    simp only [State.runUnit, State.tileEditUnit]
    split
    case h_1 => exact .of_heads (by simp)
    case h_2 =>
      split_ifs
      · exact .of_heads (by simp)
      · exact .of_heads (by simp)
      · refine HeadsFollow.trans ?_ (.of_heads (State.accept_heads _))
        refine HeadsFollow.trans ?_ (State.followCount_follow _ h k)
        exact .of_heads (by simp)
  | tileRead k f =>
    simp only [State.runUnit, State.tileReadUnit]
    repeat' split
    all_goals exact .of_heads (by simp)

theorem State.completeDest_follow (s : State) (h : HeadNo) (dst : TileKey) : HeadsFollow h s (s.completeDest dst) := by
  simp only [State.completeDest]
  split
  case h_1 => exact .rfl
  case h_2 =>
    split_ifs
    · refine HeadsFollow.trans ?_ (State.enterDone_follow _ h dst)
      exact .of_heads rfl
    · exact .of_heads rfl

theorem State.copyCompleted_follow (s : State) (h : HeadNo) (job : CopyJob) : HeadsFollow h s (s.copyCompleted job) := by
  have returned : HeadsFollow h s (s.onEntry job.source Entry.returnFromCopy) := .of_heads rfl
  exact (returned.trans (State.completeDest_follow _ h job.dest)).trans (.of_heads rfl)

/-! ## The invariants of the request slots -/

/-- What the request slots of a head unit hold: what is asked for, how it waits, and the buffered request. -/
def HeadUnit.slots (hu : HeadUnit) : Option (Request × WaitKind) × Option Request :=
  (hu.outstanding.map (fun o => (o.req, o.wait)), hu.buffer)

theorem HeadUnit.orphan_slots (hu : HeadUnit) (gone : TileKey → Bool) : (hu.orphan gone).slots = hu.slots := by
  simp only [HeadUnit.orphan]
  split
  case h_1 => rfl
  case h_2 o outstanding =>
    split
    case h_1 => rfl
    case h_2 => split <;> simp [HeadUnit.slots, outstanding]

/-- A fold keeps an invariant where each of its steps does. -/
theorem foldl_keeps {inv : State → Prop} {α : Type} {f : State → α → State} (each : ∀ s a, inv s → inv (f s a))
    (l : List α) {s : State} (holds : inv s) : inv (l.foldl f s) := by
  induction l generalizing s with
  | nil => exact holds
  | cons a rest ih => exact ih (each s a holds)

/-- An invariant of the request slots that every way of a request keeps: serving another head; what a head's own request
does, once the next one has been taken from the buffer; a request that arrives; and a parked one that ends. -/
structure SlotsKeep (inv : State → Prop) : Prop where
  same : ∀ {s t : State}, (∀ g, (t.head g).slots = (s.head g).slots) → inv s → inv t
  empty : ∀ {s : State}, (∀ g, (s.head g).slots = (none, none)) → inv s
  served : ∀ {s t : State}, (∀ h, HeadsFollow h s t) → inv s → inv t
  settled : ∀ {s t : State} {h : HeadNo}, HeadsFollow h s t → inv s → inv (t.settle h)
  arrived : ∀ {s : State} (h : HeadNo) (kind : RequestKind) (tag : Byte) (row col depth : Nat), inv s →
    inv (s.requestArrives h (requestOf kind tag row col depth))
  endParked : ∀ {s : State} (h : HeadNo) (status : Status), inv s → inv (s.endParked h status)
  dropBuffer : ∀ {s : State} (h : HeadNo), inv s → inv (s.onHead h (fun hu => { hu with buffer := none }))
  dropRequest : ∀ {s : State} {h : HeadNo}, (s.head h).buffer = none → inv s → inv (s.setOutstanding h none)

section
variable {inv : State → Prop} (slots : SlotsKeep inv)
include slots

theorem SlotsKeep.heads {s t : State} (holds : inv s) (same : t.heads = s.heads) : inv t :=
  slots.same (fun g => by rw [State.head, same]; rfl) holds

/-- A change of a head's record. -/
theorem SlotsKeep.record {s : State} (h : HeadNo) (f : HeadUnit → HeadUnit)
    (same : ∀ hu, (f hu).slots = hu.slots := by exact fun _ => rfl) (holds : inv s) : inv (s.onHead h f) := by
  refine slots.same (fun g => ?_) holds
  by_cases here : g = h
  · subst here
    rw [State.head_onHead_same, same]
  · rw [State.head_onHead_other _ here]

theorem SlotsKeep.cancelWaits {s : State} (h : HeadNo) (holds : inv s) : inv (s.cancelWaits h) := by
  simp only [State.cancelWaits]
  split
  case h_1 => exact holds
  case h_2 =>
    split
    · exact slots.settled (HeadsFollow.trans (.of_heads (s.leaveWait_heads h)) (State.endRequest_follow _ h _ _ _)) holds
    · exact holds

theorem SlotsKeep.holdExpiry {s : State} (h : HeadNo) (holds : inv s) : inv (s.holdExpiry h) := by
  refine slots.settled (HeadsFollow.trans (.of_heads ?_) (State.endRequest_follow _ h _ _ _)) holds
  simp

theorem SlotsKeep.holdTick {s : State} (h : HeadNo) (holds : inv s) : inv (s.holdTick h) := by
  simp only [State.holdTick]
  split
  · exact slots.holdExpiry h holds
  · exact slots.heads holds (State.onClaim_heads s h _)

theorem SlotsKeep.leaveStepWait {s : State} (h : HeadNo) (holds : inv s) : inv (s.leaveStepWait h) :=
  slots.settled (s.directoryStep_follow h) holds

theorem SlotsKeep.resumeCopyWait {s : State} (h : HeadNo) (holds : inv s) : inv (s.resumeCopyWait h) :=
  slots.settled (s.directoryStep_follow h) holds

theorem SlotsKeep.releaseAll {s : State} (g : HeadNo) (ks : List TileKey) (holds : inv s) : inv (s.releaseAll g ks) :=
  slots.served (fun h => s.releaseAll_follow h g ks) holds

theorem SlotsKeep.unbind {s : State} (h : HeadNo) (holds : inv s) : inv (s.unbind h) := by
  have ended := slots.endParked h .unbound holds
  have unbuffered : inv ((s.endParked h .unbound).unbindBuffer h) := by
    simp only [State.unbindBuffer]
    split
    case h_1 => exact ended
    case h_2 => exact slots.dropBuffer h (slots.heads ended (by simp))
  simp only [State.unbind]
  refine slots.record h (fun hu => { hu with state := .unbound, boundCopy := none }) (fun _ => rfl) ?_
  exact slots.heads (slots.releaseAll h _ unbuffered) rfl

theorem SlotsKeep.linkReset {s : State} (h : HeadNo) (holds : inv s) : inv (s.linkReset h) := by
  have emptied := slots.dropBuffer h holds
  generalize eq : s.onHead h (fun hu => { hu with buffer := none }) = t at emptied
  have buffer : (t.head h).buffer = none := by rw [← eq, State.head_onHead_same]
  have reset : inv (t.resetOutstanding h) := by
    simp only [State.resetOutstanding]
    split
    case h_1 => exact emptied
    case h_2 o outstanding =>
      split_ifs
      · refine slots.dropRequest ?_ (slots.heads emptied (t.leaveWait_heads h))
        rwa [State.head, State.leaveWait_heads]
      · refine slots.same (fun g => ?_) emptied
        by_cases here : g = h
        · subst here
          rw [State.setOutstanding, State.head_onHead_same]
          simp [HeadUnit.slots, outstanding]
        · rw [State.setOutstanding, State.head_onHead_other _ here]
      · exact slots.heads (slots.dropRequest buffer emptied) (State.withdraw_heads _ _)
  simp only [State.linkReset, eq]
  exact slots.releaseAll h _ reset

theorem SlotsKeep.clearWork {s : State} (holds : inv s) : inv s.clearWork := by
  have cleared : inv s.cleared := by
    refine slots.same (fun g => ?_) holds
    simp [State.cleared, State.head, HeadUnit.orphan_slots]
  rw [State.clearWork_eq]
  refine slots.heads ?_ (State.accept_heads _)
  exact foldl_keeps (fun _ h => slots.cancelWaits h) allHeads (slots.heads cleared (State.withdraw_heads _ _))

theorem SlotsKeep.removeEntry {s : State} (k : TileKey) (holds : inv s) : inv (s.removeEntry k) := by
  simp only [State.removeEntry]
  split
  case h_1 => exact holds
  case h_2 => exact slots.same (fun g => by simp [State.head, HeadUnit.orphan_slots]) holds

theorem SlotsKeep.decoderKeeps : DecoderKeeps inv (fun _ => True) where
  port _ _ holds := slots.heads holds rfl
  decoder _ _ holds := slots.heads holds rfl
  attn _ holds := slots.heads holds rfl
  unit _ _ holds := slots.heads holds (by simp)
  clear _ _ holds := slots.clearWork holds
  bind y cls limit _ _ hold _ _ holds :=
    slots.heads (slots.record _ (fun hu => hu.bind y cls limit hold) (fun _ => rfl) holds) rfl
  unbind _ holds := slots.unbind _ holds
  tool _ _ _ holds := slots.record _ _ (fun _ => rfl) holds
  spindle _ _ _ holds := slots.heads holds rfl
  halt _ holds := slots.endParked _ _ (slots.record _ _ (fun _ => rfl) holds)
  resume _ holds := slots.record _ _ (fun _ => rfl) holds
  stepOn _ holds := slots.leaveStepWait _ holds
  opens _ _ _ holds := slots.heads holds (by simp)
  retireFilling _ _ _ holds := slots.heads (slots.removeEntry _ holds) rfl
  retireLive _ _ _ holds := slots.removeEntry _ holds
  retireDone _ _ holds := slots.heads (slots.removeEntry _ holds) rfl
  duplicate _ _ _ _ _ holds := slots.heads holds (by simp [State.acceptDuplicate])
  breakClaim _ holds := slots.served (fun h => State.release_follow _ h _ _) holds
  takeDone _ holds := slots.heads holds rfl
  emptyHold _ holds := slots.heads holds rfl
  timebase _ holds := slots.heads holds rfl
  copyValue _ _ _ holds := slots.heads holds rfl
  bandValue _ _ _ _ holds := slots.heads holds rfl
  edge _ holds := slots.heads holds rfl
  stepMode _ _ holds := slots.record _ _ (fun _ => rfl) holds

/-- Every step keeps such an invariant. -/
theorem SlotsKeep.moves {i : Instr} {s t : State} (moves : Moves i s t) (holds : inv s) : inv t := by
  cases moves
  case reset => exact slots.empty fun g => by simp [State.head, State.reset, HeadUnit.slots, HeadUnit.reset]
  case decodes b rest free _ _ =>
    exact slots.decoderKeeps.decodeByte b rest free (fun _ _ => trivial) (fun _ _ _ => trivial) holds
  case portUnit u _ => exact slots.heads (slots.served (fun h => s.runUnit_follow h u) holds) (by simp)
  case probeUnit h o k _ _ =>
    exact slots.heads (slots.settled (s.recheck_follow h o k (s.serveProbe_follow h o)) holds) (State.endUnit_heads _ _)
  case reportUnit h o k _ _ =>
    refine slots.heads (slots.settled ?_ holds) (State.endUnit_heads _ _)
    exact (s.recheck_follow h o k (s.serveReport_follow h o)).trans (State.releaseCarriedOn_follow _ h o k)
  case transfer job _ _ =>
    simp only [State.copyUnit]
    refine slots.heads ?_ (State.endUnit_heads _ _)
    have transferred : inv (s.transferCell job) := slots.heads holds (s.transferCell_heads job)
    split
    · exact slots.heads transferred rfl
    · rw [State.completeCopy_eq]
      exact foldl_keeps (fun _ h => slots.resumeCopyWait h) _
        (slots.served (fun h => State.copyCompleted_follow _ h job) transferred)
  case request h kind tag row col depth => exact slots.arrived h kind tag row col depth (slots.heads holds rfl)
  case linkReset h => exact slots.linkReset h (slots.heads holds rfl)
  case badFrame h => exact slots.heads holds (s.badFrame_heads h)
  case answerSent h => exact slots.heads holds (s.answerSent_heads h)
  case stall h _ => exact slots.heads holds (s.stallEntry_heads h)
  case expiry h _ => exact slots.holdExpiry h holds
  case tick =>
    obtain ⟨m, a, eq⟩ := s.monitorTicks_eq allHeads
    simp only [State.tick, eq]
    exact foldl_keeps (fun _ h => slots.holdTick h) allHeads (slots.heads holds rfl)
  all_goals exact slots.heads holds rfl

end

/-! ## The two invariants of the request slots -/

theorem HeadUnit.Behind.of_slots {hu hu' : HeadUnit} (same : hu'.slots = hu.slots) (behind : hu.Behind) : hu'.Behind := by
  obtain ⟨wait, buffer⟩ := Prod.mk.inj same
  have service : hu'.inService = hu.inService := by
    cases present : hu.outstanding <;> cases present' : hu'.outstanding <;>
      simp_all [HeadUnit.inService]
  rwa [HeadUnit.Behind, buffer, service]

theorem HeadUnit.AllRequests.of_slots {p : Request → Prop} {hu hu' : HeadUnit} (same : hu'.slots = hu.slots)
    (all : hu.AllRequests p) : hu'.AllRequests p := by
  obtain ⟨wait, buffer⟩ := Prod.mk.inj same
  refine ⟨fun o present => ?_, buffer ▸ all.2⟩
  have listed : (o.req, o.wait) ∈ hu.outstanding.map (fun o => (o.req, o.wait)) :=
    wait ▸ Option.mem_map_of_mem _ present
  obtain ⟨o', present', eq⟩ := Option.mem_map.1 listed
  exact (Prod.mk.inj eq).1 ▸ all.1 o' present'

theorem slotsKeep_behind : SlotsKeep (fun s => ∀ g, (s.head g).Behind) where
  same same holds g := (holds g).of_slots (same g)
  empty empty g := by
    obtain ⟨-, buffer⟩ := Prod.mk.inj (empty g)
    simp [HeadUnit.Behind, buffer]
  served follow holds g := (served_of_follow_all follow g).behind (holds g)
  settled follow holds g := State.settle_behind (follow.behind_others holds) g
  arrived h _ _ _ _ _ holds g := State.requestArrives_behind holds g
  endParked {s} h status holds g := by
    by_cases parked : (s.head h).parked = true
    · have idle : (s.head h).buffer = none := by
        rw [← Option.not_isSome_iff_eq_none]
        intro buffered
        have service := holds h buffered
        cases outstanding : (s.head h).outstanding <;> simp_all [HeadUnit.parked, HeadUnit.inService]
      exact (s.endParked_follow h status).behind (fun g _ => holds g) idle g
    · rw [State.endParked, if_neg parked]
      exact holds g
  dropBuffer {s} h holds g := by
    by_cases here : g = h
    · subst here
      simp [HeadUnit.Behind]
    · rw [State.head_onHead_other _ here]
      exact holds g
  dropRequest {s h} idle holds g := (s.clearOutstanding_follow h).behind (fun g _ => holds g) idle g

theorem slotsKeep_allRequests {p : Request → Prop} (new : ∀ kind tag row col depth, p (requestOf kind tag row col depth)) :
    SlotsKeep (fun s => ∀ g, (s.head g).AllRequests p) where
  same same holds g := (holds g).of_slots (same g)
  empty empty g := by
    obtain ⟨outstanding, buffer⟩ := Prod.mk.inj (empty g)
    have idle : (HeadUnit.outstanding _) = none := Option.map_eq_none_iff.1 outstanding
    simp [HeadUnit.AllRequests, buffer, idle]
  served follow holds g := (served_of_follow_all follow g).owns.allRequests (holds g)
  settled follow holds g := State.settle_allRequests (follow.allRequests holds) g
  arrived _ _ _ _ _ _ holds g := State.requestArrives_allRequests holds (new _ _ _ _ _) g
  endParked h status holds := (State.endParked_follow _ h status).allRequests holds
  dropBuffer {s} h holds g := by
    by_cases here : g = h
    · subst here
      rw [State.head_onHead_same]
      exact ⟨(holds g).1, by simp⟩
    · rw [State.head_onHead_other _ here]
      exact holds g
  dropRequest {s h} _ holds := (s.clearOutstanding_follow h).allRequests holds

end Sys2Proof.Machine
end

section
/-! PROOFS. R117, R129, R135, R137: the head records and the load monitors stay in their ranges. -/

namespace Sys2Proof.Machine

open Sys2Proof.Safety

/-! ## Head records -/

/-- R117, R118: the bound copy is present exactly while the head is bound, and the wear record is in range. -/
def HeadUnit.RecordInOrder (hu : HeadUnit) : Prop :=
  (hu.boundCopy.isSome = true ↔ hu.state ≠ .unbound) ∧ hu.wear ≤ Config.maxWear ∧ hu.wearLimit ≤ Config.maxWearLimit

theorem headsInOrder_iff {s : State} :
    HeadsInOrder s ↔ (∀ g, (s.head g).RecordInOrder) ∧ ∀ g, (s.head g).Behind := by
  refine ⟨fun order => ⟨fun g => ?_, fun g => ?_⟩, fun ⟨records, behind⟩ g => ?_⟩
  · obtain ⟨bound, wear, limit, -⟩ := order g
    exact ⟨bound, wear, limit⟩
  · obtain ⟨-, -, -, behind⟩ := order g
    exact behind
  · obtain ⟨bound, wear, limit⟩ := records g
    exact ⟨bound, wear, limit, behind g⟩

theorem HeadUnit.RecordInOrder.of_record {hu hu' : HeadUnit} (same : hu'.record = hu.record) (order : hu.RecordInOrder) :
    hu'.RecordInOrder := by
  have state : hu'.state = hu.state := (congrArg HeadUnit.state same :)
  have copy : hu'.boundCopy = hu.boundCopy := (congrArg HeadUnit.boundCopy same :)
  have wear : hu'.wear = hu.wear := (congrArg HeadUnit.wear same :)
  have limit : hu'.wearLimit = hu.wearLimit := (congrArg HeadUnit.wearLimit same :)
  rwa [HeadUnit.RecordInOrder, state, copy, wear, limit]

/-- The head records of a state (R117). -/
def State.records (s : State) : Bank HeadUnit := s.heads.map HeadUnit.record

theorem records_head {s t : State} (same : t.records = s.records) (g : HeadNo) :
    (t.head g).record = (s.head g).record := by
  simpa [State.records, State.head] using congrArg (fun b => Bank.at b g) same

theorem records_of_base {s t : State} (same : t.base = s.base) : t.records = s.records := (congrArg State.heads same :)

theorem records_of_heads {s t : State} (same : t.heads = s.heads) : t.records = s.records := by
  rw [State.records, same, State.records]

@[simp] theorem HeadUnit.orphan_record (hu : HeadUnit) (gone : TileKey → Bool) : (hu.orphan gone).record = hu.record := by
  simp only [HeadUnit.orphan]
  repeat' split
  all_goals rfl

@[simp] theorem State.enterDone_records (s : State) (k : TileKey) : (s.enterDone k).records = s.records :=
  (congrArg State.heads (s.enterDone_base k) :)

@[simp] theorem State.onEntry_records (s : State) (k : TileKey) (f : Entry → Entry) :
    (s.onEntry k f).records = s.records := rfl

@[simp] theorem State.followCount_records (s : State) (k : TileKey) : (s.followCount k).records = s.records := by
  simp only [State.followCount]
  repeat' split
  · rfl
  · simp
  · rfl
  · rfl

@[simp] theorem State.finishIfNone_records (s : State) (k : TileKey) : (s.finishIfNone k).records = s.records := by
  simp only [State.finishIfNone]
  repeat' split
  · rfl
  · simp
  · rfl

@[simp] theorem State.completeDest_records (s : State) (dst : TileKey) : (s.completeDest dst).records = s.records := by
  simp only [State.completeDest]
  repeat' split
  · rfl
  · simp
  · rfl

theorem State.runUnit_records (s : State) (u : PortUnit) : (s.runUnit u).records = s.records := by
  have accepted (t : State) : t.accept.records = t.records := records_of_heads (by simp)
  cases u with
  | tileOpen k =>
    simp only [State.runUnit, State.tileOpenUnit]
    split <;> exact records_of_heads (by simp)
  | targetValue d | cutValue d =>
    simp only [State.runUnit, State.streamUnit]
    split <;> exact records_of_heads (by simp)
  | fill d =>
    simp only [State.runUnit, State.fillUnit]
    split <;> exact records_of_heads (by simp)
  | tileSeal =>
    simp only [State.runUnit, State.tileSealUnit]
    repeat' split
    · rfl
    · rfl
    · rw [accepted, State.enterDone_records]
      exact records_of_heads (by simp)
    · exact records_of_heads (by simp)
  | fenceWrite k rows =>
    simp only [State.runUnit, State.fenceWriteUnit]
    repeat' split
    all_goals exact records_of_heads (by simp)
  | tileEdit k c d =>
    simp only [State.runUnit, State.tileEditUnit]
    repeat' split
    · exact records_of_heads (by simp)
    · exact records_of_heads (by simp)
    · exact records_of_heads (by simp)
    · rw [accepted, State.followCount_records]
      exact records_of_heads (by simp)
  | tileRead k f =>
    simp only [State.runUnit, State.tileReadUnit]
    repeat' split
    all_goals exact records_of_heads (by simp)

theorem State.copyUnit_records (s : State) (job : CopyJob) : (s.copyUnit job).records = s.records := by
  have transferred : (s.transferCell job).records = s.records := records_of_heads (s.transferCell_heads job)
  simp only [State.copyUnit]
  refine (records_of_base (State.endUnit_base _ _)).trans ?_
  split
  · exact transferred
  · rw [records_of_base (State.completeCopy_base _ _), ← transferred]
    exact (State.completeDest_records _ _).trans (State.onEntry_records _ _ _)

/-! ### Reports -/

/-- What a recorded report may do to a head record: wear within its range, the worn condition, and a halt of a bound
head (R87, R88, R92). -/
structure Worked (hu hu' : HeadUnit) : Prop where
  boundCopy : hu'.boundCopy = hu.boundCopy
  wearLimit : hu'.wearLimit = hu.wearLimit
  wear : hu'.wear = hu.wear ∨ hu'.wear ≤ Config.maxWear
  state : hu'.state = hu.state ∨ hu.state ≠ .unbound ∧ hu'.state = .halted

theorem Worked.of_record {hu hu' : HeadUnit} (same : hu'.record = hu.record) : Worked hu hu' where
  boundCopy := (congrArg HeadUnit.boundCopy same :)
  wearLimit := (congrArg HeadUnit.wearLimit same :)
  wear := .inl (congrArg HeadUnit.wear same :)
  state := .inl (congrArg HeadUnit.state same :)

theorem Worked.trans {a b c : HeadUnit} (first : Worked a b) (second : Worked b c) : Worked a c where
  boundCopy := second.boundCopy.trans first.boundCopy
  wearLimit := second.wearLimit.trans first.wearLimit
  wear := second.wear.elim (fun same => same ▸ first.wear) .inr
  state := by
    obtain same | ⟨bound, halted⟩ := second.state
    · exact same ▸ first.state
    · refine .inr ⟨?_, halted⟩
      obtain same | ⟨bound', -⟩ := first.state
      · exact same ▸ bound
      · exact bound'

theorem Worked.bound {hu hu' : HeadUnit} (worked : Worked hu hu') : hu'.state ≠ .unbound ↔ hu.state ≠ .unbound := by
  obtain same | ⟨bound, halted⟩ := worked.state
  · rw [same]
  · simp [bound, halted]

theorem Worked.recordInOrder {hu hu' : HeadUnit} (worked : Worked hu hu') (order : hu.RecordInOrder) :
    hu'.RecordInOrder := by
  obtain ⟨bound, wear, limit⟩ := order
  refine ⟨?_, worked.wear.elim (fun same => same ▸ wear) id, worked.wearLimit ▸ limit⟩
  rw [worked.boundCopy, worked.bound, bound]

theorem State.onHead_worked {s : State} {h : HeadNo} {f : HeadUnit → HeadUnit} (works : ∀ hu, Worked hu (f hu))
    (g : HeadNo) : Worked (s.head g) ((s.onHead h f).head g) := by
  by_cases here : g = h
  · subst here
    rw [State.head_onHead_same]
    exact works _
  · rw [State.head_onHead_other _ here]
    exact .of_record rfl

theorem State.growWear_worked (s : State) (h : HeadNo) (removed rate : Nat) (g : HeadNo) :
    Worked (s.head g) ((s.growWear h removed rate).head g) := by
  have grown := State.onHead_worked (s := s) (h := h) (f := fun hu => { hu with wear := grownWear hu.wear removed rate })
    (fun hu => ⟨rfl, rfl, .inr (min_le_right _ _), .inl rfl⟩) g
  simp only [State.growWear]
  split
  · exact grown.trans (State.onHead_worked (f := fun hu => { hu with worn := true })
      (fun hu => ⟨rfl, rfl, .inl rfl, .inl rfl⟩) g)
  · exact grown

theorem HeadUnit.haltByViolation_worked (hu : HeadUnit) : Worked hu hu.haltByViolation := by
  simp only [HeadUnit.haltByViolation]
  split
  case isTrue => exact .of_record rfl
  case isFalse bound => exact ⟨rfl, rfl, .inl rfl, .inr ⟨bound, rfl⟩⟩

theorem State.record_worked (s : State) (h : HeadNo) (o : Outstanding) (e : Entry) (g : HeadNo) :
    Worked (s.head g) ((s.record h o e).head g) := by
  have counted (t : State) (k : TileKey) (f : Entry → Entry) : Worked (t.head g) (((t.onEntry k f).finishIfNone k).head g) :=
    .of_record (records_head (by simp) g)
  have noted (t : State) (v : Violation) : Worked (t.head g) ((t.noteViolation v).head g) :=
    .of_record (records_head (records_of_heads (t.noteViolation_heads v)) g)
  have written (c : Nat) (f : Cell → Cell) : Worked (s.head g) ((s.onCell e c f).head g) := .of_record rfl
  simp only [State.record]
  split
  case h_1 => exact ((written _ _).trans (State.growWear_worked _ h _ _ g)).trans (counted _ _ _)
  case h_2 =>
    exact ((((written _ _).trans (State.growWear_worked _ h _ _ g)).trans (counted _ _ _)).trans (noted _ _)).trans
      (State.onHead_worked HeadUnit.haltByViolation_worked g)

/-- R86: the head records after a report's unit. -/
theorem State.reportUnit_worked (s : State) (h : HeadNo) (o : Outstanding) (k : TileKey) (g : HeadNo) :
    Worked (s.head g) ((s.reportUnit h o k).head g) := by
  obtain same | ⟨e, -, -, -, base⟩ := s.reportUnit_base h o k
  · exact .of_record (record_of_base same g)
  · exact (s.record_worked h o e g).trans (.of_record (record_of_base base g))

/-! ### Every step -/

/-- R117: every head record is in order. -/
def RecordsInOrder (s : State) : Prop := ∀ g, (s.head g).RecordInOrder

theorem RecordsInOrder.of_records {s t : State} (order : RecordsInOrder s) (same : t.records = s.records) :
    RecordsInOrder t := fun g => (order g).of_record (records_head same g)

theorem RecordsInOrder.onHead {s : State} (order : RecordsInOrder s) (h : HeadNo) {f : HeadUnit → HeadUnit}
    (kept : (s.head h).RecordInOrder → (f (s.head h)).RecordInOrder) : RecordsInOrder (s.onHead h f) := by
  intro g
  by_cases here : g = h
  · subst here
    rw [State.head_onHead_same]
    exact kept (order g)
  · rw [State.head_onHead_other _ here]
    exact order g

theorem RecordsInOrder.setState {s : State} (order : RecordsInOrder s) {h : HeadNo} {state : HeadState}
    (bound : (s.head h).state ≠ .unbound) (stays : state ≠ .unbound) :
    RecordsInOrder (s.onHead h (fun hu => { hu with state := state })) := by
  refine order.onHead h fun ⟨copy, wear, limit⟩ => ⟨?_, wear, limit⟩
  simp only [copy]
  exact ⟨fun _ => stays, fun _ => bound⟩

theorem State.removeEntry_records (s : State) (k : TileKey) : (s.removeEntry k).records = s.records := by
  simp only [State.removeEntry]
  split
  case h_1 => rfl
  case h_2 => simp [State.records, Vector.map_map, Function.comp_def]

theorem clampWearLimit_le (n : Nat) : clampWearLimit n ≤ Config.maxWearLimit := min_le_right _ _

theorem decoderKeeps_records : DecoderKeeps RecordsInOrder (fun _ => True) where
  port _ _ holds := holds
  decoder _ _ holds := holds
  attn _ holds := holds
  unit _ _ holds := holds.of_records (records_of_heads (by simp))
  clear {s} _ _ holds := by
    obtain ⟨t, base, eq⟩ := s.clearWork_base
    rw [eq]
    refine holds.of_records ((records_of_base base).trans ?_)
    simp [State.records, State.cleared, Vector.map_map, Function.comp_def]
  bind {s h} y cls limit n p0 hold _ _ holds := by
    exact RecordsInOrder.onHead holds h (f := fun hu => hu.bind y cls limit hold) fun _ =>
      ⟨by simp [HeadUnit.bind], Nat.zero_le _, clampWearLimit_le limit⟩
  unbind {s h} _ holds := by
    obtain ⟨t, base, eq⟩ := s.unbind_eq h
    rw [eq]
    have stopped : RecordsInOrder (t.onMonitor h LoadMonitor.stopped) := holds.of_records (records_of_base base :)
    exact stopped.onHead h fun ⟨_, wear, limit⟩ => ⟨by simp, wear, limit⟩
  tool _ limit _ holds := holds.onHead _ fun ⟨copy, _, _⟩ => ⟨copy, Nat.zero_le _, clampWearLimit_le limit⟩
  spindle _ _ _ holds := holds
  halt bound holds := (holds.setState bound (by decide)).of_records (records_of_base (State.endParked_base _ _ _))
  resume bound holds := holds.setState bound (by decide)
  stepOn _ holds := holds.of_records (records_of_base (State.leaveStepWait_base _ _))
  opens _ _ _ holds := holds.of_records (records_of_heads (by simp))
  retireFilling _ _ _ holds := holds.of_records (State.removeEntry_records _ _)
  retireLive _ _ _ holds := holds.of_records (State.removeEntry_records _ _)
  retireDone _ _ holds := holds.of_records (State.removeEntry_records _ _)
  duplicate _ _ _ _ _ holds := holds.of_records (records_of_heads (by simp [State.acceptDuplicate]))
  breakClaim _ holds := holds.of_records (records_of_base (State.release_base _ _ _))
  takeDone _ holds := holds
  emptyHold _ holds := holds
  timebase _ holds := holds
  copyValue _ _ _ holds := holds
  bandValue _ _ _ _ holds := holds
  edge _ holds := holds
  stepMode _ _ holds := holds.onHead _ id

theorem Moves.recordsInOrder {i : Instr} {s t : State} (moves : Moves i s t) (holds : RecordsInOrder s) :
    RecordsInOrder t := by
  cases moves
  case reset =>
    intro g
    have blank : (State.head { State.reset with pending := s.pending } g) = HeadUnit.reset := Bank.at_replicate _ g
    rw [blank]
    exact ⟨by decide, by decide, by decide⟩
  case decodes b rest free _ _ =>
    exact decoderKeeps_records.decodeByte b rest free (fun _ _ => trivial) (fun _ _ _ => trivial) holds
  case portUnit u _ => exact holds.of_records ((records_of_heads (State.endPortUnit_heads _)).trans (s.runUnit_records u))
  case probeUnit h o k _ _ => exact holds.of_records (records_of_base (s.probeUnit_base h o k))
  case reportUnit h o k _ _ => exact fun g => (s.reportUnit_worked h o k g).recordInOrder (holds g)
  case transfer job _ _ => exact holds.of_records (s.copyUnit_records job)
  case request h _ _ _ _ _ => exact holds.of_records (records_of_base (State.requestArrives_base (s.huntAgain h) h _) :)
  case linkReset h => exact holds.of_records (records_of_base (State.linkReset_base (s.huntAgain h) h) :)
  case badFrame h => exact holds.of_records (records_of_heads (s.badFrame_heads h))
  case answerSent h => exact holds.of_records (records_of_heads (s.answerSent_heads h))
  case stall h _ => exact holds.of_records (records_of_heads (s.stallEntry_heads h))
  case expiry h _ => exact holds.of_records (records_of_base (s.holdExpiry_base h))
  case tick => exact holds.of_records (records_of_base s.tick_base :)
  all_goals exact holds

theorem Moves.headsInOrder {i : Instr} {s t : State} (moves : Moves i s t) (holds : HeadsInOrder s) : HeadsInOrder t := by
  obtain ⟨records, behind⟩ := headsInOrder_iff.1 holds
  exact headsInOrder_iff.2 ⟨moves.recordsInOrder records, slotsKeep_behind.moves moves behind⟩

end Sys2Proof.Machine
end

section
/-! PROOFS. R93, R135 to R148: the Time Base and the load monitors, the Violation Hold and the receivers stay in order. -/

namespace Sys2Proof.Machine

open Sys2Proof.Safety

/-! ## A load monitor -/

theorem clampWindow_range (n : Nat) : 1 ≤ clampWindow n ∧ clampWindow n ≤ 64 := by
  simp only [clampWindow, Config.maxWindow]
  omega

theorem monitorInOrder_reset : MonitorInOrder LoadMonitor.reset := by
  simp [MonitorInOrder, LoadMonitor.reset]

theorem monitorInOrder_started (n p0 : Nat) : MonitorInOrder (LoadMonitor.started (clampWindow n) p0) := by
  obtain ⟨positive, small⟩ := clampWindow_range n
  simp only [MonitorInOrder, LoadMonitor.started]
  refine ⟨by omega, by simp, by omega, by simp, positive, small, positive, small, by omega, by simp⟩

section
variable {m : LoadMonitor} (order : MonitorInOrder m)
include order

theorem monitorInOrder_stopped : MonitorInOrder m.stopped := by
  obtain ⟨counter, opened, period, valid, curN, curN', pendN, pendN', index, -⟩ := order
  exact ⟨counter, opened, period, valid, curN, curN', pendN, pendN', index, fun _ => rfl⟩

theorem monitorInOrder_restarted : MonitorInOrder m.restarted := by
  obtain ⟨counter, opened, period, valid, curN, curN', pendN, pendN', index, pending⟩ := order
  simp only [LoadMonitor.restarted]
  split_ifs
  · exact ⟨Nat.zero_le _, by simp, period, by simp, curN, curN', pendN, pendN', curN, pending⟩
  · exact ⟨counter, opened, period, valid, curN, curN', pendN, pendN', index, pending⟩

theorem monitorInOrder_saturate : MonitorInOrder m.saturate := by
  obtain ⟨-, -, period, -, curN, curN', pendN, pendN', -, pending⟩ := order
  exact ⟨le_rfl, by simp [LoadMonitor.saturate], period, by simp [LoadMonitor.saturate], curN, curN', pendN, pendN', curN,
    pending⟩

theorem monitorInOrder_ticked : MonitorInOrder m.ticked := by
  simp only [LoadMonitor.ticked]
  split_ifs with brink counts
  · exact monitorInOrder_saturate order
  · have below : m.counter < 65534 := by simpa [LoadMonitor.atBrink, counts, Config.counterTop] using brink
    obtain ⟨-, -, period, valid, curN, curN', pendN, pendN', index, pending⟩ := order
    exact ⟨by simp only; omega, fun _ => by simp only; omega, period, valid, curN, curN', pendN, pendN', index, pending⟩
  · exact order

/-- R140, R143: a window opens with its counter and index at 0, and with the pending values if any wait. -/
theorem monitorInOrder_openWindow : MonitorInOrder m.openWindow := by
  obtain ⟨-, -, period, valid, curN, curN', pendN, pendN', -, pending⟩ := order
  cases waits : m.pendFlag with
  | false =>
    rw [LoadMonitor.openWindow_settled waits]
    exact ⟨Nat.zero_le _, fun _ => Nat.zero_le _, period, valid, curN, curN', pendN, pendN', curN, pending⟩
  | true =>
    rw [LoadMonitor.openWindow_pending waits]
    refine ⟨Nat.zero_le _, fun _ => Nat.zero_le _, period, ?_, pendN, pendN', pendN, pendN', pendN, fun _ => rfl⟩
    intro state
    split_ifs at state with wasValid
    exact valid state

theorem monitorInOrder_pulse : MonitorInOrder m.pulse := by
  cases running : m.running with
  | false => rwa [LoadMonitor.pulse_stopped running]
  | true =>
    cases opened : m.opened with
    | false =>
      rw [LoadMonitor.pulse_closed running opened]
      exact monitorInOrder_openWindow order
    | true =>
      rcases Nat.lt_or_ge (m.index + 1) m.curN with short | last
      · rw [LoadMonitor.pulse_short running opened short]
        obtain ⟨counter, below, period, valid, curN, curN', pendN, pendN', -, pending⟩ := order
        exact ⟨counter, below, period, valid, curN, curN', pendN, pendN', short, pending⟩
      · rw [LoadMonitor.pulse_last running opened last]
        refine monitorInOrder_openWindow ?_
        obtain ⟨counter, below, -, -, curN, curN', pendN, pendN', index, pending⟩ := order
        have bound := below opened
        exact ⟨counter, below, by simp only; omega, fun _ => le_max_right _ _, curN, curN', pendN, pendN', index, pending⟩

theorem monitorInOrder_pending (running : m.running = true) (n p0 : Nat) :
    MonitorInOrder { m with pendN := clampWindow n, pendP0 := p0, pendFlag := true } := by
  obtain ⟨counter, opened, period, valid, curN, curN', -, -, index, -⟩ := order
  obtain ⟨positive, small⟩ := clampWindow_range n
  exact ⟨counter, opened, period, valid, curN, curN', positive, small, index, fun stopped => absurd running (by simp_all)⟩

end

theorem LoadMonitor.restarted_running (m : LoadMonitor) : m.restarted.running = m.running := by
  simp only [LoadMonitor.restarted]
  split <;> rfl

theorem LoadMonitor.ticked_running (m : LoadMonitor) : m.ticked.running = m.running := by
  simp only [LoadMonitor.ticked]
  repeat' split
  all_goals rfl

theorem LoadMonitor.openWindow_running (m : LoadMonitor) : m.openWindow.running = m.running := by
  simp only [LoadMonitor.openWindow, LoadMonitor.applyPending]
  split <;> rfl

theorem LoadMonitor.pulse_running (m : LoadMonitor) : m.pulse.running = m.running := by
  simp only [LoadMonitor.pulse, LoadMonitor.completeWindow]
  repeat' split
  · rfl
  · exact LoadMonitor.openWindow_running _
  · rfl
  · exact LoadMonitor.openWindow_running _

/-! ## The monitors of a state -/

/-- A monitor beside its head's record: in its ranges, and running exactly while the head is bound. -/
def RunsWithHead (m : LoadMonitor) (hu : HeadUnit) : Prop := MonitorInOrder m ∧ (m.running = true ↔ hu.state ≠ .unbound)

/-- `SpindlesInOrder`, with a name in the model's own namespace. -/
def SpindlesRun (s : State) : Prop := s.timebase ≤ 7 ∧ ∀ g, RunsWithHead (s.monitor g) (s.head g)

theorem spindlesInOrder_iff {s : State} : SpindlesInOrder s ↔ SpindlesRun s := Iff.rfl

section
variable {s t : State} (order : SpindlesRun s)
include order

theorem SpindlesRun.of_bound (timebase : t.timebase = s.timebase) (monitors : t.monitors = s.monitors)
    (bound : ∀ g, (t.head g).state ≠ .unbound ↔ (s.head g).state ≠ .unbound) : SpindlesRun t := by
  refine ⟨timebase ▸ order.1, fun g => ?_⟩
  have monitor : t.monitor g = s.monitor g := congrArg (fun b => Bank.at b g) monitors
  rw [monitor]
  exact ⟨(order.2 g).1, (order.2 g).2.trans (bound g).symm⟩

theorem SpindlesRun.of_records (timebase : t.timebase = s.timebase) (monitors : t.monitors = s.monitors)
    (records : t.records = s.records) : SpindlesRun t := by
  refine order.of_bound timebase monitors fun g => ?_
  have state : (t.head g).state = (s.head g).state := (congrArg HeadUnit.state (records_head records g) :)
  rw [state]

theorem SpindlesRun.of_base (same : t.base = s.base) : SpindlesRun t :=
  order.of_records (timebase_of_base same) (monitors_of_base same) (records_of_base same)

/-- A change of one monitor. -/
theorem SpindlesRun.onMonitor (h : HeadNo) {f : LoadMonitor → LoadMonitor}
    (kept : RunsWithHead (s.monitor h) (s.head h) → RunsWithHead (f (s.monitor h)) (s.head h)) :
    SpindlesRun (s.onMonitor h f) := by
  refine ⟨order.1, fun g => ?_⟩
  by_cases here : g = h
  · subst here
    rw [State.monitor_onMonitor]
    exact kept (order.2 g)
  · have other : (s.onMonitor h f).monitor g = s.monitor g := Bank.at_put_other _ _ _ _ here
    rw [other]
    exact order.2 g

/-- A change of all monitors alike. -/
theorem SpindlesRun.mapMonitors {f : LoadMonitor → LoadMonitor} (kept : ∀ m, MonitorInOrder m → MonitorInOrder (f m))
    (runs : ∀ m, (f m).running = m.running) {p : Nat} (small : p ≤ 7) :
    SpindlesRun { s with timebase := p, monitors := s.monitors.map f } := by
  refine ⟨small, fun g => ?_⟩
  obtain ⟨ranges, running⟩ := order.2 g
  have monitor : State.monitor { s with timebase := p, monitors := s.monitors.map f } g = f (s.monitor g) :=
    Bank.at_map _ _ _
  rw [monitor]
  exact ⟨kept _ ranges, (runs _).symm ▸ running⟩

/-- A change of one head record that leaves the head bound or unbound as it was. -/
theorem SpindlesRun.onHead (h : HeadNo) {f : HeadUnit → HeadUnit}
    (bound : (f (s.head h)).state ≠ .unbound ↔ (s.head h).state ≠ .unbound) : SpindlesRun (s.onHead h f) := by
  refine order.of_bound rfl rfl fun g => ?_
  by_cases here : g = h
  · subst here
    rw [State.head_onHead_same, bound]
  · rw [State.head_onHead_other _ here]

/-- A head becomes bound or unbound with its monitor. -/
theorem SpindlesRun.both (h : HeadNo) {f : LoadMonitor → LoadMonitor} {k : HeadUnit → HeadUnit}
    (kept : RunsWithHead (f (s.monitor h)) (k (s.head h))) (heads : t.heads = (s.onHead h k).heads)
    (monitors : t.monitors = (s.onMonitor h f).monitors) (timebase : t.timebase = s.timebase) : SpindlesRun t := by
  refine ⟨timebase ▸ order.1, fun g => ?_⟩
  have monitor : t.monitor g = (s.onMonitor h f).monitor g := congrArg (fun b => Bank.at b g) monitors
  have head : t.head g = (s.onHead h k).head g := congrArg (fun b => Bank.at b g) heads
  rw [monitor, head]
  by_cases here : g = h
  · subst here
    rw [State.monitor_onMonitor, State.head_onHead_same]
    exact kept
  · have other : (s.onMonitor h f).monitor g = s.monitor g := Bank.at_put_other _ _ _ _ here
    rw [other, State.head_onHead_other _ here]
    exact order.2 g

end

theorem decoderKeeps_spindles : DecoderKeeps SpindlesRun (fun _ => True) where
  port _ _ holds := holds
  decoder _ _ holds := holds
  attn _ holds := holds
  unit _ _ holds := holds.of_records (by simp) (by simp) (records_of_heads (by simp))
  clear {s} _ _ holds := by
    obtain ⟨t, base, eq⟩ := s.clearWork_base
    have cleared : SpindlesRun s.cleared := by
      refine holds.of_records rfl rfl ?_
      simp [State.records, State.cleared, Vector.map_map, Function.comp_def]
    rw [eq]
    exact (cleared.of_base base).of_records (by simp) (by simp) (records_of_heads (by simp))
  bind {s h} y cls limit n p0 hold _ _ holds := by
    refine SpindlesRun.both (s := s) holds h (f := fun _ => LoadMonitor.started (clampWindow n) p0)
      (k := fun hu => hu.bind y cls limit hold) ?_ rfl rfl rfl
    exact ⟨monitorInOrder_started n p0, by simp [LoadMonitor.started, HeadUnit.bind]⟩
  unbind {s h} _ holds := by
    obtain ⟨t, base, eq⟩ := s.unbind_eq h
    have before := holds.of_base base
    rw [eq]
    refine SpindlesRun.both before h (f := LoadMonitor.stopped)
      (k := fun hu => { hu with state := .unbound, boundCopy := none }) ?_ rfl rfl rfl
    exact ⟨monitorInOrder_stopped (before.2 h).1, by simp [LoadMonitor.stopped]⟩
  tool _ _ _ holds := holds.onHead _ Iff.rfl
  spindle n p0 bound holds := holds.onMonitor _ fun ⟨ranges, running⟩ =>
    ⟨monitorInOrder_pending ranges (running.2 bound) n p0, running⟩
  halt {s h} bound holds := by
    refine SpindlesRun.of_base ?_ (State.endParked_base _ _ _)
    exact holds.onHead h (by simp [bound])
  resume bound holds := holds.onHead _ (by simp [bound])
  stepOn _ holds := holds.of_base (State.leaveStepWait_base _ _)
  opens _ _ _ holds := holds.of_records (by simp) (by simp) (records_of_heads (by simp))
  retireFilling _ _ _ holds := holds.of_records (by simp) (by simp) (State.removeEntry_records _ _)
  retireLive _ _ _ holds := holds.of_records (by simp) (by simp) (State.removeEntry_records _ _)
  retireDone _ _ holds := holds.of_records (by simp) (by simp) (State.removeEntry_records _ _)
  duplicate _ _ _ _ _ holds := holds.of_records (by simp [State.acceptDuplicate]) (by simp [State.acceptDuplicate])
    (records_of_heads (by simp [State.acceptDuplicate]))
  breakClaim _ holds := holds.of_base (State.release_base _ _ _)
  takeDone _ holds := holds
  emptyHold _ holds := holds
  timebase _ holds :=
    holds.mapMonitors (fun _ => monitorInOrder_restarted) LoadMonitor.restarted_running (min_le_right _ _)
  copyValue _ _ _ holds := holds
  bandValue _ _ _ _ holds := holds
  edge _ holds := holds
  stepMode _ _ holds := holds.onHead _ Iff.rfl

/-! ## What no store unit moves -/

/-- The tables, the monitors and the links without their transmit queues. -/
def State.fixtures (s : State) : Bank CopyRecord × Bank (Bank BandRecord) × Bank LoadMonitor × Nat × Bank Link :=
  (s.copies, s.bands, s.monitors, s.timebase, s.links.map Link.untold)

theorem fixtures_of_base {s t : State} (same : t.base = s.base) : t.fixtures = s.fixtures := by
  have links : t.links.map Link.untold = s.links.map Link.untold := (congrArg State.links same :)
  simp only [State.fixtures, links, copies_of_base same, bands_of_base same, monitors_of_base same,
    timebase_of_base same]

theorem fixtures_eq {s t : State} (same : t.fixtures = s.fixtures) :
    t.copies = s.copies ∧ t.bands = s.bands ∧ t.monitors = s.monitors ∧ t.timebase = s.timebase ∧
      ∀ g, (t.link g).rx = (s.link g).rx := by
  simp only [State.fixtures, Prod.mk.injEq] at same
  obtain ⟨copies, bands, monitors, timebase, links⟩ := same
  refine ⟨copies, bands, monitors, timebase, fun g => ?_⟩
  simpa [State.link, Link.untold] using congrArg (fun b => (Bank.at b g).rx) links

theorem State.noteViolation_fixtures (s : State) (v : Violation) : (s.noteViolation v).fixtures = s.fixtures := by
  simp only [State.noteViolation]
  split <;> rfl

theorem State.growWear_fixtures (s : State) (h : HeadNo) (removed rate : Nat) :
    (s.growWear h removed rate).fixtures = s.fixtures := by
  simp only [State.growWear]
  split <;> rfl

theorem State.finishIfNone_fixtures (s : State) (k : TileKey) : (s.finishIfNone k).fixtures = s.fixtures := by
  simp only [State.finishIfNone]
  repeat' split
  all_goals simp [State.fixtures]

theorem State.record_fixtures (s : State) (h : HeadNo) (o : Outstanding) (e : Entry) :
    (s.record h o e).fixtures = s.fixtures := by
  simp only [State.record]
  split
  · exact (State.finishIfNone_fixtures _ _).trans (State.growWear_fixtures _ _ _ _)
  · exact (State.noteViolation_fixtures _ _).trans
      ((State.finishIfNone_fixtures _ _).trans (State.growWear_fixtures _ _ _ _))

theorem State.followCount_fixtures (s : State) (k : TileKey) : (s.followCount k).fixtures = s.fixtures := by
  simp only [State.followCount, State.leaveDoneQueue]
  repeat' split
  all_goals simp [State.fixtures]

theorem State.tileEditUnit_fixtures (s : State) (k : TileKey) (cell depth : Nat) :
    (s.tileEditUnit k cell depth).fixtures = s.fixtures := by
  simp only [State.tileEditUnit]
  repeat' split
  · rfl
  · rfl
  · rfl
  · exact State.followCount_fixtures _ _

theorem State.runUnit_fixtures (s : State) (u : PortUnit) : (s.runUnit u).fixtures = s.fixtures := by
  cases u
  case tileEdit k cell depth => exact s.tileEditUnit_fixtures k cell depth
  all_goals
    simp only [State.runUnit, State.tileOpenUnit, State.streamUnit, State.fillUnit, State.tileSealUnit,
      State.fenceWriteUnit, State.tileReadUnit]
    repeat' split
    all_goals simp [State.fixtures]

theorem State.copyCompleted_fixtures (s : State) (job : CopyJob) : (s.copyCompleted job).fixtures = s.fixtures := by
  simp only [State.copyCompleted, State.completeDest]
  repeat' split
  all_goals simp [State.fixtures]

theorem State.transferCell_fixtures (s : State) (job : CopyJob) : (s.transferCell job).fixtures = s.fixtures := by
  simp only [State.transferCell]
  split <;> simp [State.fixtures]

theorem State.copyUnit_fixtures (s : State) (job : CopyJob) : (s.copyUnit job).fixtures = s.fixtures := by
  simp only [State.copyUnit]
  split
  · exact s.transferCell_fixtures job
  · exact (fixtures_of_base (State.completeCopy_base (s.transferCell job) job)).trans
      ((State.copyCompleted_fixtures _ job).trans (s.transferCell_fixtures job))

/-- Beside the way of requests, a head's unit leaves all of them. -/
theorem State.probeUnit_fixtures (s : State) (h : HeadNo) (o : Outstanding) (k : TileKey) :
    (s.probeUnit h o k).fixtures = s.fixtures := fixtures_of_base (s.probeUnit_base h o k)

theorem State.reportUnit_fixtures (s : State) (h : HeadNo) (o : Outstanding) (k : TileKey) :
    (s.reportUnit h o k).fixtures = s.fixtures := by
  obtain same | ⟨e, -, -, -, base⟩ := s.reportUnit_base h o k
  · exact fixtures_of_base same
  · exact (fixtures_of_base base).trans (s.record_fixtures h o e)

theorem Moves.spindlesRun {i : Instr} {s t : State} (moves : Moves i s t) (holds : SpindlesRun s) :
    SpindlesRun t := by
  cases moves
  case reset =>
    refine ⟨Nat.zero_le 7, fun g => ?_⟩
    have head : (State.head { State.reset with pending := s.pending } g) = HeadUnit.reset := Bank.at_replicate _ g
    have monitor : (State.monitor { State.reset with pending := s.pending } g) = LoadMonitor.reset := Bank.at_replicate _ g
    rw [head, monitor]
    exact ⟨monitorInOrder_reset, by decide⟩
  case decodes b rest free _ _ =>
    exact decoderKeeps_spindles.decodeByte b rest free (fun _ _ => trivial) (fun _ _ _ => trivial) holds
  case portUnit u _ =>
    obtain ⟨-, -, monitors, timebase, -⟩ := fixtures_eq (s.runUnit_fixtures u)
    exact holds.of_records (by simp [timebase]) (by simp [monitors])
      ((records_of_heads (State.endPortUnit_heads _)).trans (s.runUnit_records u))
  case probeUnit h o k _ _ => exact holds.of_base (s.probeUnit_base h o k)
  case reportUnit h o k _ _ =>
    have bound (g : HeadNo) := (s.reportUnit_worked h o k g).bound
    obtain ⟨-, -, monitors, timebase, -⟩ := fixtures_eq (s.reportUnit_fixtures h o k)
    exact holds.of_bound timebase monitors bound
  case transfer job _ _ =>
    obtain ⟨-, -, monitors, timebase, -⟩ := fixtures_eq (s.copyUnit_fixtures job)
    exact holds.of_records timebase monitors (s.copyUnit_records job)
  case request h _ _ _ _ _ => exact SpindlesRun.of_base (s := s.huntAgain h) holds (State.requestArrives_base _ h _)
  case linkReset h => exact SpindlesRun.of_base (s := s.huntAgain h) holds (State.linkReset_base _ h)
  case badFrame h =>
    exact holds.of_records (by simp [State.badFrame, State.huntAgain]) (by simp [State.badFrame, State.huntAgain])
      (records_of_heads (s.badFrame_heads h))
  case answerSent h =>
    simp only [State.answerSent]
    split <;> exact holds
  case pulse h =>
    exact holds.onMonitor h fun ⟨ranges, running⟩ => ⟨monitorInOrder_pulse ranges, by rwa [LoadMonitor.pulse_running]⟩
  case stall h _ =>
    refine SpindlesRun.of_base ?_ (s.stallEntry_base h)
    exact holds.onMonitor h fun ⟨ranges, running⟩ => ⟨monitorInOrder_saturate ranges, running⟩
  case expiry h _ => exact holds.of_base (s.holdExpiry_base h)
  case tick =>
    refine SpindlesRun.of_base ?_ s.tick_base
    exact holds.mapMonitors (fun _ => monitorInOrder_ticked) LoadMonitor.ticked_running holds.1
  all_goals exact holds

/-! ## The Violation Hold -/

theorem holdInOrder_of_hold {s t : State} (same : t.hold = s.hold) (order : HoldInOrder s) : HoldInOrder t := by
  rwa [HoldInOrder, same]

/-- R95: the hold that VIOLATION CLEAR and CLEAR WORK leave. -/
theorem holdInOrder_of_empty {t : State} (empty : t.hold = { record := none, count := 0 }) : HoldInOrder t := by
  rw [HoldInOrder, empty]
  exact ⟨fun _ => rfl, Nat.zero_le _⟩

theorem holdInOrder_noteViolation {s : State} (v : Violation) (order : HoldInOrder s) :
    HoldInOrder (s.noteViolation v) := by
  obtain ⟨empty, small⟩ := order
  simp only [State.noteViolation]
  cases full : s.hold.record with
  | none => exact ⟨nofun, small⟩
  | some w => exact ⟨fun none => by simp at none, min_le_right _ _⟩

theorem holdInOrder_record {s : State} (h : HeadNo) (o : Outstanding) (e : Entry) (order : HoldInOrder s) :
    HoldInOrder (s.record h o e) := by
  simp only [State.record]
  split
  · exact holdInOrder_of_hold (by simp) order
  · refine holdInOrder_of_hold (State.onHead_hold _ _ _) (holdInOrder_noteViolation _ ?_)
    exact holdInOrder_of_hold (by simp) order

theorem decoderKeeps_holdInOrder : DecoderKeeps HoldInOrder (fun _ => True) where
  port _ _ holds := holds
  decoder _ _ holds := holds
  attn _ holds := holds
  unit _ _ holds := holdInOrder_of_hold (by simp) holds
  clear {s} _ _ _ := by
    obtain ⟨t, base, eq⟩ := s.clearWork_base
    rw [eq]
    exact holdInOrder_of_empty ((State.accept_hold t).trans (hold_of_base base :))
  bind _ _ _ _ _ _ _ _ holds := holds
  unbind {s h} _ holds := by
    obtain ⟨t, base, eq⟩ := s.unbind_eq h
    rw [eq]
    exact holdInOrder_of_hold (s := s) (hold_of_base base :) holds
  tool _ _ _ holds := holds
  spindle _ _ _ holds := holds
  halt _ holds := holdInOrder_of_hold (by simp) holds
  resume _ holds := holds
  stepOn _ holds := holdInOrder_of_hold (by simp) holds
  opens _ _ _ holds := holdInOrder_of_hold (by simp) holds
  retireFilling _ _ _ holds := holdInOrder_of_hold (by simp) holds
  retireLive _ _ _ holds := holdInOrder_of_hold (by simp) holds
  retireDone _ _ holds := holdInOrder_of_hold (by simp) holds
  duplicate _ _ _ _ _ holds := holdInOrder_of_hold (by simp [State.acceptDuplicate]) holds
  breakClaim _ holds := holdInOrder_of_hold (by simp) holds
  takeDone _ holds := holds
  emptyHold _ _ := holdInOrder_of_empty rfl
  timebase _ holds := holds
  copyValue _ _ _ holds := holds
  bandValue _ _ _ _ holds := holds
  edge _ holds := holds
  stepMode _ _ holds := holds

theorem Moves.holdInOrder {i : Instr} {s t : State} (moves : Moves i s t) (holds : HoldInOrder s) : HoldInOrder t := by
  cases moves
  case reset => exact holdInOrder_of_empty rfl
  case decodes b rest free _ _ =>
    exact decoderKeeps_holdInOrder.decodeByte b rest free (fun _ _ => trivial) (fun _ _ _ => trivial) holds
  case portUnit => exact holdInOrder_of_hold (by simp) holds
  case probeUnit h o k _ _ => exact holdInOrder_of_hold (hold_of_base (s.probeUnit_base h o k)) holds
  case reportUnit h o k _ _ =>
    obtain same | ⟨e, -, -, -, base⟩ := s.reportUnit_base h o k
    · exact holdInOrder_of_hold (hold_of_base same) holds
    · exact holdInOrder_of_hold (hold_of_base base) (holdInOrder_record h o e holds)
  case transfer job _ _ => exact holdInOrder_of_hold (s.copyUnit_hold job) holds
  case badFrame => exact holdInOrder_of_hold (by simp [State.badFrame, State.huntAgain]) holds
  case answerSent h =>
    simp only [State.answerSent]
    split <;> exact holds
  case stall h _ => exact holdInOrder_of_hold (s := s) (hold_of_base (s.stallEntry_base h) :) holds
  case expiry h _ => exact holdInOrder_of_hold (hold_of_base (s.holdExpiry_base h)) holds
  case tick => exact holdInOrder_of_hold (s := s) (hold_of_base s.tick_base :) holds
  case request h _ _ _ _ _ =>
    exact holdInOrder_of_hold (s := s) (hold_of_base (State.requestArrives_base (s.huntAgain h) h _) :) holds
  case linkReset h =>
    exact holdInOrder_of_hold (s := s) (hold_of_base (State.linkReset_base (s.huntAgain h) h) :) holds
  all_goals exact holds

/-! ## The receivers -/

theorem linksInOrder_of_rx {s t : State} (order : LinksInOrder s) (same : ∀ g, (t.link g).rx = (s.link g).rx) :
    LinksInOrder t := fun g => by
  rw [same]
  exact order g

theorem linksInOrder_of_links {s t : State} (order : LinksInOrder s) (same : t.links = s.links) : LinksInOrder t :=
  linksInOrder_of_rx order fun g => congrArg (fun b => (Bank.at b g).rx) same

theorem linksInOrder_of_base {s t : State} (order : LinksInOrder s) (same : t.base = s.base) : LinksInOrder t :=
  linksInOrder_of_rx order fun g => rx_of_base same g

theorem linksInOrder_of_fixtures {s t : State} (order : LinksInOrder s) (same : t.fixtures = s.fixtures) :
    LinksInOrder t := by
  obtain ⟨-, -, -, -, rx⟩ := fixtures_eq same
  exact linksInOrder_of_rx order rx

/-- A change of one receiver. -/
theorem linksInOrder_onLink {s : State} (h : HeadNo) {f : Link → Link} (order : LinksInOrder s)
    (kept : ReceiverInOrder (s.link h).rx → ReceiverInOrder (f (s.link h)).rx) : LinksInOrder (s.onLink h f) := by
  intro g
  by_cases here : g = h
  · subst here
    have own : (s.onLink g f).link g = f (s.link g) := Bank.at_put_same _ _ _
    rw [own]
    exact kept (order g)
  · have other : (s.onLink h f).link g = s.link g := Bank.at_put_other _ _ _ _ here
    rw [other]
    exact order g

/-- R150. -/
theorem linksInOrder_huntAgain {s : State} (h : HeadNo) (order : LinksInOrder s) : LinksInOrder (s.huntAgain h) :=
  linksInOrder_onLink h order fun _ => rfl

theorem decoderKeeps_links : DecoderKeeps LinksInOrder (fun _ => True) where
  port _ _ holds := holds
  decoder _ _ holds := holds
  attn _ holds := holds
  unit _ _ holds := linksInOrder_of_links holds (by simp)
  clear {s} _ _ holds := by
    obtain ⟨t, base, eq⟩ := s.clearWork_base
    rw [eq]
    exact linksInOrder_of_links (s := t) (linksInOrder_of_base (s := s.cleared) holds base) (by simp)
  bind _ _ _ _ _ _ _ _ holds := holds
  unbind {s h} _ holds := by
    obtain ⟨t, base, eq⟩ := s.unbind_eq h
    rw [eq]
    exact linksInOrder_of_links (linksInOrder_of_base holds base) rfl
  tool _ _ _ holds := holds
  spindle _ _ _ holds := holds
  halt {s h} _ holds := linksInOrder_of_base (s := s.onHead h (fun hu => { hu with state := .halted })) holds
    (State.endParked_base _ _ _)
  resume _ holds := holds
  stepOn _ holds := linksInOrder_of_base holds (State.leaveStepWait_base _ _)
  opens _ _ _ holds := linksInOrder_of_links holds (by simp)
  retireFilling _ _ _ holds := linksInOrder_of_links holds (by simp)
  retireLive _ _ _ holds := linksInOrder_of_links holds (by simp)
  retireDone _ _ holds := linksInOrder_of_links holds (by simp)
  duplicate _ _ _ _ _ holds := linksInOrder_of_links holds (by simp [State.acceptDuplicate])
  breakClaim _ holds := linksInOrder_of_base holds (State.release_base _ _ _)
  takeDone _ holds := holds
  emptyHold _ holds := holds
  timebase _ holds := holds
  copyValue _ _ _ holds := holds
  bandValue _ _ _ _ holds := holds
  edge _ holds := holds
  stepMode _ _ holds := holds

theorem Moves.linksInOrder {i : Instr} {s t : State} (moves : Moves i s t) (holds : LinksInOrder s) :
    LinksInOrder t := by
  cases moves
  case reset =>
    intro g
    have link : (State.link { State.reset with pending := s.pending } g) = Link.reset := Bank.at_replicate _ g
    rw [link]
    rfl
  case decodes b rest free _ _ =>
    exact decoderKeeps_links.decodeByte b rest free (fun _ _ => trivial) (fun _ _ _ => trivial) holds
  case portUnit u _ =>
    exact linksInOrder_of_links (linksInOrder_of_fixtures holds (s.runUnit_fixtures u)) (by simp)
  case probeUnit h o k _ _ => exact linksInOrder_of_fixtures holds (s.probeUnit_fixtures h o k)
  case reportUnit h o k _ _ => exact linksInOrder_of_fixtures holds (s.reportUnit_fixtures h o k)
  case transfer job _ _ => exact linksInOrder_of_fixtures holds (s.copyUnit_fixtures job)
  case request h _ _ _ _ _ =>
    exact linksInOrder_of_base (linksInOrder_huntAgain h holds) (State.requestArrives_base _ h _)
  case linkReset h => exact linksInOrder_of_base (linksInOrder_huntAgain h holds) (State.linkReset_base _ h)
  case badFrame h =>
    refine linksInOrder_of_rx (linksInOrder_huntAgain h holds) fun g => ?_
    simp only [State.badFrame, State.queueBadFrame]
    split
    · rfl
    · exact rx_of_base (State.queueAnswer_base (s.huntAgain h) h _) g
  case lost h => exact linksInOrder_huntAgain h holds
  case answerSent h =>
    simp only [State.answerSent]
    split
    · exact holds
    · exact linksInOrder_onLink h holds id
  case receives h rx order => exact linksInOrder_onLink h holds order
  case stall h _ => exact linksInOrder_of_base (s := s.onMonitor h LoadMonitor.saturate) holds (s.stallEntry_base h)
  case expiry h _ => exact linksInOrder_of_base holds (s.holdExpiry_base h)
  case tick =>
    intro g
    rw [rx_of_base s.tick_base g]
    exact holds g
  all_goals exact holds

end Sys2Proof.Machine
end

section
/-! PROOFS. R4, R8, R162, R167, R168: the Command Port's registers and the tables stay in their ranges. -/

namespace Sys2Proof.Machine

open Sys2Proof.Safety

/-! ## The port's registers -/

/-- `PortInOrder`, as a predicate of the port. -/
structure Port.Orderly (p : Port) : Prop where
  intake : p.intake.length ≤ Config.intakeDepth
  latch : p.readIndex ≤ p.reply.length
  bits : p.bitCount ≤ 7
  room : ∀ c, p.current = .known c → p.phase = .receiving → c.row.cls ≠ .stream →
    p.values.length < c.row.widths.length
  widths : ∀ c, p.current = .known c → ∀ i < p.values.length, p.values.getD i 0 < 256 ^ (c.row.widths.getD i 1)

theorem portInOrder_iff {s : State} : PortInOrder s ↔ s.port.Orderly :=
  ⟨fun ⟨intake, latch, bits, both⟩ => ⟨intake, latch, bits, fun c known => (both c known).1, fun c known => (both c known).2⟩,
    fun ⟨intake, latch, bits, room, widths⟩ => ⟨intake, latch, bits, fun c known => ⟨room c known, widths c known⟩⟩⟩

theorem tablesInRange_iff {s : State} : TablesInRange s ↔ s.port.Orderly ∧ TablesFit s := by
  constructor
  · rintro ⟨port, copy, band⟩
    refine ⟨portInOrder_iff.1 port, copy, fun y b => ?_, fun y => ?_⟩
    · obtain ⟨start, low, high, rate, dwell, -⟩ := band y b
      exact ⟨start, low, high, rate, dwell⟩
    · obtain ⟨-, -, -, -, -, first⟩ := band y 0
      exact first
  · rintro ⟨port, fit⟩
    refine ⟨portInOrder_iff.2 port, fit.copy, fun y b => ?_⟩
    obtain ⟨start, low, high, rate, dwell⟩ := fit.band y b
    exact ⟨start, low, high, rate, dwell, fit.first y⟩

theorem Port.Follows.refl (p : Port) : p.Follows p := ⟨rfl, rfl, .inl rfl, rfl, rfl, id⟩

theorem Port.Follows.trans {p q r : Port} (first : p.Follows q) (second : q.Follows r) : p.Follows r where
  current := second.current.trans first.current
  values := second.values.trans first.values
  phase := by
    rcases second.phase with same | refused
    · exact same ▸ first.phase
    · exact .inr refused
  intake := second.intake.trans first.intake
  bitCount := second.bitCount.trans first.bitCount
  latch := second.latch ∘ first.latch

theorem Port.Follows.fitted {p q : Port} (follows : p.Follows q) (fitted : p.Fitted) : q.Fitted := by
  rw [Port.Fitted, follows.current, follows.values]
  exact fitted

theorem Port.Follows.orderly {p q : Port} (follows : p.Follows q) (order : p.Orderly) : q.Orderly where
  intake := follows.intake ▸ order.intake
  latch := follows.latch order.latch
  bits := follows.bitCount ▸ order.bits
  room c known receiving := by
    rw [follows.current] at known
    rw [follows.values]
    refine order.room c known ?_
    rcases follows.phase with same | refused
    · exact same ▸ receiving
    · rw [refused] at receiving
      exact nomatch receiving
  widths := by
    rw [follows.current, follows.values]
    exact order.widths

/-- A command that takes no more bytes has no parameter left to come. -/
theorem Port.Follows.orderly_closed {p q : Port} (follows : p.Follows q) (order : Port.Orderly { p with phase := .refused })
    (phase : Phase) (closed : phase ≠ .receiving) : Port.Orderly { q with phase := phase } where
  intake := follows.intake ▸ order.intake
  latch := follows.latch order.latch
  bits := follows.bitCount ▸ order.bits
  room _ _ receiving := absurd receiving closed
  widths := by
    rw [follows.current, follows.values]
    exact order.widths

/-- R160 to R168: a completed byte. -/
theorem Port.orderly_takeByte {p : Port} (order : p.Orderly) (line : PortLine) (value : Byte) (early : Bool) :
    (p.takeByte line value early).Orderly := by
  have consumed : (p.consume line early).Orderly := by
    simp only [Port.consume]
    split_ifs
    · exact ⟨order.intake, min_le_right _ _, order.bits, order.room, order.widths⟩
    · exact order
  have noted : (p.consume line early).noteCommandByte.Orderly :=
    ⟨by simpa [Port.noteCommandByte] using consumed.intake, consumed.latch, consumed.bits, consumed.room,
      consumed.widths⟩
  have queued {q : Port} (order : q.Orderly) : (q.enqueue line value).Orderly := by
    simp only [Port.enqueue]
    split_ifs with space
    · exact ⟨by simpa using space, order.latch, order.bits, order.room, order.widths⟩
    · exact ⟨order.intake, order.latch, order.bits, order.room, order.widths⟩
  have emptied {q : Port} (order : q.Orderly) (out : Option Byte) : Port.Orderly { q with sdo := out, bitCount := 0 } :=
    ⟨order.intake, order.latch, Nat.zero_le _, order.room, order.widths⟩
  simp only [Port.takeByte]
  split_ifs
  · exact emptied (queued noted) _
  · exact emptied (queued noted) _
  · exact emptied (queued consumed) _
  · exact emptied (queued consumed) _

/-! ## What the commands do to port and tables -/

theorem TablesFit.of_same {s t : State} (fit : TablesFit s) (copies : t.copies = s.copies) (bands : t.bands = s.bands) :
    TablesFit t := by
  obtain ⟨copy, band, first⟩ := fit
  refine ⟨fun y => ?_, fun y b => ?_, fun y => ?_⟩
  · rw [State.copy, copies]
    exact copy y
  · rw [State.band, bands]
    exact band y b
  · rw [State.band, bands]
    exact first y

/-- The port has followed `p`, and the tables are in their ranges. -/
structure FollowsFitting (p : Port) (s : State) : Prop where
  follows : p.Follows s.port
  fitted : p.Fitted
  fit : TablesFit s

theorem FollowsFitting.of_same {p : Port} {s t : State} (holds : FollowsFitting p s)
    (port : s.port.Follows t.port) (copies : t.copies = s.copies) (bands : t.bands = s.bands) : FollowsFitting p t :=
  ⟨holds.follows.trans port, holds.fitted, holds.fit.of_same copies bands⟩

theorem FollowsFitting.of_base {p : Port} {s t : State} (holds : FollowsFitting p s) (same : t.base = s.base) :
    FollowsFitting p t :=
  holds.of_same (by rw [port_of_base same]; exact .refl _) (copies_of_base same) (bands_of_base same)

theorem FollowsFitting.stores {p : Port} {s t : State} (holds : FollowsFitting p s) (port : t.port = s.port)
    (stores : Stores s t) : FollowsFitting p t :=
  ⟨port ▸ holds.follows, holds.fitted, stores (holds.follows.fitted holds.fitted) holds.fit⟩

theorem State.accept_follows (s : State) : s.port.Follows s.accept.port := (registerMove_result .ok s.port).2

theorem State.requestUnit_follows (s : State) (u : PortUnit) : s.port.Follows (s.requestUnit u).port := by
  rw [State.requestUnit_eq]
  exact ⟨rfl, rfl, .inl rfl, rfl, rfl, id⟩

theorem actionsKeep_followsFitting (p : Port) : ActionsKeep (FollowsFitting p) (fun _ => True) where
  port f moves holds := holds.of_same (moves _).2 rfl rfl
  attn _ holds := holds.of_same (.refl _) rfl rfl
  unit u _ holds := holds.of_same (State.requestUnit_follows _ u) (by simp) (by simp)
  clear {s} _ _ holds := by
    obtain ⟨t, base, eq⟩ := s.clearWork_base
    have cleared : FollowsFitting p s.cleared := holds.of_same (.refl _) rfl rfl
    rw [eq]
    exact (cleared.of_base base).of_same (State.accept_follows t) rfl rfl
  bind _ _ _ _ _ _ _ _ holds := holds.of_same (.refl _) rfl rfl
  unbind {s h} _ holds := by
    obtain ⟨t, base, eq⟩ := s.unbind_eq h
    rw [eq]
    exact (holds.of_base base).of_same (.refl _) rfl rfl
  tool _ _ _ holds := holds.of_same (.refl _) rfl rfl
  spindle _ _ _ holds := holds.of_same (.refl _) rfl rfl
  halt {s h} _ holds := by
    have halted : FollowsFitting p (s.onHead h (fun hu => { hu with state := .halted })) :=
      holds.of_same (.refl _) rfl rfl
    exact halted.of_base (State.endParked_base _ _ _)
  resume _ holds := holds.of_same (.refl _) rfl rfl
  stepOn _ holds := holds.of_base (State.leaveStepWait_base _ _)
  opens _ _ _ holds := holds.of_same (by simpa using .refl _) (by simp) (by simp)
  retireFilling _ _ _ holds := holds.of_same (by simpa using .refl _) (by simp) (by simp)
  retireLive _ _ _ holds := holds.of_same (by simpa using .refl _) (by simp) (by simp)
  retireDone _ _ holds := holds.of_same (by simpa using .refl _) (by simp) (by simp)
  duplicate {s src dst _ _ _} _ _ _ _ _ holds := by
    refine holds.of_same ?_ (by simp [State.acceptDuplicate]) (by simp [State.acceptDuplicate])
    refine .trans ?_ (State.accept_follows _)
    simpa using .refl _
  breakClaim _ holds := holds.of_base (State.release_base _ _ _)
  takeDone _ holds := holds.of_same (.refl _) rfl rfl
  emptyHold _ holds := holds.of_same (.refl _) rfl rfl

theorem settingsKeep_followsFitting (p : Port) : SettingsKeep (FollowsFitting p) where
  toWiresKeep := (actionsKeep_followsFitting p).toWiresKeep
  stepOn := (actionsKeep_followsFitting p).stepOn
  timebase _ holds := holds.of_same (.refl _) rfl rfl
  copyValue _ _ stores holds := holds.stores rfl stores
  bandValue _ _ _ stores holds := holds.stores rfl stores
  edge _ holds := holds.of_same (.refl _) rfl rfl
  stepMode _ _ holds := holds.of_same (.refl _) rfl rfl

/-! ## The decoder's step -/

/-- `TablesInRange`, with its two halves named. -/
structure Ranged (s : State) : Prop where
  port : s.port.Orderly
  fit : TablesFit s

theorem Port.Orderly.fitted {p : Port} (order : p.Orderly)
    (few : ∀ c : Command, p.current = .known c → c.row.cls ≠ .stream → p.values.length ≤ c.row.widths.length) :
    p.Fitted := fun c known => ⟨few c known, order.widths c known⟩

theorem FollowsFitting.ranged {p : Port} {s : State} (order : p.Orderly) (holds : FollowsFitting p s) : Ranged s :=
  ⟨holds.follows.orderly order, holds.fit⟩

theorem Ranged.act {s : State} (holds : Ranged s) (free : s.port.unit = none)
    (few : ∀ c : Command, s.port.current = .known c → c.row.cls ≠ .stream → s.port.values.length ≤ c.row.widths.length)
    (c : Command) (vals : List Nat) : Ranged (s.act c vals) :=
  ((actionsKeep_followsFitting s.port).act (c := c) trivial vals
    ⟨.refl _, holds.port.fitted few, holds.fit⟩ free).ranged holds.port

/-- A command without parameters taken so far. -/
theorem Ranged.beginCommand {s : State} (holds : Ranged s) (cur : Current) (phase : Phase) (followed : Bool)
    (room : ∀ c, cur = .known c → phase = .receiving → c.row.cls ≠ .stream → c.row.widths ≠ []) :
    Ranged (s.beginCommand cur phase followed) := by
  refine ⟨⟨holds.port.intake, holds.port.latch, holds.port.bits, fun c known receiving stream => ?_, nofun⟩,
    holds.fit.of_same rfl rfl⟩
  exact List.length_pos_iff.2 (room c known receiving stream)

theorem Ranged.refuse {s : State} (holds : Ranged s) (r : ResultCode) : Ranged (s.refuse r) :=
  ⟨(registerMove_result r s.port).2.orderly holds.port, holds.fit.of_same rfl rfl⟩

/-- R165: a refused setting command takes no more of its bytes. -/
theorem Ranged.refused {s : State} (holds : Ranged s) : Ranged (s.onPort (fun p => { p with phase := .refused })) :=
  ⟨(registerMove_refused s.port).2.orderly holds.port, holds.fit.of_same rfl rfl⟩

theorem Ranged.accept {s : State} (holds : Ranged s) : Ranged s.accept :=
  ⟨(State.accept_follows s).orderly holds.port, holds.fit.of_same rfl rfl⟩

theorem Ranged.takeCommand {s : State} (holds : Ranged s) (free : s.port.unit = none) (code : Byte) (followed : Bool) :
    Ranged (s.takeCommand code followed) := by
  have ended : Ranged s.endCommand := by
    simp only [State.endCommand]
    repeat' split
    · exact holds.accept
    · exact holds
    · exact holds.refuse _
    · exact holds.refuse _
    · exact holds
  simp only [State.takeCommand]
  split
  case h_1 => exact (ended.beginCommand .unknown _ _ nofun).refuse _
  case h_2 c _ =>
    split_ifs with stream bare
    · have begun : Ranged (s.endCommand.beginCommand (.known c) .receiving followed) :=
        ended.beginCommand _ _ _ (by rintro _ ⟨⟩ _ other; exact absurd stream other)
      simp only [State.startStream]
      split_ifs
      · exact (begun.refuse _).refused
      · exact begun.accept
    · exact (ended.beginCommand (.known c) .complete _ (fun _ _ => nofun)).act ((State.endCommand_unit s).trans free) (fun _ _ _ => Nat.zero_le _) c []
    · exact ended.beginCommand _ _ _ (by rintro _ ⟨⟩ _ _; exact bare)

/-- The port with one more parameter of the current command. -/
theorem Port.orderly_append {p : Port} {c : Command} {v : Nat} (order : p.Orderly) (current : p.current = .known c)
    (fits : v < 256 ^ (c.row.widths.getD p.values.length 1)) (phase : Phase)
    (room : phase = .receiving → c.row.cls ≠ .stream → p.values.length + 1 < c.row.widths.length) :
    Port.Orderly { p with half := none, values := p.values ++ [v], phase := phase } := by
  refine ⟨order.intake, order.latch, order.bits, fun d known receiving stream => ?_, fun d known i within => ?_⟩
  · obtain rfl : c = d := by simpa [current] using known
    simpa using room receiving stream
  · obtain rfl : c = d := by simpa [current] using known
    simp only [List.length_append, List.length_singleton] at within
    rcases Nat.lt_succ_iff_lt_or_eq.1 within with before | last
    · simpa [List.getElem?_append_left before] using order.widths c current i before
    · subst last
      simpa using fits

theorem Ranged.takeValue {s : State} {c : Command} {v : Nat} (holds : Ranged s) (free : s.port.unit = none)
    (current : s.port.current = .known c)
    (receiving : s.port.phase = .receiving)
    (fits : c.row.cls ≠ .stream → v < 256 ^ (c.row.widths.getD s.port.values.length 1)) : Ranged (s.takeValue c v) := by
  obtain ⟨order, fit⟩ := holds
  have appended (phase : Phase) (params : c.row.cls ≠ .stream)
      (room : phase = .receiving → c.row.cls ≠ .stream → s.port.values.length + 1 < c.row.widths.length) :=
    Port.orderly_append order current (fits params) phase room
  have acted {cls : CommandClass} (own : c.row.cls = cls) (notStream : cls ≠ .stream) : Ranged
      (if decide ((s.port.values ++ [v]).length = c.row.widths.length) then
        (s.onPort (fun p => { p with half := none, values := s.port.values ++ [v], phase := .complete })).act c
          (s.port.values ++ [v])
      else s.onPort (fun p => { p with half := none, values := s.port.values ++ [v] })) := by
    have params : c.row.cls ≠ .stream := own ▸ notStream
    have room := order.room c current receiving params
    split_ifs with last
    · have complete : Ranged (s.onPort (fun p => { p with half := none, values := s.port.values ++ [v], phase := .complete })) :=
        ⟨appended .complete params nofun, fit.of_same rfl rfl⟩
      refine complete.act free (fun d known _ => ?_) c _
      obtain rfl : c = d := by simpa [current] using known
      simpa using room
    · refine ⟨?_, fit.of_same rfl rfl⟩
      have more := appended .receiving params fun _ _ => by
        simp only [List.length_append, List.length_singleton, decide_eq_true_eq] at last
        omega
      rwa [← receiving] at more
  simp only [State.takeValue]
  split
  case h_1 =>
    have emptied : Ranged (s.onPort (fun p => { p with half := none })) :=
      ⟨⟨order.intake, order.latch, order.bits, order.room, order.widths⟩, fit.of_same rfl rfl⟩
    simp only [State.streamValue]
    split
    · exact ⟨(State.requestUnit_follows _ _).orderly emptied.port, emptied.fit.of_same (by simp) (by simp)⟩
    · exact ⟨(State.requestUnit_follows _ _).orderly emptied.port, emptied.fit.of_same (by simp) (by simp)⟩
    · exact emptied
  case h_2 own =>
    have params : c.row.cls ≠ .stream := by simp [own]
    have room := order.room c current receiving params
    have waiting := appended .refused params nofun
    have fitted : Port.Fitted { s.port with half := none, values := s.port.values ++ [v] } := by
      intro d known
      obtain rfl : c = d := by simpa [current] using known
      exact ⟨fun _ => by simpa using room, waiting.widths c current⟩
    have stored := (settingsKeep_followsFitting { s.port with half := none, values := s.port.values ++ [v] }).setting
      (s := s.onPort (fun p => { p with half := none, values := s.port.values ++ [v] })) (c := c) current receiving
      ⟨.refl _, fitted, fit.of_same rfl rfl⟩
    split_ifs with last
    · simp only [State.completeSetting]
      split_ifs with taking
      · exact ⟨(stored.follows.trans (State.accept_follows _)).orderly_closed waiting .complete nofun,
          stored.fit.of_same rfl rfl⟩
      · exact ⟨stored.follows.orderly_closed waiting _ taking, stored.fit⟩
    · refine stored.ranged ?_
      have more := appended .receiving params fun _ _ => by
        simp only [List.length_append, List.length_singleton, decide_eq_true_eq] at last
        omega
      rwa [← receiving] at more
  case h_3 own => exact acted own nofun
  case h_4 own => exact acted own nofun

/-- A two-byte value is below 65536. -/
theorem joinBytes_lt (hi lo : Byte) : joinBytes hi lo < 256 ^ 2 := by
  have high := hi.isLt
  have low := lo.isLt
  simp only [joinBytes]
  omega

theorem Command.width_pos (c : Command) (i : Nat) : 1 ≤ c.row.widths.getD i 1 := by
  have all : ∀ w ∈ c.row.widths, 1 ≤ w := by cases c <;> decide
  rcases Nat.lt_or_ge i c.row.widths.length with within | past
  · rw [List.getD_eq_getElem _ _ within]
    exact all _ (List.getElem_mem within)
  · rw [List.getD_eq_default _ _ past]

theorem Ranged.takeParameter {s : State} (holds : Ranged s) (free : s.port.unit = none) (b : Byte) : Ranged (s.takeParameter b) := by
  simp only [State.takeParameter]
  split
  case h_1 c current receiving =>
    split_ifs with two
    · split
      · exact ⟨⟨holds.port.intake, holds.port.latch, holds.port.bits, holds.port.room, holds.port.widths⟩,
          holds.fit.of_same rfl rfl⟩
      · refine holds.takeValue free current receiving fun params => ?_
        rw [Command.nextWidth, if_neg params] at two
        rw [two]
        exact joinBytes_lt _ b
    · refine holds.takeValue free current receiving fun _ => ?_
      calc b.toNat < 256 ^ 1 := b.isLt
        _ ≤ 256 ^ c.row.widths.getD s.port.values.length 1 := Nat.pow_le_pow_right (by omega) (c.width_pos _)
  case h_2 => exact holds

/-- R162, R163. -/
theorem Ranged.decodeByte {s : State} (holds : Ranged s) (free : s.port.unit = none) (b : IntakeByte)
    (rest : List IntakeByte)    (front : s.port.intake = b :: rest) : Ranged (s.decodeByte b rest) := by
  have queued : Ranged (s.onPort (fun p => { p with intake := rest })) := by
    refine ⟨⟨?_, holds.port.latch, holds.port.bits, holds.port.room, holds.port.widths⟩, holds.fit.of_same rfl rfl⟩
    have before := holds.port.intake
    rw [front, List.length_cons] at before
    exact Nat.le_of_succ_le before
  have treated : Ranged (s.onPort (fun p => { p with intake := rest })).treatOverrun := by
    simp only [State.treatOverrun]
    split_ifs
    · have ended := queued.beginCommand .none .complete false nofun
      have cleared : Ranged (((s.onPort (fun p => { p with intake := rest })).beginCommand .none .complete false).onPort
          (fun p => { p with overrun := false })) :=
        ⟨⟨ended.port.intake, ended.port.latch, ended.port.bits, ended.port.room, ended.port.widths⟩,
          ended.fit.of_same rfl rfl⟩
      exact cleared.refuse _
    · exact queued
  simp only [State.decodeByte]
  split
  · exact treated.takeCommand ((State.treatOverrun_unit _).trans free) _ _
  · exact treated.takeParameter ((State.treatOverrun_unit _).trans free) _

/-! ## Every move -/

theorem Ranged.of_fixtures {s t : State} (holds : Ranged s) (same : t.fixtures = s.fixtures)
    (port : s.port.Follows t.port) : Ranged t := by
  obtain ⟨copies, bands, -⟩ := fixtures_eq same
  exact ⟨port.orderly holds.port, holds.fit.of_same copies bands⟩

theorem Ranged.of_base {s t : State} (holds : Ranged s) (same : t.base = s.base) : Ranged t :=
  holds.of_fixtures (fixtures_of_base same) (port_of_base same ▸ .refl _)

theorem follows_accept {s t : State} (same : t.port = s.port) : s.port.Follows t.accept.port :=
  same ▸ t.accept_follows

theorem follows_refuse {s t : State} (same : t.port = s.port) (r : ResultCode) : s.port.Follows (t.refuse r).port :=
  same ▸ (registerMove_result r t.port).2

@[simp] theorem State.followCount_port (s : State) (k : TileKey) : (s.followCount k).port = s.port := by
  simp only [State.followCount]
  repeat' split
  all_goals simp

/-- R46 to R54: a store unit of the port writes RESULT, and TILE READ the reply. -/
theorem State.runUnit_follows (s : State) (u : PortUnit) : s.port.Follows (s.runUnit u).port := by
  have stream (f : Cell → Cell) : s.port.Follows (s.streamUnit f).port := by
    simp only [State.streamUnit]
    split <;> exact .refl _
  cases u
  case targetValue => exact stream _
  case cutValue => exact stream _
  case tileOpen k =>
    simp only [State.runUnit, State.tileOpenUnit]
    split
    · exact .refl _
    · exact follows_accept (by simp)
  case fill d =>
    simp only [State.runUnit, State.fillUnit]
    split
    · exact .refl _
    · exact follows_accept (by simp)
  case tileSeal =>
    simp only [State.runUnit, State.tileSealUnit]
    repeat' split
    · exact .refl _
    · exact .refl _
    · exact follows_accept (by simp)
    · exact follows_accept (by simp)
  case fenceWrite k rows =>
    simp only [State.runUnit, State.fenceWriteUnit]
    repeat' split
    · exact follows_refuse rfl _
    · exact follows_refuse rfl _
    · exact follows_accept (by simp)
  case tileEdit k cell d =>
    simp only [State.runUnit, State.tileEditUnit]
    repeat' split
    · exact follows_refuse rfl _
    · exact follows_refuse rfl _
    · exact follows_refuse rfl _
    · exact follows_accept (by simp)
  case tileRead k field =>
    have latched (reply : List Byte) : s.port.Follows (s.latch reply).port := (registerMove_latch reply s.port).2
    simp only [State.runUnit, State.tileReadUnit]
    repeat' split
    · exact (latched _).trans (follows_refuse rfl _)
    · exact (latched _).trans (follows_refuse rfl _)
    · exact (latched _).trans (follows_accept rfl)

@[simp] theorem State.growWear_port (s : State) (h : HeadNo) (removed k : Nat) : (s.growWear h removed k).port = s.port := by
  simp only [State.growWear]
  split <;> simp

@[simp] theorem State.finishIfNone_port (s : State) (k : TileKey) : (s.finishIfNone k).port = s.port := by
  simp only [State.finishIfNone]
  repeat' split
  all_goals simp

theorem State.record_port (s : State) (h : HeadNo) (o : Outstanding) (e : Entry) : (s.record h o e).port = s.port := by
  simp only [State.record, State.noteViolation]
  repeat' split
  all_goals simp

@[simp] theorem State.transferCell_port (s : State) (job : CopyJob) : (s.transferCell job).port = s.port := by
  simp only [State.transferCell]
  split <;> rfl

@[simp] theorem State.completeDest_port (s : State) (k : TileKey) : (s.completeDest k).port = s.port := by
  simp only [State.completeDest]
  repeat' split
  all_goals simp

theorem State.copyUnit_port (s : State) (job : CopyJob) : (s.copyUnit job).port = s.port := by
  simp only [State.copyUnit, State.endUnit_port]
  split_ifs
  · simp
  · rw [port_of_base (State.completeCopy_base _ _), State.copyCompleted]
    simp

theorem Moves.ranged {i : Instr} {s t : State} (moves : Moves i s t) (holds : Ranged s) : Ranged t := by
  cases moves
  case reset =>
    have copy (y : CopyNo) : State.copy { State.reset with pending := s.pending } y = CopyRecord.reset :=
      Bank.at_replicate _ y
    have band (y : CopyNo) (b : Fin 8) : State.band { State.reset with pending := s.pending } y b = BandRecord.reset := by
      simp [State.band, State.reset]
    refine ⟨⟨Nat.zero_le _, Nat.zero_le _, Nat.zero_le _, nofun, nofun⟩, fun y => ?_, fun y b => ?_, fun y => ?_⟩
    · rw [copy]
      exact ⟨by decide, by decide, by decide, by decide⟩
    · rw [band]
      exact ⟨by decide, by decide, by decide, by decide, by decide⟩
    · rw [band]
      rfl
  case wireByte line value early =>
    exact ⟨Port.orderly_takeByte holds.port line value early, holds.fit.of_same rfl rfl⟩
  case chipSelect =>
    exact ⟨⟨holds.port.intake, holds.port.latch, Nat.zero_le _, holds.port.room, holds.port.widths⟩,
      holds.fit.of_same rfl rfl⟩
  case decodes b rest free front _ => exact holds.decodeByte free b rest front
  case portUnit u _ =>
    have ran := holds.of_fixtures (s.runUnit_fixtures u) (s.runUnit_follows u)
    exact ⟨⟨ran.port.intake, ran.port.latch, ran.port.bits, ran.port.room, ran.port.widths⟩, ran.fit.of_same rfl rfl⟩
  case probeUnit h o k _ _ => exact holds.of_base (s.probeUnit_base h o k)
  case reportUnit h o k _ _ =>
    refine holds.of_fixtures (s.reportUnit_fixtures h o k) ?_
    obtain same | ⟨e, -, -, -, base⟩ := s.reportUnit_base h o k
    · exact port_of_base same ▸ .refl _
    · rw [port_of_base base, s.record_port]
      exact .refl _
  case transfer job _ _ =>
    refine holds.of_fixtures (s.copyUnit_fixtures job) ?_
    rw [s.copyUnit_port]
    exact .refl _
  case request h _ _ _ _ _ => exact Ranged.of_base (s := s.huntAgain h) ⟨holds.port, holds.fit.of_same rfl rfl⟩ (State.requestArrives_base _ h _)
  case linkReset h => exact Ranged.of_base (s := s.huntAgain h) ⟨holds.port, holds.fit.of_same rfl rfl⟩ (State.linkReset_base _ h)
  case badFrame h =>
    have port : (s.badFrame h).port = s.port := by simp [State.badFrame, State.huntAgain]
    exact ⟨port ▸ holds.port,
      holds.fit.of_same (by simp [State.badFrame, State.huntAgain]) (by simp [State.badFrame, State.huntAgain])⟩
  case answerSent h =>
    simp only [State.answerSent]
    split <;> exact ⟨holds.port, holds.fit.of_same rfl rfl⟩
  case stall h _ =>
    exact Ranged.of_base (s := s.onMonitor h LoadMonitor.saturate) ⟨holds.port, holds.fit.of_same rfl rfl⟩ (s.stallEntry_base h)
  case expiry h _ => exact holds.of_base (s.holdExpiry_base h)
  case tick => 
    exact Ranged.of_base (s := { s with monitors := s.monitors.map LoadMonitor.ticked }) ⟨holds.port, holds.fit.of_same rfl rfl⟩ s.tick_base
  all_goals exact ⟨holds.port, holds.fit.of_same rfl rfl⟩

/-- R4, R8 to R9: the port and the tables stay in their ranges. -/
theorem Moves.tablesInRange {i : Instr} {s t : State} (moves : Moves i s t) (holds : TablesInRange s) :
    TablesInRange t := by
  rw [tablesInRange_iff] at holds ⊢
  obtain ⟨port, fit⟩ := moves.ranged ⟨holds.1, holds.2⟩
  exact ⟨port, fit⟩

/-- Settles O59: each of the five families of registers is kept by every move on its own; only the monitors lean on the
head records. -/
theorem registersStayInRange : Obligations.RegistersStayInRange := by
  refine ⟨?_, ?_, ?_, ?_, ?_⟩
  · exact keptByEveryStep_of_moves (fun _ _ holds => holds) fun holds moves => moves.headsInOrder holds
  · refine keptByEveryStep_of_moves (fun _ _ holds => holds) fun ⟨heads, spindles⟩ moves => ?_
    exact ⟨moves.headsInOrder heads, moves.spindlesRun spindles⟩
  · exact keptByEveryStep_of_moves (fun _ _ holds => holds) fun holds moves => moves.holdInOrder holds
  · exact keptByEveryStep_of_moves (fun _ _ holds => holds) fun holds moves => moves.linksInOrder holds
  · exact keptByEveryStep_of_moves (fun _ _ holds => holds) fun holds moves => moves.tablesInRange holds

end Sys2Proof.Machine
end

section
/-! PROOFS. R1: the Tile Store stays canonical, and its depths and those on their way there stay in range. -/

namespace Sys2Proof.Machine

open Sys2Proof.Safety

/-! ## The store under its writes -/

/-- The store is canonical and every depth in it satisfies `q`. -/
structure StoreHolds (q : Nat → Prop) (m : Memory) : Prop where
  wf : m.wf = true
  depths : ∀ x ∈ m, q x.2.target ∧ q x.2.cut

theorem Memory.mem_insert {m : Memory} {a : Nat} {c : Cell} {x : Nat × Cell} (listed : x ∈ Memory.insert m a c) :
    x = (a, c) ∨ x ∈ m := by
  induction m with
  | nil => exact .inl (List.mem_singleton.1 listed)
  | cons y rest ih =>
    obtain ⟨b, d⟩ := y
    simp only [Memory.insert] at listed
    split at listed
    · exact List.mem_cons.1 listed
    · rcases List.mem_cons.1 listed with first | later
      · exact .inr (by simp [first])
      · exact (ih later).imp_right (List.mem_cons_of_mem _)

theorem Memory.mem_write {m : Memory} {a : Nat} {c : Cell} {x : Nat × Cell} (listed : x ∈ Memory.write m a c) :
    x = (a, c) ∨ x ∈ m := by
  simp only [Memory.write] at listed
  split at listed
  · exact .inr (Memory.mem_of_mem_erase m a x listed)
  · exact (Memory.mem_insert listed).imp_right (Memory.mem_of_mem_erase m a x)

theorem Memory.read_cases (m : Memory) (a : Nat) : m.read a = Cell.blank ∨ (a, m.read a) ∈ m := by
  induction m with
  | nil => exact .inl rfl
  | cons y rest ih =>
    obtain ⟨b, d⟩ := y
    simp only [Memory.read]
    split
    case isTrue own => exact .inr (by simp [own])
    case isFalse => exact ih.imp_right (List.mem_cons_of_mem _)

section
variable {q : Nat → Prop} {m : Memory} (holds : StoreHolds q m)
include holds

theorem StoreHolds.read (zero : q 0) (a : Nat) : q (m.read a).target ∧ q (m.read a).cut := by
  rcases m.read_cases a with blank | listed
  · rw [blank]
    exact ⟨zero, zero⟩
  · exact holds.depths _ listed

theorem StoreHolds.write (a : Nat) {c : Cell} (fits : q c.target ∧ q c.cut) : StoreHolds q (m.write a c) := by
  refine ⟨Memory.wf_write a c holds.wf, fun x listed => ?_⟩
  rcases Memory.mem_write listed with rfl | before
  · exact fits
  · exact holds.depths x before

/-- A write to listed cells of a slot, cell by cell. -/
theorem StoreHolds.updateCells (zero : q 0) (slot : Nat) (cells : List Nat) {f : Nat → Cell → Cell}
    (fits : ∀ i c, q c.target ∧ q c.cut → q (f i c).target ∧ q (f i c).cut) :
    StoreHolds q (m.updateCells slot cells f) := by
  unfold Memory.updateCells
  induction cells generalizing m with
  | nil => exact holds
  | cons i rest ih => exact ih (holds.write _ (fits _ _ (holds.read zero _)))

end

/-! ## What each move does to the store -/

@[simp] theorem State.followCount_store (s : State) (k : TileKey) : (s.followCount k).store = s.store := by
  simp only [State.followCount]
  repeat' split
  all_goals simp

@[simp] theorem State.finishIfNone_store (s : State) (k : TileKey) : (s.finishIfNone k).store = s.store := by
  simp only [State.finishIfNone]
  repeat' split
  all_goals simp

@[simp] theorem State.growWear_store (s : State) (h : HeadNo) (removed k : Nat) : (s.growWear h removed k).store = s.store := by
  simp only [State.growWear]
  split <;> simp

@[simp] theorem State.completeDest_store (s : State) (k : TileKey) : (s.completeDest k).store = s.store := by
  simp only [State.completeDest]
  repeat' split
  all_goals simp

theorem State.record_store (s : State) (h : HeadNo) (o : Outstanding) (e : Entry) :
    (s.record h o e).store = s.store.write (cellAddr e.slot (cellIndex o.req.row o.req.col))
      ((s.cell e (cellIndex o.req.row o.req.col)).recorded o.req.depth (s.copy e.key.copy).overTol) := by
  simp only [State.record, State.noteViolation]
  repeat' split
  all_goals simp [State.onCell]

theorem decoderKeeps_store (m : Memory) : DecoderKeeps (fun s => s.store = m) (fun _ => True) where
  port _ _ holds := holds
  decoder _ _ holds := holds
  attn _ holds := holds
  unit _ _ holds := by simpa
  clear {s} _ _ holds := by
    obtain ⟨t, base, eq⟩ := s.clearWork_base
    rw [eq, State.accept_store, store_of_base base]
    exact holds
  bind _ _ _ _ _ _ _ _ holds := holds
  unbind {s h} _ holds := by
    obtain ⟨t, base, eq⟩ := s.unbind_eq h
    rw [eq]
    exact (store_of_base base).trans holds
  tool _ _ _ holds := holds
  spindle _ _ _ holds := holds
  halt _ holds := by simpa
  resume _ holds := holds
  stepOn _ holds := by simpa
  opens _ _ _ holds := by simpa
  retireFilling _ _ _ holds := by simpa
  retireLive _ _ _ holds := by simpa
  retireDone _ _ holds := by simpa
  duplicate _ _ _ _ _ holds := by simpa [State.acceptDuplicate]
  breakClaim _ holds := by simpa
  takeDone _ holds := holds
  emptyHold _ holds := holds
  timebase _ holds := holds
  copyValue _ _ _ holds := holds
  bandValue _ _ _ _ holds := holds
  edge _ holds := holds
  stepMode _ _ holds := holds

section
variable {q : Nat → Prop} {s : State} (zero : q 0) (holds : StoreHolds q s.store)
include zero holds

theorem State.runUnit_storeHolds {u : PortUnit} (depth : q (unitDepth u)) : StoreHolds q (s.runUnit u).store := by
  have stream (f : Cell → Cell) (fits : ∀ c, q c.target ∧ q c.cut → q (f c).target ∧ q (f c).cut) :
      StoreHolds q (s.streamUnit f).store := by
    simp only [State.streamUnit]
    split
    · exact holds
    · exact holds.write _ (fits _ (holds.read zero _))
  have cells {e : Entry} {listed : List Nat} {f : Nat → Cell → Cell}
      (fits : ∀ i c, q c.target ∧ q c.cut → q (f i c).target ∧ q (f i c).cut) :
      StoreHolds q (s.onCells e listed f).store := holds.updateCells zero e.slot listed fits
  cases u
  case tileOpen k =>
    simp only [State.runUnit, State.tileOpenUnit]
    split
    · exact holds
    · rw [State.accept_store]
      exact cells fun _ _ _ => ⟨zero, zero⟩
  case targetValue d => exact stream _ fun _ ⟨_, cut⟩ => ⟨depth, cut⟩
  case cutValue d => exact stream _ fun _ ⟨target, _⟩ => ⟨target, depth⟩
  case fill d =>
    simp only [State.runUnit, State.fillUnit]
    split
    · exact holds
    · rw [State.accept_store, State.onLoad_store]
      exact cells fun _ _ ⟨_, cut⟩ => ⟨depth, cut⟩
  case tileSeal =>
    simp only [State.runUnit, State.tileSealUnit]
    repeat' split
    · exact holds
    · exact holds
    all_goals
      simp only [State.accept_store, State.enterDone_store, State.closeTile_store, State.onEntry_store]
      exact cells fun _ _ fits => fits
  case fenceWrite k rows =>
    simp only [State.runUnit, State.fenceWriteUnit]
    repeat' split
    · exact holds
    · exact holds
    · rw [State.accept_store]
      exact cells fun _ _ fits => fits
  case tileEdit k cell d =>
    simp only [State.runUnit, State.tileEditUnit]
    repeat' split
    · exact holds
    · exact holds
    · exact holds
    case isFalse e _ _ _ =>
      obtain ⟨-, cut⟩ := holds.read zero (cellAddr e.slot cell)
      have edited := holds.write (cellAddr e.slot cell)
        (c := { s.cell e cell with target := d, overcut := false }) ⟨depth, cut⟩
      simpa using edited
  case tileRead k field =>
    simp only [State.runUnit, State.tileReadUnit]
    repeat' split
    all_goals simpa using holds

theorem State.copyUnit_storeHolds (job : CopyJob) : StoreHolds q (s.copyUnit job).store := by
  have transferred : StoreHolds q (s.transferCell job).store := by
    simp only [State.transferCell]
    split
    case h_1 src dst _ _ =>
      obtain ⟨target, -⟩ := holds.read zero (cellAddr src.slot s.engine.next)
      exact holds.write _ ⟨target, zero⟩
    case h_2 => exact holds
  simp only [State.copyUnit, State.endUnit_store]
  split
  · exact transferred
  · rw [store_of_base (State.completeCopy_base _ _), State.copyCompleted]
    simpa using transferred

theorem Moves.storeHolds {i : Instr} {t : State} (moves : Moves i s t) (unit : ∀ u ∈ s.port.unit, q (unitDepth u))
    (requests : ∀ h, ∀ o ∈ (s.head h).outstanding, q o.req.depth) : StoreHolds q t.store := by
  cases moves
  case reset => exact ⟨rfl, nofun⟩
  case decodes b rest free _ _ =>
    rw [(decoderKeeps_store s.store).decodeByte b rest free (fun _ _ => trivial) (fun _ _ _ => trivial) rfl]
    exact holds
  case portUnit u granted =>
    rw [State.endPortUnit_store]
    exact State.runUnit_storeHolds zero holds (unit u granted.1)
  case probeUnit h o k _ _ => rwa [store_of_base (s.probeUnit_base h o k)]
  case reportUnit h o k granted _ =>
    obtain ⟨present, -⟩ := granted
    obtain same | ⟨e, -, -, -, base⟩ := s.reportUnit_base h o k
    · rwa [store_of_base same]
    · rw [store_of_base base, s.record_store]
      obtain ⟨target, -⟩ := holds.read zero (cellAddr e.slot (cellIndex o.req.row o.req.col))
      exact holds.write _ ⟨target, requests h o present⟩
  case transfer job _ _ => exact State.copyUnit_storeHolds zero holds job
  case request h _ _ _ _ _ => rwa [store_of_base (State.requestArrives_base (s.huntAgain h) h _)]
  case linkReset h => rwa [store_of_base (State.linkReset_base (s.huntAgain h) h)]
  case badFrame h => simpa [State.badFrame, State.huntAgain] using holds
  case answerSent h =>
    simp only [State.answerSent]
    split <;> exact holds
  case stall h _ => rwa [store_of_base (s.stallEntry_base h)]
  case expiry h _ => rwa [store_of_base (s.holdExpiry_base h)]
  case tick => rwa [store_of_base s.tick_base]
  all_goals exact holds

end

/-! ## Depths on their way to the store -/

/-- A store unit of the port, if any, carries a clamped depth. -/
def UnitClamped (s : State) : Prop := ∀ u ∈ s.port.unit, unitDepth u ≤ Config.maxDepth

theorem unitClamped_of_unit {s t : State} (same : t.port.unit = s.port.unit) (clamped : UnitClamped s) :
    UnitClamped t := by
  rwa [UnitClamped, same]

theorem unitClamped_of_base {s t : State} (same : t.base = s.base) (clamped : UnitClamped s) : UnitClamped t :=
  unitClamped_of_unit (congrArg Port.unit (port_of_base same)) clamped

theorem decoderKeeps_unitClamped : DecoderKeeps UnitClamped (fun _ => True) where
  port _ moves holds := unitClamped_of_unit (moves _).1 holds
  decoder _ same holds := unitClamped_of_unit (same _) holds
  attn _ holds := holds
  unit u asked _ := by
    intro v unit
    simp only [State.requestUnit_eq, presentedUnit, Option.mem_some_iff] at unit
    exact unit ▸ asked.depth
  clear {s} _ _ holds := by
    obtain ⟨t, base, eq⟩ := s.clearWork_base
    rw [eq]
    exact unitClamped_of_unit (s := t) rfl (unitClamped_of_base (s := s.cleared) base holds)
  bind _ _ _ _ _ _ _ _ holds := holds
  unbind {s h} _ holds := by
    obtain ⟨t, base, eq⟩ := s.unbind_eq h
    rw [eq]
    exact unitClamped_of_unit (s := t) rfl (unitClamped_of_base base holds)
  tool _ _ _ holds := holds
  spindle _ _ _ holds := holds
  halt _ holds := unitClamped_of_unit (by simp) holds
  resume _ holds := holds
  stepOn _ holds := unitClamped_of_unit (by simp) holds
  opens _ _ _ holds := unitClamped_of_unit (by simp) holds
  retireFilling _ _ _ holds := unitClamped_of_unit (by simp) holds
  retireLive _ _ _ holds := unitClamped_of_unit (by simp) holds
  retireDone _ _ holds := unitClamped_of_unit (by simp) holds
  duplicate {s src dst _ _ _} _ _ _ _ _ holds := by
    have accepted (t : State) : t.accept.port.unit = t.port.unit := rfl
    exact unitClamped_of_unit (by simp [State.acceptDuplicate, accepted]) holds
  breakClaim _ holds := unitClamped_of_unit (by simp) holds
  takeDone _ holds := holds
  emptyHold _ holds := holds
  timebase _ holds := holds
  copyValue _ _ _ holds := holds
  bandValue _ _ _ _ holds := holds
  edge _ holds := holds
  stepMode _ _ holds := holds

theorem Port.takeByte_unit (p : Port) (line : PortLine) (value : Byte) (early : Bool) :
    (p.takeByte line value early).unit = p.unit := by
  simp only [Port.takeByte, Port.enqueue, Port.noteCommandByte, Port.consume]
  repeat' split
  all_goals rfl

theorem Moves.unitClamped {i : Instr} {s t : State} (moves : Moves i s t) (holds : UnitClamped s) : UnitClamped t := by
  cases moves
  case reset => exact nofun
  case wireByte => exact unitClamped_of_unit (Port.takeByte_unit _ _ _ _) holds
  case decodes b rest free _ _ =>
    exact decoderKeeps_unitClamped.decodeByte b rest free (fun _ _ => trivial) (fun _ _ _ => trivial) holds
  case portUnit u _ => exact nofun
  case probeUnit h o k _ _ => exact unitClamped_of_base (s.probeUnit_base h o k) holds
  case reportUnit h o k _ _ =>
    obtain same | ⟨e, -, -, -, base⟩ := s.reportUnit_base h o k
    · exact unitClamped_of_base same holds
    · exact unitClamped_of_base base (unitClamped_of_unit (congrArg Port.unit (s.record_port h o e)) holds)
  case transfer job _ _ => exact unitClamped_of_unit (congrArg Port.unit (s.copyUnit_port job)) holds
  case request h _ _ _ _ _ =>
    exact unitClamped_of_base (s := s.huntAgain h) (State.requestArrives_base _ h _) holds
  case linkReset h => exact unitClamped_of_base (s := s.huntAgain h) (State.linkReset_base _ h) holds
  case badFrame h => exact unitClamped_of_unit (by simp [State.badFrame, State.huntAgain]) holds
  case answerSent h =>
    simp only [State.answerSent]
    split <;> exact holds
  case stall h _ => exact unitClamped_of_base (s := s.onMonitor h LoadMonitor.saturate) (s.stallEntry_base h) holds
  case expiry h _ => exact unitClamped_of_base (s.holdExpiry_base h) holds
  case tick =>
    intro u unit
    rw [port_of_base s.tick_base] at unit
    exact holds u unit
  all_goals exact holds

/-- `DepthsInRange` in the words of the lemmas above. -/
theorem depthsInRange_iff {s : State} : StoreCanonical s ∧ DepthsInRange s ↔
    StoreHolds (· ≤ Config.maxDepth) s.store ∧ UnitClamped s ∧
      ∀ g, (s.head g).AllRequests (fun r => r.depth ≤ Config.maxDepth) := by
  constructor
  · rintro ⟨wf, store, unit, outstanding, buffer⟩
    exact ⟨⟨wf, store⟩, unit, fun g => ⟨outstanding g, buffer g⟩⟩
  · rintro ⟨⟨wf, store⟩, unit, requests⟩
    exact ⟨wf, store, unit, fun g => (requests g).1, fun g => (requests g).2⟩

/-- Settles O56: every write of the store is one of `StoreHolds.write`, and what is written is 0, a depth of the store, a
clamped parameter or a clamped reached depth. -/
theorem storeStaysInOrder : Obligations.StoreStaysInOrder := by
  constructor
  · refine keptByEveryStep_of_moves (fun _ _ holds => holds) fun wf moves => ?_
    exact (moves.storeHolds (q := fun _ => True) trivial ⟨wf, fun _ _ => ⟨trivial, trivial⟩⟩ (fun _ _ => trivial)
      (fun _ _ _ => trivial)).wf
  · refine keptByEveryStep_of_moves (fun _ _ holds => holds) fun holds moves => ?_
    obtain ⟨store, unit, requests⟩ := depthsInRange_iff.1 holds
    refine depthsInRange_iff.2 ⟨moves.storeHolds (q := (· ≤ Config.maxDepth)) (Nat.zero_le _) store unit (fun h => (requests h).1),
      moves.unitClamped unit, ?_⟩
    exact (slotsKeep_allRequests (fun _ _ _ _ depth => clampDepth_le depth)).moves moves requests

end Sys2Proof.Machine
end

section
/-! PROOFS. R17, R23, R24, R29, R30, R34, R41, R56: the directory's books, and what keeps them exact. The books are what
`DirectoryExact` reads of the state, the port apart; each operation of the directory is a change of the books. -/

namespace Sys2Proof.Machine

open Sys2Proof.Safety

/-! ## The books -/

/-- The directory without claims and wait lists, the pool, the Done Queue, the store, the Load Unit, the Copy Engine's
job and the Copy Table. -/
structure Books where
  dir : List Entry
  freeSlots : List Nat
  done : List TileKey
  store : Memory
  load : LoadUnit
  job : Option CopyJob
  next : Nat
  copies : Bank CopyRecord

/-- The books of a state. -/
def State.books (s : State) : Books :=
  { dir := s.dir.map Entry.bare, freeSlots := s.freeSlots, done := s.done, store := s.store, load := s.load
    job := s.engine.job, next := s.engine.next, copies := s.copies }

/-- R29: the counts of an entry are those of its cells, and it stands as DONE or LIVE as they say. -/
structure Books.Counted (b : Books) (e : Entry) : Prop where
  remaining : e.remaining = b.store.countCells e.slot (fun c => !c.finished (Bank.at b.copies e.key.copy).finishTol)
  overcut : e.overcut = b.store.countCells e.slot (fun c => c.overcut)
  done : Entry.standing e = .done ↔ e.remaining = 0
  either : Entry.standing e = .done ∨ Entry.standing e = .live

/-- R56, R59: the entries of the duplication at work, and the cells of the destination that are written. -/
structure Books.Copies (b : Books) (j : CopyJob) : Prop where
  source : ∃ e ∈ b.dir, e.key = j.source
  dest : ∃ e ∈ b.dir, e.key = j.dest
  apart : j.source ≠ j.dest
  next : b.next < Config.cellsPerTile
  blank : ∀ e ∈ b.dir, e.key = j.dest → ∀ c < b.next,
    (b.store.read (cellAddr e.slot c)).cut = 0 ∧ (b.store.read (cellAddr e.slot c)).overcut = false

/-- `DirectoryExact`, the port apart. -/
structure Books.Exact (b : Books) : Prop where
  keys : (b.dir.map (fun e => e.key)).Nodup
  slots : (b.dir.map (fun e => e.slot) ++ b.freeSlots).Perm (List.range Config.slots)
  window : b.load.InOrder
  filling : ∀ e ∈ b.dir, e.state = .filling ↔ b.load.openTile = some e.key
  opened : ∀ k, b.load.openTile = some k → ∃ e ∈ b.dir, e.key = k
  copying : ∀ e ∈ b.dir, e.state = .copying ↔ ∃ j, b.job = some j ∧ (e.key = j.source ∨ e.key = j.dest)
  source : ∀ e ∈ b.dir, e.ret.isSome = true ↔ ∃ j, b.job = some j ∧ e.key = j.source
  job : ∀ j, b.job = some j → b.Copies j
  counts : ∀ e ∈ b.dir, Entry.settled e = true → b.Counted e
  doneNodup : b.done.Nodup
  doneKeys : ∀ k ∈ b.done, ∃ e ∈ b.dir, e.key = k ∧ Entry.standing e = .done

/-! ## Entries by key and by slot -/

section
variable {b c : Books} (exact : b.Exact)
include exact

theorem Books.Exact.eq_of_key {e d : Entry} (he : e ∈ b.dir) (hd : d ∈ b.dir) (same : e.key = d.key) : e = d :=
  List.inj_on_of_nodup_map exact.keys he hd same

theorem Books.Exact.slot_ne {e d : Entry} (he : e ∈ b.dir) (hd : d ∈ b.dir) (differ : e.key ≠ d.key) :
    e.slot ≠ d.slot := by
  have distinct : (b.dir.map (fun x => x.slot)).Nodup :=
    (exact.slots.nodup_iff.2 List.nodup_range).of_append_left
  exact fun same => differ (congrArg Entry.key (List.inj_on_of_nodup_map distinct he hd same))

/-- A store that differs in one entry's slot alone reads the same in every other. -/
theorem Books.Exact.cells_of_slot {m : Memory} {e : Entry} (he : e ∈ b.dir)
    (outside : ∀ slot ≠ e.slot, ∀ i < 64, m.read (cellAddr slot i) = b.store.read (cellAddr slot i)) :
    ∀ x ∈ b.dir, x.key ≠ e.key → ∀ i < 64, m.read (cellAddr x.slot i) = b.store.read (cellAddr x.slot i) :=
  fun _ hx differ => outside _ (exact.slot_ne hx he differ)

end

theorem Memory.countCells_congr {m n : Memory} {slot : Nat} (p : Cell → Bool)
    (same : ∀ i < 64, n.read (cellAddr slot i) = m.read (cellAddr slot i)) :
    n.countCells slot p = m.countCells slot p := by
  unfold Memory.countCells
  refine congrArg List.length (List.filter_congr fun i inTile => ?_)
  rw [same i (List.mem_range.1 inTile)]

/-- The counts of an entry stand while its cells, its copy record and the entry do. -/
theorem Books.Counted.of_cells {b c : Books} {e : Entry} (counted : b.Counted e)
    (cells : ∀ i < 64, c.store.read (cellAddr e.slot i) = b.store.read (cellAddr e.slot i))
    (copy : (Bank.at c.copies e.key.copy).finishTol = (Bank.at b.copies e.key.copy).finishTol) : c.Counted e := by
  obtain ⟨remaining, overcut, done, either⟩ := counted
  refine ⟨?_, ?_, done, either⟩
  · rw [Memory.countCells_congr _ cells, copy]
    exact remaining
  · rw [Memory.countCells_congr _ cells]
    exact overcut

theorem Books.Copies.of_same {b c : Books} {j : CopyJob} (copies : b.Copies j) (dir : c.dir = b.dir)
    (next : c.next = b.next) (store : c.store = b.store) : c.Copies j := by
  obtain ⟨source, dest, apart, below, blank⟩ := copies
  exact ⟨by rwa [dir], by rwa [dir], apart, by rwa [next], by rwa [dir, next, store]⟩

/-! ## A change of one entry -/

/-- The directory with `new` in place of the entry of its key. -/
def replaced (dir : List Entry) (new : Entry) : List Entry := dir.map (fun x => if x.key = new.key then new else x)

theorem mem_replaced {dir : List Entry} {e new x : Entry} (he : e ∈ dir) (key : new.key = e.key) :
    x ∈ replaced dir new ↔ x = new ∨ x ∈ dir ∧ x.key ≠ e.key := by
  simp only [replaced, List.mem_map, key]
  constructor
  · rintro ⟨y, hy, rfl⟩
    split_ifs with own
    · exact .inl rfl
    · exact .inr ⟨hy, own⟩
  · rintro (rfl | ⟨hx, other⟩)
    · exact ⟨e, he, if_pos rfl⟩
    · exact ⟨x, hx, if_neg other⟩

theorem replaced_keys (dir : List Entry) (new : Entry) :
    (replaced dir new).map (fun e => e.key) = dir.map (fun e => e.key) := by
  rw [replaced, List.map_map]
  refine List.map_congr_left fun x _ => ?_
  by_cases own : x.key = new.key <;> simp [own]

theorem replaced_slots {dir : List Entry} {new : Entry} (same : ∀ x ∈ dir, x.key = new.key → x.slot = new.slot) :
    (replaced dir new).map (fun e => e.slot) = dir.map (fun e => e.slot) := by
  rw [replaced, List.map_map]
  refine List.map_congr_left fun x hx => ?_
  by_cases own : x.key = new.key
  · rw [Function.comp_apply, if_pos own, same x hx own]
  · rw [Function.comp_apply, if_neg own]

theorem Books.Exact.replaced_slots {b : Books} (exact : b.Exact) {e new : Entry} (he : e ∈ b.dir)
    (key : new.key = e.key) (slot : new.slot = e.slot) :
    (replaced b.dir new).map (fun e => e.slot) = b.dir.map (fun e => e.slot) :=
  Machine.replaced_slots fun _ hx own => by rw [exact.eq_of_key hx he (own.trans key), slot]

/-- What a store unit leaves of the books when it changes the entry `e` to `new` and cells of its slot. -/
structure Books.Updates (b c : Books) (e new : Entry) : Prop where
  dir : c.dir = replaced b.dir new
  key : new.key = e.key
  slot : new.slot = e.slot
  freeSlots : c.freeSlots = b.freeSlots
  copies : c.copies = b.copies
  job : c.job = b.job
  next : c.next = b.next
  cells : ∀ slot ≠ e.slot, ∀ i < 64, c.store.read (cellAddr slot i) = b.store.read (cellAddr slot i)

/-- A unit on an entry that no duplication holds keeps the books exact where it keeps the entry's own. -/
theorem Books.Exact.update {b c : Books} (exact : b.Exact) {e new : Entry} (he : e ∈ b.dir)
    (calm : e.state ≠ .copying) (updates : b.Updates c e new) (calm' : new.state ≠ .copying) (ret : new.ret = none)
    (window : c.load.InOrder) (others : ∀ k ≠ e.key, c.load.openTile = some k ↔ b.load.openTile = some k)
    (own : new.state = .filling ↔ c.load.openTile = some e.key)
    (counted : Entry.settled new = true → c.Counted new)
    (doneNodup : c.done.Nodup) (done : ∀ k ∈ c.done, k ≠ e.key → k ∈ b.done)
    (doneOwn : e.key ∈ c.done → new.state = .done) : c.Exact := by
  obtain ⟨dir, key, slot, freeSlots, copies, job, next, cells⟩ := updates
  have mem {x : Entry} : x ∈ c.dir ↔ x = new ∨ x ∈ b.dir ∧ x.key ≠ e.key := by rw [dir, mem_replaced he key]
  have present {k : TileKey} (there : ∃ x ∈ b.dir, x.key = k) : ∃ x ∈ c.dir, x.key = k := by
    obtain ⟨x, hx, rfl⟩ := there
    by_cases same : x.key = e.key
    · exact ⟨new, mem.2 (.inl rfl), key.trans same.symm⟩
    · exact ⟨x, mem.2 (.inr ⟨hx, same⟩), rfl⟩
  have aside : ¬∃ j, b.job = some j ∧ (e.key = j.source ∨ e.key = j.dest) := fun held => calm ((exact.copying e he).2 held)
  have otherCells := exact.cells_of_slot he cells
  constructor
  case keys => rw [dir, replaced_keys]; exact exact.keys
  case slots => rw [dir, freeSlots, exact.replaced_slots he key slot]; exact exact.slots
  case window => exact window
  case filling =>
    intro x hx
    rcases mem.1 hx with rfl | ⟨hx, other⟩
    · rw [key]; exact own
    · rw [others _ other]; exact exact.filling x hx
  case opened =>
    intro k openTile
    by_cases same : k = e.key
    · exact present ⟨e, he, same.symm⟩
    · exact present (exact.opened k ((others k same).1 openTile))
  case copying =>
    intro x hx
    rw [job]
    rcases mem.1 hx with rfl | ⟨hx, -⟩
    · rw [key]
      exact ⟨fun copying => absurd copying calm', fun held => absurd held aside⟩
    · exact exact.copying x hx
  case source =>
    intro x hx
    rw [job]
    rcases mem.1 hx with rfl | ⟨hx, -⟩
    · rw [key, ret]
      exact ⟨nofun, fun ⟨j, held, source⟩ => absurd ⟨j, held, .inl source⟩ aside⟩
    · exact exact.source x hx
  case job =>
    intro j held
    rw [job] at held
    obtain ⟨source, dest, apart, below, blank⟩ := exact.job j held
    refine ⟨present source, present dest, apart, next ▸ below, fun x hx isDest i before => ?_⟩
    rw [next] at before
    rcases mem.1 hx with rfl | ⟨hx, other⟩
    · exact absurd ⟨j, held, .inr (key ▸ isDest)⟩ aside
    · rw [otherCells x hx other i (Nat.lt_trans before below)]
      exact blank x hx isDest i before
  case counts =>
    intro x hx settled
    rcases mem.1 hx with rfl | ⟨hx, other⟩
    · exact counted settled
    · exact (exact.counts x hx settled).of_cells (otherCells x hx other) (by rw [copies])
  case doneNodup => exact doneNodup
  case doneKeys =>
    intro k hk
    by_cases same : k = e.key
    · subst same
      refine ⟨new, mem.2 (.inl rfl), key, ?_⟩
      simp [Entry.standing, ret, doneOwn hk]
    · obtain ⟨x, hx, rfl, standing⟩ := exact.doneKeys k (done k hk same)
      exact ⟨x, mem.2 (.inr ⟨hx, same⟩), rfl, standing⟩

/-! ## Entries come and go -/

/-- An entry that stands as DONE is in neither FILLING nor COPYING without a return state. -/
theorem Books.Exact.standing_of_done {b : Books} (exact : b.Exact) {e : Entry} (he : e ∈ b.dir) (listed : e.key ∈ b.done) :
    Entry.standing e = .done := by
  obtain ⟨d, hd, key, standing⟩ := exact.doneKeys _ listed
  exact exact.eq_of_key hd he key ▸ standing

/-- R29, R56: an entry in LIVE or DONE has no return state. -/
theorem Books.Exact.ret_eq_none {b : Books} (exact : b.Exact) {e : Entry} (he : e ∈ b.dir) (calm : e.state ≠ .copying) :
    e.ret = none := by
  rw [← Option.not_isSome_iff_eq_none]
  intro source
  obtain ⟨j, held, key⟩ := (exact.source e he).1 source
  exact calm ((exact.copying e he).2 ⟨j, held, .inl key⟩)

/-- R27: TILE OPEN creates an entry in FILLING, the open tile. -/
theorem Books.Exact.open {b c : Books} (exact : b.Exact) {k : TileKey} {slot : Nat} {pool : List Nat}
    (closed : b.load.openTile = none) (absent : ∀ e ∈ b.dir, e.key ≠ k) (free : b.freeSlots = slot :: pool)
    (dir : c.dir = b.dir ++ [Entry.fresh k slot .filling]) (freeSlots : c.freeSlots = pool) (done : c.done = b.done)
    (store : c.store = b.store) (load : c.load = { LoadUnit.reset with openTile := some k }) (job : c.job = b.job)
    (next : c.next = b.next) (copies : c.copies = b.copies) : c.Exact := by
  have mem {x : Entry} : x ∈ c.dir ↔ x ∈ b.dir ∨ x = Entry.fresh k slot .filling := by simp [dir]
  have present {j : TileKey} (there : ∃ x ∈ b.dir, x.key = j) : ∃ x ∈ c.dir, x.key = j := by
    obtain ⟨x, hx, key⟩ := there
    exact ⟨x, mem.2 (.inl hx), key⟩
  have isOpen : c.load.openTile = some k := by rw [load]
  have fresh {j : CopyJob} (held : b.job = some j) : k ≠ j.source ∧ k ≠ j.dest := by
    obtain ⟨⟨x, hx, source⟩, ⟨y, hy, dest⟩, -⟩ := exact.job j held
    exact ⟨fun same => absent x hx (source.trans same.symm), fun same => absent y hy (dest.trans same.symm)⟩
  constructor
  case keys =>
    rw [dir, List.map_append, List.map_singleton]
    refine exact.keys.append (List.nodup_singleton _) fun j listed isKey => ?_
    obtain ⟨x, hx, rfl⟩ := List.mem_map.1 listed
    exact absent x hx (List.mem_singleton.1 isKey)
  case slots =>
    refine .trans ?_ exact.slots
    rw [dir, freeSlots, free, List.map_append, List.append_assoc]
    rfl
  case window => rw [load]; simp [LoadUnit.InOrder, LoadUnit.reset]
  case filling =>
    intro x hx
    rw [isOpen, Option.some.injEq]
    rcases mem.1 hx with hx | rfl
    · refine ⟨fun filling => ?_, fun same => absurd same.symm (absent x hx)⟩
      rw [exact.filling x hx, closed] at filling
      exact nomatch filling
    · exact ⟨fun _ => rfl, fun _ => rfl⟩
  case opened =>
    intro j open_
    rw [isOpen, Option.some.injEq] at open_
    exact ⟨_, mem.2 (.inr rfl), open_⟩
  case copying =>
    intro x hx
    rw [job]
    rcases mem.1 hx with hx | rfl
    · exact exact.copying x hx
    · exact ⟨nofun, fun ⟨j, held, which⟩ => (which.elim (fresh held).1 (fresh held).2).elim⟩
  case source =>
    intro x hx
    rw [job]
    rcases mem.1 hx with hx | rfl
    · exact exact.source x hx
    · exact ⟨nofun, fun ⟨j, held, source⟩ => absurd source (fresh held).1⟩
  case job =>
    intro j held
    rw [job] at held
    obtain ⟨source, dest, apart, below, blank⟩ := exact.job j held
    refine ⟨present source, present dest, apart, next ▸ below, fun x hx isDest i before => ?_⟩
    rw [next] at before
    rw [store]
    rcases mem.1 hx with hx | rfl
    · exact blank x hx isDest i before
    · exact absurd isDest (fresh held).2
  case counts =>
    intro x hx settled
    rcases mem.1 hx with hx | rfl
    · exact (exact.counts x hx settled).of_cells (fun _ _ => by rw [store]) (by rw [copies])
    · exact nomatch settled
  case doneNodup => rw [done]; exact exact.doneNodup
  case doneKeys =>
    intro j listed
    rw [done] at listed
    obtain ⟨x, hx, rest⟩ := exact.doneKeys j listed
    exact ⟨x, mem.2 (.inl hx), rest⟩

theorem eraseP_key_eq_erase {l : List Entry} {e : Entry} (only : ∀ x ∈ l, x.key = e.key → x = e) :
    l.eraseP (fun x => decide (x.key = e.key)) = l.erase e := by
  induction l with
  | nil => rfl
  | cons x rest ih =>
    by_cases own : x.key = e.key
    · obtain rfl := only x (by simp) own
      simp
    · have other : x ≠ e := fun same => own (congrArg Entry.key same)
      rw [List.eraseP_cons_of_neg (by simpa using own), List.erase_cons_tail (by simpa using other),
        ih fun y hy => only y (by simp [hy])]

/-- R36: an entry that no duplication holds leaves, and its key the Done Queue and the Load Unit. -/
theorem Books.Exact.remove {b c : Books} (exact : b.Exact) {e : Entry} (he : e ∈ b.dir) (calm : e.state ≠ .copying)
    (dir : c.dir = b.dir.eraseP (fun x => decide (x.key = e.key))) (freeSlots : c.freeSlots = e.slot :: b.freeSlots)
    (doneNodup : c.done.Nodup) (done : ∀ k ∈ c.done, k ∈ b.done ∧ k ≠ e.key) (store : c.store = b.store)
    (window : c.load.InOrder) (openTile : ∀ k, c.load.openTile = some k ↔ b.load.openTile = some k ∧ k ≠ e.key)
    (job : c.job = b.job) (next : c.next = b.next) (copies : c.copies = b.copies) : c.Exact := by
  have distinct : b.dir.Nodup := List.Nodup.of_map _ exact.keys
  have erased : c.dir = b.dir.erase e := by
    rw [dir]
    exact eraseP_key_eq_erase fun x hx => exact.eq_of_key hx he
  have mem {x : Entry} : x ∈ c.dir ↔ x ∈ b.dir ∧ x.key ≠ e.key := by
    rw [erased, distinct.mem_erase_iff, and_comm]
    refine and_congr_right fun hx => not_congr ⟨congrArg Entry.key, exact.eq_of_key hx he⟩
  have aside : ¬∃ j, b.job = some j ∧ (e.key = j.source ∨ e.key = j.dest) := fun held => calm ((exact.copying e he).2 held)
  constructor
  case keys => rw [erased]; exact exact.keys.sublist (List.erase_sublist.map _)
  case slots =>
    refine .trans ?_ exact.slots
    rw [erased, freeSlots]
    refine .trans List.perm_middle ?_
    exact ((List.perm_cons_erase he).symm.map (fun x => x.slot)).append_right _
  case window => exact window
  case filling =>
    intro x hx
    obtain ⟨hx, other⟩ := mem.1 hx
    rw [openTile, exact.filling x hx]
    exact ⟨fun same => ⟨same, other⟩, And.left⟩
  case opened =>
    intro k isOpen
    obtain ⟨isOpen, other⟩ := (openTile k).1 isOpen
    obtain ⟨x, hx, rfl⟩ := exact.opened k isOpen
    exact ⟨x, mem.2 ⟨hx, other⟩, rfl⟩
  case copying => intro x hx; rw [job]; exact exact.copying x (mem.1 hx).1
  case source => intro x hx; rw [job]; exact exact.source x (mem.1 hx).1
  case job =>
    intro j held
    rw [job] at held
    obtain ⟨⟨x, hx, source⟩, ⟨y, hy, dest⟩, apart, below, blank⟩ := exact.job j held
    refine ⟨⟨x, mem.2 ⟨hx, fun same => ?_⟩, source⟩, ⟨y, mem.2 ⟨hy, fun same => ?_⟩, dest⟩, apart, next ▸ below,
      fun z hz isDest i before => ?_⟩
    · exact aside ⟨j, held, .inl (same.symm.trans source)⟩
    · exact aside ⟨j, held, .inr (same.symm.trans dest)⟩
    · rw [store]
      exact blank z (mem.1 hz).1 isDest i (next ▸ before)
  case counts =>
    intro x hx settled
    exact (exact.counts x (mem.1 hx).1 settled).of_cells (fun _ _ => by rw [store]) (by rw [copies])
  case doneNodup => exact doneNodup
  case doneKeys =>
    intro k listed
    obtain ⟨listed, other⟩ := done k listed
    obtain ⟨x, hx, rfl, standing⟩ := exact.doneKeys k listed
    exact ⟨x, mem.2 ⟨hx, other⟩, rfl, standing⟩

/-! ## Duplications -/

/-- R58: the source of a duplication. -/
def Entry.asSource (e : Entry) : Entry := { e with state := .copying, ret := some e.state }

/-- R58: the acceptance of TILE DUPLICATE. -/
theorem Books.Exact.duplicate {b c : Books} (exact : b.Exact) {e : Entry} {dst : TileKey} {slot : Nat} {pool : List Nat}
    (he : e ∈ b.dir) (ready : e.state = .live ∨ e.state = .done) (idle : b.job = none)
    (absent : ∀ x ∈ b.dir, x.key ≠ dst) (free : b.freeSlots = slot :: pool)
    (dir : c.dir = replaced b.dir e.asSource ++ [Entry.fresh dst slot .copying])
    (freeSlots : c.freeSlots = pool) (done : c.done = b.done) (store : c.store = b.store) (load : c.load = b.load)
    (job : c.job = some { source := e.key, dest := dst }) (next : c.next = 0) (copies : c.copies = b.copies) :
    c.Exact := by
  have calm : e.state ≠ .copying := by rcases ready with live | finished <;> simp [*]
  have away : e.state ≠ .filling := by rcases ready with live | finished <;> simp [*]
  have noRet := exact.ret_eq_none he calm
  have mem {x : Entry} : x ∈ c.dir ↔ (x = e.asSource ∨
      x ∈ b.dir ∧ x.key ≠ e.key) ∨ x = Entry.fresh dst slot .copying := by
    rw [dir, List.mem_append, List.mem_singleton, mem_replaced (new := e.asSource) he rfl]
  have apart : e.key ≠ dst := absent e he
  have jobIs {j : CopyJob} : c.job = some j ↔ j = { source := e.key, dest := dst } := by
    rw [job, Option.some.injEq, eq_comm]
  have present {k : TileKey} (there : ∃ x ∈ b.dir, x.key = k) : ∃ x ∈ c.dir, x.key = k := by
    obtain ⟨x, hx, rfl⟩ := there
    by_cases same : x.key = e.key
    · exact ⟨_, mem.2 (.inl (.inl rfl)), same.symm⟩
    · exact ⟨x, mem.2 (.inl (.inr ⟨hx, same⟩)), rfl⟩
  have notOpen {k : TileKey} (isOpen : c.load.openTile = some k) : k ≠ e.key ∧ k ≠ dst := by
    rw [load] at isOpen
    refine ⟨fun same => away ((exact.filling e he).2 (same ▸ isOpen)), fun same => ?_⟩
    obtain ⟨x, hx, key⟩ := exact.opened k isOpen
    exact absent x hx (key.trans same)
  constructor
  case keys =>
    rw [dir, List.map_append, replaced_keys, List.map_singleton]
    refine exact.keys.append (List.nodup_singleton _) fun j listed isKey => ?_
    obtain ⟨x, hx, rfl⟩ := List.mem_map.1 listed
    exact absent x hx (List.mem_singleton.1 isKey)
  case slots =>
    refine .trans ?_ exact.slots
    rw [dir, freeSlots, free, List.map_append, exact.replaced_slots (new := e.asSource) he rfl rfl, List.append_assoc]
    rfl
  case window => rw [load]; exact exact.window
  case filling =>
    intro x hx
    rcases mem.1 hx with (rfl | ⟨hx, -⟩) | rfl
    · exact ⟨nofun, fun isOpen => absurd rfl (notOpen isOpen).1⟩
    · rw [load]; exact exact.filling x hx
    · exact ⟨nofun, fun isOpen => absurd rfl (notOpen isOpen).2⟩
  case opened => intro k isOpen; rw [load] at isOpen; exact present (exact.opened k isOpen)
  case copying =>
    intro x hx
    rcases mem.1 hx with (rfl | ⟨hx, other⟩) | rfl
    · exact ⟨fun _ => ⟨_, jobIs.2 rfl, .inl rfl⟩, fun _ => rfl⟩
    · rw [exact.copying x hx, idle]
      refine ⟨nofun, fun ⟨j, held, which⟩ => ?_⟩
      obtain rfl := jobIs.1 held
      exact (which.elim other (absent x hx)).elim
    · exact ⟨fun _ => ⟨_, jobIs.2 rfl, .inr rfl⟩, fun _ => rfl⟩
  case source =>
    intro x hx
    rcases mem.1 hx with (rfl | ⟨hx, other⟩) | rfl
    · exact ⟨fun _ => ⟨_, jobIs.2 rfl, rfl⟩, fun _ => rfl⟩
    · rw [exact.source x hx, idle]
      refine ⟨nofun, fun ⟨j, held, source⟩ => ?_⟩
      obtain rfl := jobIs.1 held
      exact absurd source other
    · refine ⟨nofun, fun ⟨j, held, source⟩ => ?_⟩
      obtain rfl := jobIs.1 held
      exact absurd source.symm apart
  case job =>
    intro j held
    obtain rfl := jobIs.1 held
    refine ⟨⟨_, mem.2 (.inl (.inl rfl)), rfl⟩, ⟨_, mem.2 (.inr rfl), rfl⟩, apart, by rw [next]; decide, ?_⟩
    intro x _ _ i before
    rw [next] at before
    exact absurd before (Nat.not_lt_zero i)
  case counts =>
    intro x hx settled
    rcases mem.1 hx with (rfl | ⟨hx, -⟩) | rfl
    · have ripe : Entry.settled e = true := by rcases ready with live | finished <;> simp [Entry.settled, *]
      obtain ⟨remaining, overcut, standing, either⟩ := exact.counts e he ripe
      have same : Entry.standing e.asSource = Entry.standing e := by
        simp [Entry.standing, Entry.asSource, noRet]
      refine ⟨?_, ?_, same ▸ standing, same ▸ either⟩
      · rw [store, copies]; exact remaining
      · rw [store]; exact overcut
    · exact (exact.counts x hx settled).of_cells (fun _ _ => by rw [store]) (by rw [copies])
    · exact nomatch settled
  case doneNodup => rw [done]; exact exact.doneNodup
  case doneKeys =>
    intro k listed
    rw [done] at listed
    obtain ⟨x, hx, rfl, standing⟩ := exact.doneKeys k listed
    by_cases same : x.key = e.key
    · obtain rfl := exact.eq_of_key hx he same
      exact ⟨_, mem.2 (.inl (.inl rfl)), rfl, by simpa [Entry.standing, Entry.asSource, noRet] using standing⟩
    · exact ⟨x, mem.2 (.inl (.inr ⟨hx, same⟩)), rfl, standing⟩

section
variable {b : Books} (exact : b.Exact) {j : CopyJob} (held : b.job = some j) {d : Entry} (hd : d ∈ b.dir)
  (dest : d.key = j.dest)
include exact held hd dest

/-- R56: the destination of a duplication is not settled. -/
theorem Books.Exact.dest_unsettled : Entry.settled d = false ∧ d.state = .copying ∧ d.ret = none := by
  obtain ⟨-, -, apart, -, -⟩ := exact.job j held
  have copying : d.state = .copying := (exact.copying d hd).2 ⟨j, held, .inr dest⟩
  have noRet : d.ret = none := by
    rw [← Option.not_isSome_iff_eq_none]
    intro source
    obtain ⟨j', held', source⟩ := (exact.source d hd).1 source
    obtain rfl : j = j' := Option.some.inj (held.symm.trans held')
    exact apart (source.symm.trans dest)
  exact ⟨by simp [Entry.settled, copying, noRet], copying, noRet⟩

/-- R59: a write into the destination's slot, past the cells that are written. -/
theorem Books.Exact.writeDest {m : Memory}
    (outside : ∀ slot ≠ d.slot, ∀ i < 64, m.read (cellAddr slot i) = b.store.read (cellAddr slot i))
    (before : ∀ i < b.next, m.read (cellAddr d.slot i) = b.store.read (cellAddr d.slot i)) :
    Books.Exact { b with store := m } := by
  obtain ⟨unsettled, -, -⟩ := exact.dest_unsettled held hd dest
  have others := exact.cells_of_slot hd outside
  refine { exact with job := fun j' held' => ?_, counts := fun x hx settled => ?_ }
  · obtain ⟨source, there, apart, below, blank⟩ := exact.job j' held'
    refine ⟨source, there, apart, below, fun x hx isDest i early => ?_⟩
    obtain rfl : j = j' := Option.some.inj (held.symm.trans held')
    obtain rfl := exact.eq_of_key hx hd (isDest.trans dest.symm)
    rw [before i early]
    exact blank x hx isDest i early
  · refine (exact.counts x hx settled).of_cells (others x hx fun same => ?_) rfl
    obtain rfl := exact.eq_of_key hx hd same
    exact absurd settled (by simp [unsettled])

/-- R59: the engine goes on to the next cell. -/
theorem Books.Exact.advance (more : b.next + 1 < Config.cellsPerTile)
    (blank : (b.store.read (cellAddr d.slot b.next)).cut = 0 ∧ (b.store.read (cellAddr d.slot b.next)).overcut = false) :
    Books.Exact { b with next := b.next + 1 } := by
  refine { exact with job := fun j' held' => ?_, counts := fun x hx settled => ?_ }
  · obtain ⟨source, there, apart, -, written⟩ := exact.job j' held'
    refine ⟨source, there, apart, more, fun x hx isDest i early => ?_⟩
    obtain rfl : j = j' := Option.some.inj (held.symm.trans held')
    rcases Nat.lt_succ_iff_lt_or_eq.1 early with before | rfl
    · exact written x hx isDest i before
    · obtain rfl := exact.eq_of_key hx hd (isDest.trans dest.symm)
      exact blank
  · exact (exact.counts x hx settled).of_cells (fun _ _ => rfl) rfl

end

/-- R63, items 1 to 4: the source returns, the destination is counted and becomes LIVE or DONE, the engine is idle. -/
theorem Books.Exact.complete {b c : Books} (exact : b.Exact) {j : CopyJob} (held : b.job = some j) {e d new : Entry}
    (he : e ∈ b.dir) (source : e.key = j.source) (hd : d ∈ b.dir) (dest : d.key = j.dest) (key : new.key = d.key)
    (slot : new.slot = d.slot) (noRet : new.ret = none) (dir : c.dir = replaced (replaced b.dir e.returnFromCopy) new)
    (freeSlots : c.freeSlots = b.freeSlots) (store : c.store = b.store) (load : c.load = b.load) (job : c.job = none)
    (copies : c.copies = b.copies) (counted : c.Counted new)
    (done : c.done = if new.remaining = 0 then b.done ++ [d.key] else b.done) : c.Exact := by
  obtain ⟨-, -, apart, -, -⟩ := exact.job j held
  have differ : e.key ≠ d.key := by rwa [source, dest]
  obtain ⟨unsettled, copying, dRet⟩ := exact.dest_unsettled held hd dest
  have eCopying : e.state = .copying := (exact.copying e he).2 ⟨j, held, .inl source⟩
  obtain ⟨was, ret⟩ : ∃ was, e.ret = some was := Option.isSome_iff_exists.1 ((exact.source e he).2 ⟨j, held, source⟩)
  have eCounted := exact.counts e he (by simp [Entry.settled, eCopying, ret])
  have eStanding : Entry.standing e = was := by simp [Entry.standing, ret]
  have returned : e.returnFromCopy = { e with state := was, ret := none } := by simp [Entry.returnFromCopy, ret]
  have newState : Entry.standing new = new.state := by simp [Entry.standing, noRet]
  have calm : was = .done ∨ was = .live := eStanding ▸ eCounted.either
  have newCalm : new.state = .done ∨ new.state = .live := newState ▸ counted.either
  have hd' : d ∈ replaced b.dir e.returnFromCopy := (mem_replaced (new := e.returnFromCopy) he rfl).2 (.inr ⟨hd, differ.symm⟩)
  have mem {x : Entry} : x ∈ c.dir ↔
      x = new ∨ (x = e.returnFromCopy ∨ x ∈ b.dir ∧ x.key ≠ e.key) ∧ x.key ≠ d.key := by
    rw [dir, mem_replaced hd' key, mem_replaced (new := e.returnFromCopy) he rfl]
  have memSource : e.returnFromCopy ∈ c.dir := mem.2 (.inr ⟨.inl rfl, differ⟩)
  have other {x : Entry} (hx : x ∈ b.dir) (notSource : x.key ≠ e.key) (notDest : x.key ≠ d.key) :
      x ∈ c.dir := mem.2 (.inr ⟨.inr ⟨hx, notSource⟩, notDest⟩)
  have notListed : d.key ∉ b.done := fun listed => by
    have standing := exact.standing_of_done hd listed
    simp [Entry.standing, copying, dRet] at standing
  have present {k : TileKey} (there : ∃ x ∈ b.dir, x.key = k) : ∃ x ∈ c.dir, x.key = k := by
    obtain ⟨x, hx, rfl⟩ := there
    by_cases isDest : x.key = d.key
    · exact ⟨new, mem.2 (.inl rfl), key.trans isDest.symm⟩
    · by_cases isSource : x.key = e.key
      · exact ⟨_, memSource, isSource.symm⟩
      · exact ⟨x, other hx isSource isDest, rfl⟩
  have still {x : Entry} (hx : x ∈ b.dir) (notSource : x.key ≠ e.key) (notDest : x.key ≠ d.key) :
      x.state ≠ .copying ∧ x.ret = none := by
    have outside : x.state ≠ .copying := fun copies => by
      obtain ⟨j', held', which⟩ := (exact.copying x hx).1 copies
      obtain rfl : j = j' := Option.some.inj (held.symm.trans held')
      exact which.elim (fun isSource => notSource (isSource.trans source.symm))
        fun isDest => notDest (isDest.trans dest.symm)
    exact ⟨outside, exact.ret_eq_none hx outside⟩
  have settledDone (k : TileKey) (listed : k ∈ b.done) : ∃ x ∈ c.dir, x.key = k ∧ Entry.standing x = .done := by
    obtain ⟨x, hx, rfl, standing⟩ := exact.doneKeys k listed
    have notDest : x.key ≠ d.key := fun same => notListed (same ▸ listed)
    by_cases isSource : x.key = e.key
    · obtain rfl := exact.eq_of_key hx he isSource
      exact ⟨_, memSource, rfl, by rw [returned]; exact eStanding.symm.trans standing⟩
    · exact ⟨x, other hx isSource notDest, rfl, standing⟩
  constructor
  case keys => rw [dir, replaced_keys, replaced_keys]; exact exact.keys
  case slots =>
    have slots : (replaced (replaced b.dir e.returnFromCopy) new).map (fun x => x.slot) = b.dir.map (fun x => x.slot) := by
      rw [Machine.replaced_slots fun x hx own => ?_, exact.replaced_slots (new := e.returnFromCopy) he rfl rfl]
      rw [key] at own
      rcases (mem_replaced (new := e.returnFromCopy) he rfl).1 hx with rfl | ⟨hx, -⟩
      · exact absurd own differ
      · rw [exact.eq_of_key hx hd own, slot]
    rw [dir, freeSlots, slots]
    exact exact.slots
  case window => rw [load]; exact exact.window
  case filling =>
    intro x hx
    rw [load]
    rcases mem.1 hx with rfl | ⟨rfl | ⟨hx, -⟩, -⟩
    · rw [key, ← exact.filling d hd, copying]
      rcases newCalm with state | state <;> simp [state]
    · rw [show e.returnFromCopy.key = e.key from rfl, ← exact.filling e he, eCopying, returned]
      rcases calm with state | state <;> simp [state]
    · exact exact.filling x hx
  case opened => intro k isOpen; rw [load] at isOpen; exact present (exact.opened k isOpen)
  case copying =>
    intro x hx
    rw [job]
    refine ⟨fun copies => ?_, nofun⟩
    rcases mem.1 hx with rfl | ⟨rfl | ⟨hx, notSource⟩, notDest⟩
    · rcases newCalm with state | state <;> simp [state] at copies
    · rw [returned] at copies
      rcases calm with state | state <;> simp [state] at copies
    · exact absurd copies (still hx notSource notDest).1
  case source =>
    intro x hx
    rw [job]
    refine ⟨fun source => ?_, nofun⟩
    rcases mem.1 hx with rfl | ⟨rfl | ⟨hx, notSource⟩, notDest⟩
    · simp [noRet] at source
    · simp [returned] at source
    · simp [(still hx notSource notDest).2] at source
  case job => intro j' held'; rw [job] at held'; exact nomatch held'
  case counts =>
    intro x hx settled
    rcases mem.1 hx with rfl | ⟨rfl | ⟨hx, -⟩, -⟩
    · exact counted
    · obtain ⟨remaining, overcut, standing, either⟩ := eCounted
      rw [eStanding] at standing either
      rw [returned]
      refine ⟨?_, ?_, standing, either⟩
      · rw [store, copies]; exact remaining
      · rw [store]; exact overcut
    · exact (exact.counts x hx settled).of_cells (fun _ _ => by rw [store]) (by rw [copies])
  case doneNodup =>
    rw [done]
    split_ifs
    · refine exact.doneNodup.append (List.nodup_singleton _) fun k listed isKey => ?_
      exact notListed (List.mem_singleton.1 isKey ▸ listed)
    · exact exact.doneNodup
  case doneKeys =>
    intro k listed
    rw [done] at listed
    split_ifs at listed with none
    · rcases List.mem_append.1 listed with before | added
      · exact settledDone k before
      · exact ⟨new, mem.2 (.inl rfl), key.trans (List.mem_singleton.1 added).symm, counted.done.2 none⟩
    · exact settledDone k listed

end Sys2Proof.Machine
end

section
/-! PROOFS. R29, R53, R86, R89: how a written cell moves the counts, and the books under the operations of the state. -/

namespace Sys2Proof.Machine

open Sys2Proof.Safety

/-! ## Counts -/

/-- One element of a list more or less counts. -/
theorem length_filter_change {l : List Nat} {f g : Nat → Bool} {c : Nat} (distinct : l.Nodup) (listed : c ∈ l)
    (same : ∀ i ∈ l, i ≠ c → g i = f i) :
    (l.filter g).length + (f c).toNat = (l.filter f).length + (g c).toNat := by
  induction l with
  | nil => exact nomatch listed
  | cons i rest ih =>
    obtain ⟨fresh, distinct⟩ := List.nodup_cons.1 distinct
    rcases List.mem_cons.1 listed with rfl | later
    · have others : rest.filter g = rest.filter f :=
        List.filter_congr fun j hj => same j (List.mem_cons_of_mem _ hj) fun here => fresh (here ▸ hj)
      cases hf : f c <;> cases hg : g c <;> simp [hf, hg, others]
    · have rest := ih distinct later fun j hj => same j (List.mem_cons_of_mem _ hj)
      have own : g i = f i := same i (List.mem_cons_self ..) fun here => fresh (here ▸ later)
      cases hf : f i <;> simp [own, hf] <;> omega

/-- The count of a slot's cells moves by what the written cell counted and counts. -/
theorem Memory.countCells_write (m : Memory) (slot : Nat) {c : Nat} (inTile : c < 64) (new : Cell) (p : Cell → Bool) :
    (m.write (cellAddr slot c) new).countCells slot p + (p (m.read (cellAddr slot c))).toNat =
      m.countCells slot p + (p new).toNat := by
  have change := length_filter_change (l := cellIndices) (c := c)
    (f := fun i => p (m.read (cellAddr slot i))) (g := fun i => p ((m.write (cellAddr slot c) new).read (cellAddr slot i)))
    cellIndices_nodup (List.mem_range.2 inTile) fun i _ other => ?_
  · simpa [Memory.countCells] using change
  · rw [Memory.read_write_other]
    simp only [cellAddr]
    omega

theorem Memory.countCells_congr_test {m n : Memory} {slot : Nat} {p q : Cell → Bool}
    (same : ∀ i < 64, q (n.read (cellAddr slot i)) = p (m.read (cellAddr slot i))) :
    n.countCells slot q = m.countCells slot p := by
  unfold Memory.countCells
  refine congrArg List.length (List.filter_congr fun i inTile => ?_)
  rw [same i (List.mem_range.1 inTile)]

/-- R53: the counts of an edited entry are those of its cells. -/
theorem counts_edit {m : Memory} {e : Entry} {cell tol d : Nat} (inTile : cell < 64)
    (remaining : e.remaining = m.countCells e.slot (fun c => !c.finished tol))
    (overcut : e.overcut = m.countCells e.slot (fun c => c.overcut)) :
    let old := m.read (cellAddr e.slot cell)
    let new := { old with target := d, overcut := false }
    (e.countEdit old new tol).remaining = (m.write (cellAddr e.slot cell) new).countCells e.slot (fun c => !c.finished tol) ∧
      (e.countEdit old new tol).overcut = (m.write (cellAddr e.slot cell) new).countCells e.slot (fun c => c.overcut) := by
  intro old new
  have unfinished := m.countCells_write e.slot inTile new (fun c => !c.finished tol)
  have flags := m.countCells_write e.slot inTile new (fun c => c.overcut)
  simp only [Entry.countEdit]
  constructor
  · rw [← remaining] at unfinished
    cases was : old.finished tol <;> cases is : new.finished tol <;> simp [old, was, is] at unfinished ⊢ <;> omega
  · rw [← overcut] at flags
    cases was : old.overcut <;> simp [old, new, was] at flags ⊢ <;> omega

/-- R89, R90: the counts of an entry after a recorded report are those of its cells. -/
theorem counts_report {m : Memory} {e : Entry} {cell tol r overTol : Nat} (inTile : cell < 64)
    (deeper : (m.read (cellAddr e.slot cell)).cut < r)
    (remaining : e.remaining = m.countCells e.slot (fun c => !c.finished tol))
    (overcut : e.overcut = m.countCells e.slot (fun c => c.overcut)) :
    let old := m.read (cellAddr e.slot cell)
    let new := old.recorded r overTol
    (e.countReport old new tol).remaining =
        (m.write (cellAddr e.slot cell) new).countCells e.slot (fun c => !c.finished tol) ∧
      (e.countReport old new tol).overcut = (m.write (cellAddr e.slot cell) new).countCells e.slot (fun c => c.overcut) := by
  intro old new
  have unfinished := m.countCells_write e.slot inTile new (fun c => !c.finished tol)
  have flags := m.countCells_write e.slot inTile new (fun c => c.overcut)
  have stays : old.finished tol = true → new.finished tol = true := by
    simp only [old, new, Cell.finished, Cell.recorded, decide_eq_true_eq]
    omega
  have flagged : old.overcut = true → new.overcut = true := by
    intro flag
    simp [new, Cell.recorded, flag]
  simp only [Entry.countReport]
  constructor
  · rw [← remaining] at unfinished
    cases was : old.finished tol <;> cases is : new.finished tol <;>
      simp [old, was, is] at unfinished stays ⊢ <;> omega
  · rw [← overcut] at flags
    cases was : old.overcut <;> cases is : new.overcut <;> simp [old, was, is] at flags flagged ⊢ <;> omega

/-! ## The books of a state -/

theorem books_of_base {s t : State} (same : t.base = s.base) : t.books = s.books := by
  have dir : t.dir.map Entry.bare = s.dir.map Entry.bare := (congrArg State.dir same :)
  simp only [State.books, dir, freeSlots_of_base same, done_of_base same, store_of_base same, load_of_base same,
    job_of_base same, next_of_base same, copies_of_base same]

theorem mem_books {s : State} {x : Entry} : x ∈ s.books.dir ↔ ∃ e ∈ s.dir, e.bare = x := List.mem_map

theorem State.entry_books {s : State} {k : TileKey} {e : Entry} (resident : s.entry k = some e) :
    e.bare ∈ s.books.dir ∧ e.bare.key = k := by
  obtain ⟨listed, key⟩ := State.entry_eq_some resident
  exact ⟨mem_books.2 ⟨e, listed, rfl⟩, key⟩

theorem State.entry_none_books {s : State} {k : TileKey} (absent : s.entry k = none) : ∀ x ∈ s.books.dir, x.key ≠ k := by
  intro x hx
  obtain ⟨e, he, rfl⟩ := mem_books.1 hx
  exact State.entry_eq_none.1 absent e he

theorem State.entry_isSome_iff {s : State} {k : TileKey} : (s.entry k).isSome = true ↔ ∃ e ∈ s.dir, e.key = k := by
  simp [State.entry]

/-- What `DirectoryExact` says of the port: a unit that initialises a slot is the open tile's (R27), an edit names one of
the 64 cells (R52), and COPY SETUP takes values for a copy without tiles (R5). -/
structure UnitsAgree (s : State) : Prop where
  opened : ∀ k, s.port.unit = some (.tileOpen k) → s.load.openTile = some k
  cell : ∀ k c d, s.port.unit = some (.tileEdit k c d) → c < Config.cellsPerTile

/-- R5: while COPY SETUP takes values, its copy has no tile. -/
def SetupFree (s : State) : Prop :=
  ∀ y : CopyNo, s.port.current = .known .copySetup → s.port.phase = .receiving →
    s.port.values.head? = some y.val → s.hasTiles y = false

/-- `DirectoryExact` in three parts: the books, the port's unit, and COPY SETUP. -/
theorem directoryExact_iff {s : State} : DirectoryExact s ↔ s.books.Exact ∧ UnitsAgree s ∧ SetupFree s := by
  constructor
  · rintro ⟨keys, slots, window, ⟨filling, opened, copying, source, job, unitOpen, unitCell, setup⟩, counts, doneNodup, doneKeys⟩
    refine ⟨?_, ⟨unitOpen, unitCell⟩, setup⟩
    constructor
    case keys => simpa [State.books, List.map_map, Function.comp_def, Entry.bare, KeysDistinct] using keys
    case slots => simpa [State.books, SlotsAccounted, List.map_map, Function.comp_def, Entry.bare] using slots
    case window => exact window
    case filling => exact List.forall_mem_map.2 filling
    case opened =>
      intro k isOpen
      obtain ⟨e, he, key⟩ := State.entry_isSome_iff.1 (opened k isOpen)
      exact ⟨e.bare, mem_books.2 ⟨e, he, rfl⟩, key⟩
    case copying => exact List.forall_mem_map.2 copying
    case source => exact List.forall_mem_map.2 source
    case job =>
      intro j held
      obtain ⟨there, dest, apart, next, blank⟩ := job j held
      obtain ⟨e, he, key⟩ := State.entry_isSome_iff.1 there
      obtain ⟨d, hd, key'⟩ := State.entry_isSome_iff.1 dest
      exact ⟨⟨e.bare, mem_books.2 ⟨e, he, rfl⟩, key⟩, ⟨d.bare, mem_books.2 ⟨d, hd, rfl⟩, key'⟩, apart, next,
        List.forall_mem_map.2 blank⟩
    case counts =>
      refine List.forall_mem_map.2 fun e he settled => ?_
      obtain ⟨remaining, overcut, done, either⟩ := counts e he settled
      exact ⟨remaining, overcut, done, either⟩
    case doneNodup => exact doneNodup
    case doneKeys =>
      intro k listed
      obtain ⟨e, he, rest⟩ := doneKeys k listed
      exact ⟨e.bare, mem_books.2 ⟨e, he, rfl⟩, rest⟩
  · rintro ⟨exact, ⟨unitOpen, unitCell⟩, setup⟩
    have here {e : Entry} (he : e ∈ s.dir) : e.bare ∈ s.books.dir := mem_books.2 ⟨e, he, rfl⟩
    have there {k : TileKey} (listed : ∃ x ∈ s.books.dir, x.key = k) : (s.entry k).isSome = true := by
      obtain ⟨x, hx, key⟩ := listed
      obtain ⟨e, he, rfl⟩ := mem_books.1 hx
      exact State.entry_isSome_iff.2 ⟨e, he, key⟩
    refine ⟨?_, ?_, exact.window, ⟨fun e he => exact.filling e.bare (here he), fun k isOpen => there (exact.opened k isOpen),
      fun e he => exact.copying e.bare (here he), fun e he => exact.source e.bare (here he), fun j held => ?_, unitOpen, unitCell,
      setup⟩, fun e he settled => ?_, exact.doneNodup, fun k listed => ?_⟩
    · simpa [State.books, List.map_map, Function.comp_def, Entry.bare, KeysDistinct] using exact.keys
    · simpa [State.books, SlotsAccounted, List.map_map, Function.comp_def, Entry.bare] using exact.slots
    · obtain ⟨source, dest, apart, next, blank⟩ := exact.job j held
      exact ⟨there source, there dest, apart, next, fun e he key => blank e.bare (here he) key⟩
    · obtain ⟨remaining, overcut, done, either⟩ := exact.counts e.bare (here he) settled
      exact ⟨remaining, overcut, done, either⟩
    · obtain ⟨x, hx, rest⟩ := exact.doneKeys k listed
      obtain ⟨e, he, rfl⟩ := mem_books.1 hx
      exact ⟨e, he, rest⟩

/-! ## The books under the operations of the state -/

theorem State.keysDistinct_of_books {s : State} (exact : s.books.Exact) : KeysDistinct s := by
  simpa [State.books, List.map_map, Function.comp_def, Entry.bare, KeysDistinct] using exact.keys

/-- A change of the entry of a key. -/
theorem State.onEntry_books {s : State} {k : TileKey} {e : Entry} {f : Entry → Entry} (distinct : KeysDistinct s)
    (resident : s.entry k = some e) (key : (f e).key = e.key) :
    (s.onEntry k f).books = { s.books with dir := replaced s.books.dir (f e).bare } := by
  obtain ⟨listed, own⟩ := State.entry_eq_some resident
  have dir : (s.onEntry k f).dir.map Entry.bare = replaced (s.dir.map Entry.bare) (f e).bare := by
    rw [State.onEntry_dir, replaced, List.map_map, List.map_map]
    refine List.map_congr_left fun x hx => ?_
    have target : (f e).bare.key = k := key.trans own
    by_cases here : x.key = k
    · obtain rfl : x = e := List.inj_on_of_nodup_map distinct hx listed (here.trans own.symm)
      simp [Entry.bare, here, show (f x).key = k from key.trans here]
    · simp [Function.comp_apply, here, target, show x.bare.key = x.key from rfl]
  simp only [State.books, dir]
  rfl

theorem State.onEntry_entry {s : State} {k : TileKey} {e : Entry} {f : Entry → Entry} (resident : s.entry k = some e)
    (key : ∀ x, (f x).key = x.key) : (s.onEntry k f).entry k = some (f e) := by
  have keep : (fun x : Entry => decide ((if x.key = k then f x else x).key = k)) = fun x => decide (x.key = k) := by
    funext x
    by_cases own : x.key = k <;> simp [own, key]
  have own := (State.entry_eq_some resident).2
  rw [State.entry] at resident
  rw [State.entry, State.onEntry_dir, List.find?_map, Function.comp_def, keep, resident, Option.map_some, if_pos own]

theorem State.onEntry_entry_other {s : State} {k j : TileKey} {e : Entry} {f : Entry → Entry}
    (resident : s.entry j = some e) (other : j ≠ k) (key : ∀ x, (f x).key = x.key) : (s.onEntry k f).entry j = some e := by
  have keep : (fun x : Entry => decide ((if x.key = k then f x else x).key = j)) = fun x => decide (x.key = j) := by
    funext x
    by_cases own : x.key = k <;> simp [own, key]
  have own := (State.entry_eq_some resident).2
  rw [State.entry] at resident
  rw [State.entry, State.onEntry_dir, List.find?_map, Function.comp_def, keep, resident, Option.map_some,
    if_neg (own ▸ other)]

theorem State.keysDistinct_onEntry {s : State} (distinct : KeysDistinct s) (k : TileKey) {f : Entry → Entry}
    (key : ∀ x, (f x).key = x.key) : KeysDistinct (s.onEntry k f) := by
  have keys : (s.onEntry k f).dir.map (fun x => x.key) = s.dir.map (fun x => x.key) := by
    rw [State.onEntry_dir, List.map_map]
    refine List.map_congr_left fun x _ => ?_
    by_cases own : x.key = k <;> simp [own, key]
  rw [KeysDistinct, keys]
  exact distinct

theorem State.enterDone_books (s : State) (k : TileKey) :
    (s.enterDone k).books = { s.books with done := s.done ++ [k] } := by
  have base := s.enterDone_base k
  have dir : (s.enterDone k).dir.map Entry.bare = s.dir.map Entry.bare := (congrArg State.dir base :)
  have done : (s.enterDone k).done = s.done ++ [k] := (congrArg State.done base :)
  simp only [State.books, dir, done]
  simp

theorem State.createEntry_books {s : State} {slot : Nat} {pool : List Nat} (free : s.freeSlots = slot :: pool)
    (k : TileKey) (state : TileState) : (s.createEntry k state).books =
      { s.books with dir := s.books.dir ++ [Entry.fresh k slot state], freeSlots := pool } := by
  simp [State.createEntry, free, State.books, Entry.bare, Entry.fresh]

theorem State.removeEntry_books {s : State} {k : TileKey} {e : Entry} (resident : s.entry k = some e) :
    (s.removeEntry k).books = { s.books with
      dir := s.books.dir.eraseP (fun x => decide (x.key = k)), freeSlots := e.slot :: s.freeSlots } := by
  have dir (l : List Entry) : (l.eraseP (fun x => decide (x.key = k))).map Entry.bare =
      (l.map Entry.bare).eraseP (fun x => decide (x.key = k)) := by
    rw [List.eraseP_map]
    rfl
  simp only [State.removeEntry, resident, State.books, dir]

end Sys2Proof.Machine
end

section
/-! PROOFS. R27 to R32, R46 to R63, R86 to R90: the store units keep the directory's books exact. -/

namespace Sys2Proof.Machine

open Sys2Proof.Safety

/-! ## What follows the counts (R30 to R32) -/

/-- R30 to R32: the entry `x` takes its state by its remaining count, and its key joins or leaves the Done Queue. -/
def Books.follow (b : Books) (x : Entry) : Books :=
  if x.state = .live ∧ x.remaining = 0 then
    { b with dir := replaced b.dir { x with state := .done }, done := b.done ++ [x.key] }
  else if x.state = .done ∧ 0 < x.remaining then
    { b with dir := replaced b.dir { x with state := .live }, done := b.done.filter (fun k => decide (k ≠ x.key)) }
  else b

theorem replaced_replaced (dir : List Entry) {x y : Entry} (key : y.key = x.key) :
    replaced (replaced dir x) y = replaced dir y := by
  rw [replaced, replaced, replaced, List.map_map]
  refine List.map_congr_left fun z _ => ?_
  by_cases own : z.key = x.key
  · simp [own, key]
  · simp [own, key]

theorem replaced_self {dir : List Entry} {e : Entry} (only : ∀ x ∈ dir, x.key = e.key → x = e) : replaced dir e = dir := by
  rw [replaced]
  conv_rhs => rw [← List.map_id dir]
  refine List.map_congr_left fun x hx => ?_
  split_ifs with own
  · exact (only x hx own).symm
  · rfl

/-- R29 to R32: an entry in LIVE or DONE whose counts have been made those of its cells. -/
theorem Books.Exact.recount {b : Books} (exact : b.Exact) {e x : Entry} {m : Memory} (he : e ∈ b.dir)
    (ready : e.state = .live ∨ e.state = .done) (key : x.key = e.key) (slot : x.slot = e.slot)
    (state : x.state = e.state) (ret : x.ret = e.ret)
    (outside : ∀ slot ≠ e.slot, ∀ i < 64, m.read (cellAddr slot i) = b.store.read (cellAddr slot i))
    (remaining : x.remaining = m.countCells e.slot (fun c => !c.finished (Bank.at b.copies e.key.copy).finishTol))
    (overcut : x.overcut = m.countCells e.slot (fun c => c.overcut)) :
    (Books.follow { b with dir := replaced b.dir x, store := m } x).Exact := by
  have calm : e.state ≠ .copying := by rcases ready with h | h <;> simp [h]
  have notOpen : ¬b.load.openTile = some e.key := fun isOpen => by
    have filling := (exact.filling e he).2 isOpen
    rcases ready with h | h <;> simp [h] at filling
  have noRet : x.ret = none := ret.trans (exact.ret_eq_none he calm)
  have standing : e.key ∈ b.done → e.state = .done := fun listed => by
    simpa [Entry.standing, exact.ret_eq_none he calm] using exact.standing_of_done he listed
  have finish {c : Books} (st : TileState) (right : st = if x.remaining = 0 then .done else .live)
      (dir : c.dir = replaced b.dir { x with state := st }) (store : c.store = m) (load : c.load = b.load)
      (freeSlots : c.freeSlots = b.freeSlots) (copies : c.copies = b.copies) (job : c.job = b.job) (next : c.next = b.next)
      (nodup : c.done.Nodup) (done : ∀ k ∈ c.done, k ≠ e.key → k ∈ b.done) (own : e.key ∈ c.done → x.remaining = 0) :
      c.Exact := by
    have kind : st = .done ∨ st = .live := by rw [right]; split <;> simp
    refine exact.update he calm ⟨dir, key, slot, freeSlots, copies, job, next, store ▸ outside⟩ ?_ noRet
      (load ▸ exact.window) (fun k _ => by rw [load]) ?_ (fun _ => ⟨?_, ?_, ?_, ?_⟩) nodup done fun listed => ?_
    · rcases kind with h | h <;> simp [h]
    · rw [load]
      rcases kind with h | h <;> simp [h, notOpen]
    · simpa [store, copies, slot, key] using remaining
    · simpa [store, slot] using overcut
    · by_cases none : x.remaining = 0 <;> simp [Entry.standing, noRet, right, none]
    · simpa [Entry.standing, noRet] using kind
    · simp [right, own listed]
  simp only [Books.follow]
  split_ifs with enters leaves
  · obtain ⟨live, none⟩ := enters
    refine finish .done (by simp [none]) (replaced_replaced _ rfl) rfl rfl rfl rfl rfl rfl ?_ (fun k listed other => ?_)
      fun _ => none
    · refine exact.doneNodup.append (List.nodup_singleton _) fun k listed isKey => ?_
      rw [List.mem_singleton.1 isKey, key] at listed
      exact nomatch (state.symm.trans live).symm.trans (standing listed)
    · rcases List.mem_append.1 listed with before | added
      · exact before
      · exact absurd ((List.mem_singleton.1 added).trans key) other
  · obtain ⟨-, some⟩ := leaves
    refine finish .live (by simp [Nat.ne_of_gt some]) (replaced_replaced _ rfl) rfl rfl rfl rfl rfl rfl
      (exact.doneNodup.filter _) (fun k listed _ => (List.mem_filter.1 listed).1) fun listed => ?_
    simpa [key] using (List.mem_filter.1 listed).2
  · have right : x.state = if x.remaining = 0 then .done else .live := by
      rw [state] at enters leaves ⊢
      rcases ready with h | h
      · rw [if_neg fun none => enters ⟨h, none⟩, h]
      · rw [if_pos (by_contra fun some => leaves ⟨h, Nat.pos_of_ne_zero some⟩), h]
    refine finish x.state right rfl rfl rfl rfl rfl rfl rfl exact.doneNodup (fun _ listed _ => listed) fun listed => ?_
    by_contra some
    rw [state, standing listed, if_neg some] at right
    exact nomatch right

theorem State.leaveDoneQueue_books (s : State) (k : TileKey) :
    (s.leaveDoneQueue k).books = { s.books with done := s.done.filter (fun x => decide (x ≠ k)) } := rfl

/-- R30 to R32: what follows a count, on the books. -/
theorem State.followCount_books {s : State} {k : TileKey} {x : Entry} (distinct : KeysDistinct s)
    (resident : s.entry k = some x) : (s.followCount k).books = s.books.follow x.bare := by
  have key := (State.entry_eq_some resident).2
  have moved (st : TileState) := State.onEntry_books (f := fun x => { x with state := st }) distinct resident rfl
  simp only [State.followCount, resident, Books.follow, show x.bare.state = x.state from rfl,
    show x.bare.remaining = x.remaining from rfl]
  split_ifs
  · rw [State.enterDone_books, moved]
    simp [State.onEntry_done, Entry.bare, key, State.books]
  · rw [State.leaveDoneQueue_books, moved]
    simp [State.onEntry_done, Entry.bare, key, State.books]
  · rfl

/-- R28, R63: the entry with its counts, in the state that they give. -/
def Entry.counted (e : Entry) (remaining overcut : Nat) : Entry :=
  { e with state := if remaining = 0 then .done else .live, remaining := remaining, overcut := overcut }

/-- R31: entering DONE where nothing remains, on the books. -/
theorem State.enterIfNone_books (s : State) (k : TileKey) (n : Nat) :
    (if n = 0 then s.enterDone k else s).books =
      { s.books with done := if n = 0 then s.done ++ [k] else s.done } := by
  split_ifs
  · exact s.enterDone_books k
  · rfl

theorem Entry.counted_standing {e : Entry} {n o : Nat} (noRet : e.ret = none) :
    (Entry.standing (e.counted n o) = .done ↔ n = 0) ∧
      (Entry.standing (e.counted n o) = .done ∨ Entry.standing (e.counted n o) = .live) := by
  by_cases none : n = 0 <;> simp [Entry.standing, Entry.counted, noRet, none]

/-- A unit that writes cells of one entry and leaves its counts right. -/
theorem Books.Exact.writeCells {b : Books} (exact : b.Exact) {e : Entry} {m : Memory} {l : LoadUnit} (he : e ∈ b.dir)
    (calm : e.state ≠ .copying)
    (outside : ∀ slot ≠ e.slot, ∀ i < 64, m.read (cellAddr slot i) = b.store.read (cellAddr slot i))
    (window : l.InOrder) (openTile : l.openTile = b.load.openTile)
    (counted : Entry.settled e = true → Books.Counted { b with store := m, load := l } e) :
    Books.Exact { b with store := m, load := l } := by
  have only := fun x hx => exact.eq_of_key (e := x) (d := e) hx he
  refine exact.update he calm ⟨(replaced_self only).symm, rfl, rfl, rfl, rfl, rfl, rfl, outside⟩ calm
    (exact.ret_eq_none he calm) window (fun k _ => by rw [openTile]) ?_ counted exact.doneNodup (fun _ listed _ => listed)
    fun listed => ?_
  · rw [openTile]
    exact exact.filling e he
  · simpa [Entry.standing, exact.ret_eq_none he calm] using exact.standing_of_done he listed

/-! ## The unit of a report -/

theorem State.growWear_books (s : State) (h : HeadNo) (removed rate : Nat) :
    (s.growWear h removed rate).books = s.books ∧ (s.growWear h removed rate).dir = s.dir := by
  simp only [State.growWear]
  split <;> exact ⟨rfl, rfl⟩

theorem State.noteViolation_books (s : State) (v : Violation) : (s.noteViolation v).books = s.books := by
  simp only [State.noteViolation]
  split <;> rfl

/-- R30: where the count has not risen from 0, only the entry into DONE follows. -/
theorem State.finishIfNone_eq {s : State} {k : TileKey} {e : Entry} (resident : s.entry k = some e)
    (finished : e.state = .done → e.remaining = 0) : s.finishIfNone k = s.followCount k := by
  simp only [State.finishIfNone, State.followCount, resident]
  split_ifs with enters leaves
  · rfl
  · exact absurd (finished leaves.1) (Nat.ne_of_gt leaves.2)
  · rfl

theorem cellIndex_lt (row col : Nat) : cellIndex row col < 64 := by
  simp only [cellIndex]
  omega

/-! ## The units of the port -/

theorem Memory.updateCells_outside (m : Memory) {slot other : Nat} (listed : List Nat) (inTile : ∀ i ∈ listed, i < 64)
    (distinct : listed.Nodup) (f : Nat → Cell → Cell) (differ : other ≠ slot) {i : Nat} (small : i < 64) :
    (m.updateCells slot listed f).read (cellAddr other i) = m.read (cellAddr other i) := by
  have absent : listed.find? (fun j => decide (cellAddr slot j = cellAddr other i)) = none := by
    refine List.find?_eq_none.2 fun j hj => ?_
    simpa using (cellAddr_ne differ small (inTile j hj)).symm
  rw [Memory.read_updateCells _ _ _ _ distinct, absent]

/-- A change of all 64 cells that a test does not see. -/
theorem Memory.countCells_updateCells (m : Memory) (slot : Nat) {f : Nat → Cell → Cell} {p : Cell → Bool}
    (same : ∀ i c, p (f i c) = p c) : (m.updateCells slot cellIndices f).countCells slot p = m.countCells slot p := by
  refine Memory.countCells_congr_test fun i small => ?_
  have read : (m.updateCells slot cellIndices f).read (cellAddr slot i) = f i (m.read (cellAddr slot i)) :=
    Memory.read_updateCells_inside m slot f small
  rw [read, same]

theorem mem_cellIndices {i : Nat} : i ∈ cellIndices ↔ i < 64 := List.mem_range

theorem LoadUnit.inOrder_advance {l : LoadUnit} (order : l.InOrder) : l.advance.InOrder := by
  simp only [LoadUnit.InOrder] at order
  simp only [LoadUnit.advance]
  split_ifs <;> simp only [LoadUnit.InOrder, LoadUnit.homePointer] <;> omega

theorem LoadUnit.inOrder_homePointer {l : LoadUnit} (order : l.InOrder) : l.homePointer.InOrder := by
  simp only [LoadUnit.InOrder, LoadUnit.homePointer] at order ⊢
  omega

theorem LoadUnit.pointer_lt {l : LoadUnit} (order : l.InOrder) : l.pointer < 64 := by
  simp only [LoadUnit.InOrder, LoadUnit.pointer] at order ⊢
  omega

theorem State.accept_books (s : State) : s.accept.books = s.books := rfl

theorem State.refuse_books (s : State) (r : ResultCode) : (s.refuse r).books = s.books := rfl

theorem State.closeTile_books (s : State) :
    s.closeTile.books = { s.books with load := { s.load with openTile := none } } := rfl

theorem State.onLoad_books (s : State) (f : LoadUnit → LoadUnit) : (s.onLoad f).books = { s.books with load := f s.load } := rfl

theorem State.onCell_books (s : State) (e : Entry) (c : Nat) (f : Cell → Cell) :
    (s.onCell e c f).books = { s.books with store := s.store.write (cellAddr e.slot c) (f (s.cell e c)) } := rfl

theorem State.onCells_books (s : State) (e : Entry) (listed : List Nat) (f : Nat → Cell → Cell) :
    (s.onCells e listed f).books = { s.books with store := s.store.updateCells e.slot listed f } := rfl

section
variable {s : State} (exact : s.books.Exact)
include exact

/-- A unit that writes cells of the slot of the open tile, which is not settled. -/
theorem Books.Exact.writeOpen {e : Entry} {m : Memory} {l : LoadUnit} (he : e.bare ∈ s.books.dir)
    (filling : e.state = .filling)
    (outside : ∀ slot ≠ e.slot, ∀ i < 64, m.read (cellAddr slot i) = s.store.read (cellAddr slot i))
    (window : l.InOrder) (openTile : l.openTile = s.load.openTile) :
    Books.Exact { s.books with store := m, load := l } := by
  have calm : e.bare.state ≠ .copying := by simp [Entry.bare, filling]
  refine exact.writeCells he calm outside window openTile fun settled => ?_
  simp [Entry.settled, Entry.bare, filling] at settled

/-- R41: the open tile's entry. -/
theorem Books.Exact.openEntry {k : TileKey} {e : Entry} (isOpen : s.load.openTile = some k)
    (resident : s.entry k = some e) : e.bare ∈ s.books.dir ∧ e.state = .filling := by
  obtain ⟨listed, key⟩ := State.entry_books resident
  exact ⟨listed, (exact.filling _ listed).2 (by rw [key]; exact isOpen)⟩

theorem State.tileOpenUnit_exact {k : TileKey} (isOpen : s.load.openTile = some k) : (s.tileOpenUnit k).books.Exact := by
  simp only [State.tileOpenUnit]
  split
  case h_1 => exact exact
  case h_2 e resident =>
    obtain ⟨listed, filling⟩ := exact.openEntry isOpen resident
    rw [State.accept_books, State.onCells_books]
    refine exact.writeOpen (l := s.load) listed filling (fun slot differ i small => ?_) exact.window rfl
    exact Memory.updateCells_outside _ _ (fun _ => mem_cellIndices.1) cellIndices_nodup _ differ small

theorem State.streamUnit_exact (f : Cell → Cell) : (s.streamUnit f).books.Exact := by
  simp only [State.streamUnit, State.openEntry]
  split
  case h_1 => exact exact
  case h_2 e found =>
    obtain ⟨k, isOpen, resident⟩ := Option.bind_eq_some_iff.1 found
    obtain ⟨listed, filling⟩ := exact.openEntry isOpen resident
    have order : s.load.InOrder := exact.window
    have openTile : s.load.advance.openTile = s.load.openTile := by
      simp only [LoadUnit.advance]
      repeat' split
      all_goals rfl
    rw [State.onLoad_books, State.onCell_books]
    refine exact.writeOpen listed filling (fun slot differ i small => ?_) (LoadUnit.inOrder_advance order) openTile
    exact Memory.read_write_other _ _ _ _ (cellAddr_ne differ small (LoadUnit.pointer_lt order))

theorem State.fillUnit_exact (d : Nat) : (s.fillUnit d).books.Exact := by
  simp only [State.fillUnit, State.openEntry]
  split
  case h_1 => exact exact
  case h_2 e found =>
    obtain ⟨k, isOpen, resident⟩ := Option.bind_eq_some_iff.1 found
    obtain ⟨listed, filling⟩ := exact.openEntry isOpen resident
    have order : s.load.InOrder := exact.window
    rw [State.accept_books, State.onLoad_books, State.onCells_books]
    dsimp only
    refine exact.writeOpen listed filling (fun slot differ i small => ?_) (LoadUnit.inOrder_homePointer order) rfl
    exact Memory.updateCells_outside s.store _ (fun i hi => mem_cellIndices.1 (List.mem_filter.1 hi).1)
      (cellIndices_nodup.filter _) _ differ small

/-- R28: the seal counts the cells as it leaves them. -/
theorem State.tileSealUnit_exact : s.tileSealUnit.books.Exact := by
  simp only [State.tileSealUnit]
  split
  case h_1 => exact exact
  case h_2 k isOpen =>
    split
    case h_1 => exact exact
    case h_2 e resident =>
      obtain ⟨listed, filling⟩ := exact.openEntry isOpen resident
      have key := (State.entry_eq_some resident).2
      have noRet : e.ret = none := exact.ret_eq_none (e := e.bare) listed (by simp [Entry.bare, filling])
      have notListed : k ∉ s.done := fun there => by
        have standing := exact.standing_of_done listed (by rw [show e.bare.key = k from key]; exact there)
        simp [Entry.standing, Entry.bare, filling, noRet] at standing
      rw [State.accept_books]
      generalize sealed : s.onCells e cellIndices (fun _ c => c.sealed (s.copy k.copy).overTol) = u
      have books : u.books = { s.books with store := u.store } := by
        rw [← sealed, State.onCells_books, State.onCells_store]
      have resident' : u.entry k = some e := by
        rw [← sealed, State.entry, State.onCells_dir]
        exact resident
      have distinct : KeysDistinct u := by
        rw [KeysDistinct, ← sealed, State.onCells_dir]
        exact State.keysDistinct_of_books exact
      have outside (slot : Nat) (differ : slot ≠ e.slot) (i : Nat) (small : i < 64) :
          u.store.read (cellAddr slot i) = s.store.read (cellAddr slot i) := by
        rw [← sealed, State.onCells_store]
        exact Memory.updateCells_outside _ _ (fun _ => mem_cellIndices.1) cellIndices_nodup _ differ small
      generalize counted : u.store.countCells e.slot (fun c => !c.finished (s.copy k.copy).finishTol) = n
      generalize flagged : u.store.countCells e.slot (fun c => c.overcut) = o
      have moved := State.onEntry_books (f := fun x => x.counted n o) distinct resident' rfl
      obtain ⟨standing, either⟩ := Entry.counted_standing (e := e) (n := n) (o := o) noRet
      have kind : (e.counted n o).state = .done ∨ (e.counted n o).state = .live := by
        simpa [Entry.standing, Entry.counted, noRet] using either
      change Books.Exact (State.books (if n = 0 then ((u.onEntry k (fun x => x.counted n o)).closeTile).enterDone k
        else (u.onEntry k (fun x => x.counted n o)).closeTile))
      have done : (u.onEntry k (fun x => x.counted n o)).closeTile.done = s.done := by
        rw [State.closeTile_done, State.onEntry_done, ← sealed, State.onCells_done]
      have load : (u.onEntry k (fun x => x.counted n o)).load = s.load := by
        rw [State.onEntry_load, ← sealed, State.onCells_load]
      rw [State.enterIfNone_books, State.closeTile_books, moved, books, done, load]
      have notDone : e.key ∉ s.done := by rwa [key]
      refine exact.update (new := (e.counted n o).bare) listed (by simp [Entry.bare, filling])
        ⟨rfl, rfl, rfl, rfl, rfl, rfl, rfl, outside⟩ ?_ noRet exact.window ?_ ?_ (fun _ => ⟨?_, flagged.symm, standing, either⟩)
        ?_ ?_ ?_
      · rcases kind with h | h <;> simp [Entry.bare, h]
      · intro j other
        have differ : j ≠ k := fun same => other (same.trans key.symm)
        simp only [reduceCtorEq, false_iff]
        intro isOpen'
        exact differ (Option.some.inj (isOpen'.symm.trans isOpen))
      · rcases kind with h | h <;> simp [Entry.bare, h]
      · rw [← counted, ← key]
        rfl
      · dsimp only
        split_ifs
        · refine exact.doneNodup.append (List.nodup_singleton _) fun j there isKey => ?_
          exact notListed (List.mem_singleton.1 isKey ▸ there)
        · exact exact.doneNodup
      · intro j there other
        dsimp only at there
        split_ifs at there
        · rcases List.mem_append.1 there with before | added
          · exact before
          · exact absurd ((List.mem_singleton.1 added).trans key.symm) other
        · exact there
      · intro there
        dsimp only at there
        split_ifs at there with none
        · simp [Entry.bare, Entry.counted, none]
        · exact absurd there notDone

/-- R50, R51: fences do not count. -/
theorem State.fenceWriteUnit_exact (k : TileKey) (rows : List Nat) : (s.fenceWriteUnit k rows).books.Exact := by
  simp only [State.fenceWriteUnit]
  split
  case h_1 => exact exact
  case h_2 e resident =>
    split_ifs with copying
    · exact exact
    · obtain ⟨listed, key⟩ := State.entry_books resident
      rw [State.accept_books, State.onCells_books]
      generalize written : s.store.updateCells e.slot cellIndices (fun i c => { c with fence := fenceBit rows i }) = m
      have counts {p : Cell → Bool} (blind : ∀ i c, p { c with fence := fenceBit rows i } = p c) :
          m.countCells e.slot p = s.store.countCells e.slot p := by
        rw [← written]
        exact Memory.countCells_updateCells _ _ blind
      refine exact.writeCells (m := m) (l := s.load) listed copying (fun slot differ i small => ?_) exact.window rfl
        fun settled => ?_
      · rw [← written]
        exact Memory.updateCells_outside _ _ (fun _ => mem_cellIndices.1) cellIndices_nodup _ differ small
      · obtain ⟨remaining, overcut, done, either⟩ := exact.counts _ listed settled
        exact ⟨remaining.trans (counts fun _ _ => rfl).symm, overcut.trans (counts fun _ _ => rfl).symm, done, either⟩

/-- R53, R89: an entry in LIVE or DONE, one cell of which has been written, is counted anew and follows its count. -/
theorem State.recount_exact {u : State} {k : TileKey} {e : Entry} {f : Entry → Entry} {m : Memory}
    (resident : s.entry k = some e) (ready : e.state = .live ∨ e.state = .done)
    (books : u.books = { s.books with store := m }) (dir : u.dir = s.dir)
    (same : ∀ x, (f x).key = x.key ∧ (f x).slot = x.slot ∧ (f x).state = x.state ∧ (f x).ret = x.ret)
    (outside : ∀ slot ≠ e.slot, ∀ i < 64, m.read (cellAddr slot i) = s.store.read (cellAddr slot i))
    (remaining : (f e).remaining = m.countCells e.slot (fun c => !c.finished (s.copy k.copy).finishTol))
    (overcut : (f e).overcut = m.countCells e.slot (fun c => c.overcut)) :
    ((u.onEntry k f).followCount k).books.Exact := by
  obtain ⟨listed, key⟩ := State.entry_books resident
  obtain ⟨sameKey, sameSlot, sameState, sameRet⟩ := same e
  have distinct : KeysDistinct u := by
    rw [KeysDistinct, dir]
    exact State.keysDistinct_of_books exact
  have present : u.entry k = some e := by rwa [State.entry, dir]
  have distinct' : KeysDistinct (u.onEntry k f) := State.keysDistinct_onEntry distinct k fun x => (same x).1
  rw [State.followCount_books distinct' (State.onEntry_entry present fun x => (same x).1),
    State.onEntry_books distinct present sameKey, books]
  refine exact.recount (x := (f e).bare) listed ready sameKey sameSlot sameState sameRet outside ?_ overcut
  rw [key]
  exact remaining

/-- R52, R53. -/
theorem State.tileEditUnit_exact (k : TileKey) {cell : Nat} (d : Nat) (inTile : cell < Config.cellsPerTile) :
    (s.tileEditUnit k cell d).books.Exact := by
  simp only [State.tileEditUnit]
  split
  case h_1 => exact exact
  case h_2 e resident =>
    split_ifs with unsettled below
    · exact exact
    · exact exact
    · obtain ⟨listed, key⟩ := State.entry_books resident
      have ready : e.state = .live ∨ e.state = .done := by
        revert unsettled
        cases e.state <;> simp
      have settled : Entry.settled e = true := by rcases ready with h | h <;> simp [Entry.settled, h]
      obtain ⟨remaining, overcut, -, -⟩ := exact.counts _ listed settled
      rw [key] at remaining
      obtain ⟨remaining, overcut⟩ := counts_edit (e := e) (d := d) inTile remaining overcut
      rw [State.accept_books]
      refine State.recount_exact exact resident ready (State.onCell_books _ _ _ _) rfl
        (fun x => ⟨rfl, rfl, rfl, rfl⟩) (fun slot differ i small => ?_) remaining overcut
      exact Memory.read_write_other _ _ _ _ (cellAddr_ne differ small inTile)

/-- R46 to R54: the units of the port. -/
theorem State.runUnit_exact {u : PortUnit} (agree : UnitsAgree s) (unit : s.port.unit = some u) :
    (s.runUnit u).books.Exact := by
  cases u
  case tileOpen k => exact State.tileOpenUnit_exact exact (agree.opened k unit)
  case targetValue => exact State.streamUnit_exact exact _
  case cutValue => exact State.streamUnit_exact exact _
  case fill d => exact State.fillUnit_exact exact d
  case tileSeal => exact State.tileSealUnit_exact exact
  case fenceWrite k rows => exact State.fenceWriteUnit_exact exact k rows
  case tileEdit k c d => exact State.tileEditUnit_exact exact k d (agree.cell k c d unit)
  case tileRead k field =>
    simp only [State.runUnit, State.tileReadUnit]
    repeat' split
    all_goals exact exact

/-- R86 to R90: a recorded report. -/
theorem State.record_exact {k : TileKey} {e : Entry} (resident : s.entry k = some e)
    (ready : e.state = .live ∨ e.state = .done) (h : HeadNo) {o : Outstanding}
    (deeper : (s.cell e (cellIndex o.req.row o.req.col)).cut < o.req.depth) : (s.record h o e).books.Exact := by
  obtain ⟨listed, key⟩ := State.entry_books resident
  have own : e.key = k := key
  have settled : Entry.settled e = true := by rcases ready with h | h <;> simp [Entry.settled, h]
  obtain ⟨remaining, overcut, standing, -⟩ := exact.counts _ listed settled
  have noRet : e.ret = none := exact.ret_eq_none (e := e.bare) listed (by rcases ready with h | h <;> simp [Entry.bare, h])
  have finished : e.state = .done → e.remaining = 0 := fun done => standing.1 (by simp [Entry.standing, Entry.bare, noRet, done])
  rw [key] at remaining
  obtain ⟨remaining, overcut⟩ := counts_report (e := e) (overTol := (s.copy k.copy).overTol)
    (cellIndex_lt o.req.row o.req.col) deeper remaining overcut
  have tail (t : State) (v : Violation) : ((t.noteViolation v).onHead h HeadUnit.haltByViolation).books = t.books :=
    State.noteViolation_books t v
  simp only [State.record, own]
  generalize written : s.onCell e (cellIndex o.req.row o.req.col) _ = u
  have books (removed rate : Nat) : (u.growWear h removed rate).books = { s.books with
      store := s.store.write (cellAddr e.slot (cellIndex o.req.row o.req.col))
        ((s.cell e (cellIndex o.req.row o.req.col)).recorded o.req.depth (s.copy k.copy).overTol) } := by
    rw [(State.growWear_books _ _ _ _).1, ← written, State.onCell_books]
  have dir (removed rate : Nat) : (u.growWear h removed rate).dir = s.dir := by
    rw [(State.growWear_books _ _ _ _).2, ← written, State.onCell_dir]
  generalize grown : u.growWear h _ _ = v
  have books : v.books = _ := grown ▸ books _ _
  have dir : v.dir = s.dir := grown ▸ dir _ _
  have present : v.entry k = some e := by rwa [State.entry, dir]
  have there (old new : Cell) (tol : Nat) := State.onEntry_entry (f := fun x => x.countReport old new tol) present
    fun _ => rfl
  have counted := State.recount_exact exact
    (f := fun x => x.countReport (s.cell e (cellIndex o.req.row o.req.col)) _ (s.copy k.copy).finishTol)
    resident ready books dir (fun x => ⟨rfl, rfl, rfl, rfl⟩) (fun slot differ i small => ?_) remaining overcut
  · rw [← State.finishIfNone_eq (there _ _ _) fun done => ?_] at counted
    · split
      · exact counted
      · rw [tail]
        exact counted
    · simp only [Entry.countReport, finished done]
      split <;> rfl
  · exact Memory.read_write_other _ _ _ _ (cellAddr_ne differ small (cellIndex_lt _ _))

end

end Sys2Proof.Machine
end

section
/-! PROOFS. R17 to R63: every command keeps the directory, its counts and the Done Queue exact. -/

namespace Sys2Proof.Machine

open Sys2Proof.Safety

/-! ## The Copy Engine's unit -/

theorem State.entry_of_books {s : State} {k : TileKey} (there : ∃ x ∈ s.books.dir, x.key = k) :
    ∃ e, s.entry k = some e := by
  obtain ⟨x, hx, key⟩ := there
  obtain ⟨e, he, rfl⟩ := mem_books.1 hx
  exact Option.isSome_iff_exists.1 (State.entry_isSome_iff.2 ⟨e, he, key⟩)

/-- R63: the completion of a duplication whose 64 cells are written. -/
theorem State.copyCompleted_exact {s : State} (exact : s.books.Exact) {job : CopyJob} (busy : s.engine.job = some job)
    {d : Entry} (dest : s.entry job.dest = some d)
    (blank : ∀ i < 64, (s.cell d i).cut = 0 ∧ (s.cell d i).overcut = false) : (s.copyCompleted job).books.Exact := by
  obtain ⟨there, -, apart, -, -⟩ := exact.job job busy
  obtain ⟨e, source⟩ := State.entry_of_books there
  obtain ⟨he, sourceKey⟩ := State.entry_books source
  obtain ⟨hd, destKey⟩ := State.entry_books dest
  obtain ⟨-, -, noRet⟩ := exact.dest_unsettled busy hd destKey
  have distinct := State.keysDistinct_of_books exact
  have returned := State.onEntry_books (f := Entry.returnFromCopy) distinct source rfl
  have distinct' := State.keysDistinct_onEntry (f := Entry.returnFromCopy) distinct job.source fun _ => rfl
  have dest' := State.onEntry_entry_other (f := Entry.returnFromCopy) dest apart.symm fun _ => rfl
  generalize remaining : s.store.countCells d.slot (fun c => decide ((s.copy job.dest.copy).finishTol < c.target)) = n
  have counted := State.onEntry_books (f := fun x => x.counted n 0) distinct' dest' rfl
  have completed : ((s.onEntry job.source Entry.returnFromCopy).completeDest job.dest).books =
      (if n = 0 then ((s.onEntry job.source Entry.returnFromCopy).onEntry job.dest (fun x => x.counted n 0)).enterDone job.dest
        else (s.onEntry job.source Entry.returnFromCopy).onEntry job.dest (fun x => x.counted n 0)).books := by
    simp only [State.completeDest, dest', ← remaining]
    rfl
  have books : (s.copyCompleted job).books = { s.books with
      dir := replaced (replaced s.books.dir (e.returnFromCopy).bare) (d.counted n 0).bare
      done := if n = 0 then s.done ++ [job.dest] else s.done, job := none, next := 0 } := by
    have before : (s.copyCompleted job).books =
        { ((s.onEntry job.source Entry.returnFromCopy).completeDest job.dest).books with job := none, next := 0 } := rfl
    rw [before, completed, State.enterIfNone_books, counted, returned]
    rfl
  obtain ⟨standing, either⟩ := Entry.counted_standing (e := d) (n := n) (o := 0) noRet
  rw [books]
  refine exact.complete (e := e.bare) (new := (d.counted n 0).bare) busy he sourceKey hd destKey rfl rfl noRet rfl rfl rfl rfl rfl rfl
    ⟨remaining.symm.trans ?_, ?_, standing, either⟩ ?_
  · refine Memory.countCells_congr_test fun i small => ?_
    obtain ⟨cut, -⟩ := blank i small
    have read : (s.store.read (cellAddr d.slot i)).cut = 0 := cut
    have copy : (Bank.at s.copies d.key.copy).finishTol = (s.copy job.dest.copy).finishTol := by rw [← destKey]; rfl
    simp only [Cell.finished, Entry.counted, Entry.bare, State.books, copy, read, Nat.zero_add, ← decide_not, not_le]
  · have none : s.store.countCells d.slot (fun c => c.overcut) = 0 := by
      rw [Memory.countCells, List.length_eq_zero_iff, List.filter_eq_nil_iff]
      intro i inTile
      exact Bool.eq_false_iff.1 (blank i (mem_cellIndices.1 inTile)).2
    exact none.symm
  · rw [destKey]
    rfl

section
variable {s : State} (exact : s.books.Exact) {job : CopyJob} (busy : s.engine.job = some job)
include exact busy

/-- R59, R63: a transfer, and the completion. -/
theorem State.copyUnit_exact : (s.copyUnit job).books.Exact := by
  obtain ⟨source, dest, apart, below, blank⟩ := exact.job job busy
  obtain ⟨e, source⟩ := State.entry_of_books source
  obtain ⟨d, dest⟩ := State.entry_of_books dest
  obtain ⟨he, sourceKey⟩ := State.entry_books source
  obtain ⟨hd, destKey⟩ := State.entry_books dest
  have small : s.engine.next < 64 := below
  have transferred : s.transferCell job = s.onCell d s.engine.next (fun _ => (s.cell e s.engine.next).duplicate) := by
    simp only [State.transferCell, source, dest]
  simp only [State.copyUnit, transferred]
  generalize written : s.onCell d s.engine.next (fun _ => (s.cell e s.engine.next).duplicate) = u
  have books : u.books = { s.books with
      store := s.store.write (cellAddr d.slot s.engine.next) (s.cell e s.engine.next).duplicate } := by
    rw [← written, State.onCell_books]
  have exact' : u.books.Exact := by
    rw [books]
    refine exact.writeDest busy hd destKey (fun slot differ i inTile => ?_) fun i before => ?_
    · exact Memory.read_write_other _ _ _ _ (cellAddr_ne differ inTile small)
    · refine Memory.read_write_other _ _ _ _ fun same => ?_
      exact Nat.ne_of_lt before (Nat.add_left_cancel same)
  have busy' : u.engine.job = some job := by rwa [← written]
  have next : u.engine.next = s.engine.next := by rw [← written]; rfl
  have dest' : u.entry job.dest = some d := by rwa [← written]
  have last : (u.cell d s.engine.next).cut = 0 ∧ (u.cell d s.engine.next).overcut = false := by
    rw [State.cell, ← written, State.onCell_store, Memory.read_write_same]
    exact ⟨rfl, rfl⟩
  split_ifs with more
  · have advanced := exact'.advance (d := d.bare) busy' (State.entry_books dest').1 destKey
      (by rw [show u.books.next = s.engine.next from next]; exact more)
      (by rw [show u.books.next = s.engine.next from next]; exact last)
    exact advanced
  · have completed : (u.copyCompleted job).books.Exact := by
      refine State.copyCompleted_exact exact' busy' dest' fun i inTile => ?_
      obtain ⟨-, -, -, -, blank⟩ := exact'.job job busy'
      have full : s.engine.next = 63 := by
        simp only [Config.cellsPerTile] at more
        omega
      rcases Nat.lt_or_ge i s.engine.next with before | after
      · exact blank d.bare (State.entry_books dest').1 destKey i (by rw [show u.books.next = s.engine.next from next]; exact before)
      · rw [show i = s.engine.next by omega]
        exact last
    have resumed : ((u.completeCopy job).endUnit .ce).books = (u.copyCompleted job).books :=
      books_of_base (by rw [State.endUnit_base, State.completeCopy_base])
    rwa [resumed]

end

/-! ## What the commands do -/

/-- R39, R173: the books of an empty directory. -/
theorem Books.Exact.of_empty {b : Books} (dir : b.dir = []) (freeSlots : b.freeSlots = List.range Config.slots)
    (done : b.done = []) (window : b.load.InOrder) (closed : b.load.openTile = none) (idle : b.job = none) : b.Exact := by
  constructor
  case keys => simp [dir]
  case slots => simp [dir, freeSlots]
  case window => exact window
  case filling => simp [dir]
  case opened => simp [closed]
  case copying => simp [dir]
  case source => simp [dir]
  case job => simp [idle]
  case counts => simp [dir]
  case doneNodup => simp [done]
  case doneKeys => simp [done]

theorem UnitsAgree.of_same {s t : State} (agree : UnitsAgree s) (unit : t.port.unit = s.port.unit)
    (openTile : t.load.openTile = s.load.openTile) : UnitsAgree t :=
  ⟨fun k asked => openTile ▸ agree.opened k (unit ▸ asked), fun k c d asked => agree.cell k c d (unit ▸ asked)⟩

theorem UnitsAgree.of_free {t : State} (free : t.port.unit = none) : UnitsAgree t :=
  ⟨fun _ asked => (nomatch free.symm.trans asked), fun _ _ _ asked => (nomatch free.symm.trans asked)⟩

/-- The books are exact, the port's unit agrees with the Load Unit, and the port has followed `p`. -/
structure Tidy (p : Port) (s : State) : Prop where
  exact : s.books.Exact
  units : UnitsAgree s
  follows : p.Follows s.port

section
variable {p : Port} {s t : State} (tidy : Tidy p s)
include tidy

theorem Tidy.of_books (books : t.books = s.books) (unit : t.port.unit = s.port.unit) (port : s.port.Follows t.port) :
    Tidy p t :=
  ⟨books ▸ tidy.exact, tidy.units.of_same unit (congrArg (fun b => b.load.openTile) books), tidy.follows.trans port⟩

theorem Tidy.of_port (books : t.books = s.books) (port : t.port = s.port) : Tidy p t :=
  tidy.of_books books (congrArg Port.unit port) (port ▸ .refl _)

theorem Tidy.of_base (same : t.base = s.base) : Tidy p t := tidy.of_port (books_of_base same) (port_of_base same)

/-- R34: an entry that no duplication holds is listed in the Done Queue only while it is DONE. -/
theorem Tidy.state_of_done {k : TileKey} {e : Entry} (resident : s.entry k = some e) (calm : e.state ≠ .copying)
    (done : k ∈ s.done) : e.state = .done := by
  obtain ⟨listed, rfl⟩ := State.entry_books resident
  have noRet : e.ret = none := tidy.exact.ret_eq_none (e := e.bare) listed calm
  simpa [Entry.standing, Entry.bare, noRet] using tidy.exact.standing_of_done listed done

/-- R41: an entry is that of the open tile exactly while it is in FILLING. -/
theorem Tidy.filling_iff {k : TileKey} {e : Entry} (resident : s.entry k = some e) :
    e.state = .filling ↔ s.load.openTile = some k := by
  obtain ⟨listed, rfl⟩ := State.entry_books resident
  exact tidy.exact.filling e.bare listed

/-- R36, R37. -/
theorem Tidy.removed {k : TileKey} {e : Entry} (resident : s.entry k = some e) (calm : e.state ≠ .copying)
    (books : t.books = { s.books with
      dir := s.books.dir.eraseP (fun x => decide (x.key = k)), freeSlots := e.slot :: s.freeSlots
      done := t.done, load := t.load })
    (doneNodup : t.done.Nodup) (done : ∀ j ∈ t.done, j ∈ s.done ∧ j ≠ k) (window : t.load.InOrder)
    (openTile : ∀ j, t.load.openTile = some j ↔ s.load.openTile = some j ∧ j ≠ k) : t.books.Exact := by
  obtain ⟨listed, key⟩ := State.entry_books resident
  subst key
  refine tidy.exact.remove (c := t.books) listed calm ?_ ?_ doneNodup done ?_ window openTile ?_ ?_ ?_
  all_goals rw [books]
  rfl

end

theorem State.requestUnit_books (s : State) (u : PortUnit) : (s.requestUnit u).books = s.books := by
  rw [State.requestUnit_eq]
  rfl

theorem State.present_books (s : State) (r : Requester) : (s.present r).books = s.books := by
  rw [State.present_eq]
  rfl

theorem State.onEngine_books (s : State) (f : CopyEngine → CopyEngine) :
    (s.onEngine f).books = { s.books with job := (f s.engine).job, next := (f s.engine).next } := rfl

theorem State.accept_unit (s : State) : s.accept.port.unit = s.port.unit := rfl

theorem actionsKeep_tidy (p : Port) : ActionsKeep (Tidy p) (fun _ => True) where
  port _ moves holds := holds.of_books rfl (moves _).1 (moves _).2
  attn _ holds := holds.of_port rfl rfl
  unit {s} u asked holds := by
    refine ⟨by rw [s.requestUnit_books]; exact holds.exact, ⟨?_, ?_⟩, holds.follows.trans (s.requestUnit_follows u)⟩
    all_goals simp only [State.requestUnit_eq, presentedUnit, Option.some.injEq]
    · exact asked.opened
    · exact asked.cell
  clear {s} _ free holds := by
    obtain ⟨t, base, eq⟩ := s.clearWork_base
    have port : t.port = s.port := (port_of_base base :)
    have books : t.books = s.cleared.books := books_of_base base
    rw [eq]
    refine ⟨?_, .of_free (by rw [← free, ← port]; rfl), ?_⟩
    · rw [State.accept_books, books]
      exact .of_empty rfl rfl rfl holds.exact.window rfl rfl
    · exact (port.symm ▸ holds.follows).trans (State.accept_follows t)
  bind _ _ _ _ _ _ _ _ holds := holds.of_port rfl rfl
  unbind {s h} _ holds := by
    obtain ⟨t, base, eq⟩ := s.unbind_eq h
    rw [eq]
    exact (holds.of_base base).of_port rfl rfl
  tool _ _ _ holds := holds.of_port rfl rfl
  spindle _ _ _ holds := holds.of_port rfl rfl
  halt {s h} _ holds := by
    have halted : Tidy p (s.onHead h (fun hu => { hu with state := .halted })) := holds.of_port rfl rfl
    exact halted.of_base (State.endParked_base _ _ _)
  resume _ holds := holds.of_port rfl rfl
  stepOn _ holds := holds.of_base (State.leaveStepWait_base _ _)
  opens {s k slot pool} closed absent free holds := by
    have books := State.createEntry_books free k .filling
    refine ⟨?_, ⟨fun j asked => ?_, fun j c d asked => holds.units.cell j c d ?_⟩, ?_⟩
    · rw [State.onLoad_books, books]
      exact holds.exact.open closed (State.entry_none_books absent) free rfl rfl rfl rfl rfl rfl rfl rfl
    · rw [State.onLoad_port, State.createEntry_port] at asked
      exact nomatch closed.symm.trans (holds.units.opened j asked)
    · rwa [State.onLoad_port, State.createEntry_port] at asked
    · rw [State.onLoad_port, State.createEntry_port]
      exact holds.follows
  retireFilling {s k e} free resident filling holds := by
    have books := State.removeEntry_books resident
    have isOpen := (holds.filling_iff resident).1 filling
    refine ⟨holds.removed resident (by simp [filling]) ?_ ?_ ?_ ?_ ?_, .of_free (by simpa using free), by simpa using holds.follows⟩
    · rw [State.closeTile_books, books]
      simp [State.books, State.closeTile]
    · rw [State.closeTile_done, State.removeEntry_done]
      exact holds.exact.doneNodup
    · intro j done
      rw [State.closeTile_done, State.removeEntry_done] at done
      refine ⟨done, ?_⟩
      rintro rfl
      exact nomatch filling.symm.trans (holds.state_of_done resident (by simp [filling]) done)
    · rw [State.closeTile, State.onLoad_load, State.removeEntry_load]
      exact holds.exact.window
    · intro j
      simp only [State.closeTile, State.onLoad_load, reduceCtorEq, false_iff, isOpen, Option.some.injEq]
      rintro ⟨rfl, other⟩
      exact other rfl
  retireLive {s k e} resident live _ holds := by
    have books := State.removeEntry_books resident
    refine ⟨holds.removed resident (by simp [live]) ?_ ?_ ?_ ?_ ?_,
      holds.units.of_same (by simp) (by simp), by simpa using holds.follows⟩
    · rw [books]
      simp [State.books]
    · rw [State.removeEntry_done]
      exact holds.exact.doneNodup
    · intro j done
      rw [State.removeEntry_done] at done
      refine ⟨done, ?_⟩
      rintro rfl
      exact nomatch live.symm.trans (holds.state_of_done resident (by simp [live]) done)
    · rw [State.removeEntry_load]
      exact holds.exact.window
    · intro j
      rw [State.removeEntry_load]
      refine ⟨fun isOpen => ⟨isOpen, ?_⟩, And.left⟩
      rintro rfl
      exact nomatch live.symm.trans ((holds.filling_iff resident).2 isOpen)
  retireDone {s k e} resident finished holds := by
    have books := State.removeEntry_books resident
    refine ⟨holds.removed resident (by simp [finished]) ?_ ?_ ?_ ?_ ?_,
      holds.units.of_same (by simp) (by simp), by simpa using holds.follows⟩
    · rw [State.leaveDoneQueue_books, books]
      simp [State.books, State.leaveDoneQueue]
    · simp only [State.leaveDoneQueue, State.removeEntry_done]
      exact holds.exact.doneNodup.filter _
    · intro j done
      simpa [State.leaveDoneQueue] using done
    · rw [State.leaveDoneQueue_load, State.removeEntry_load]
      exact holds.exact.window
    · intro j
      rw [State.leaveDoneQueue_load, State.removeEntry_load]
      refine ⟨fun isOpen => ⟨isOpen, ?_⟩, And.left⟩
      rintro rfl
      exact nomatch finished.symm.trans ((holds.filling_iff resident).2 isOpen)
  duplicate {s src dst e slot pool} resident ready idle absent free holds := by
    obtain ⟨listed, rfl⟩ := State.entry_books resident
    have distinct := State.keysDistinct_of_books holds.exact
    have source := State.onEntry_books (f := Entry.asSource) distinct resident rfl
    have created := State.createEntry_books (s := s.onEntry e.bare.key Entry.asSource)
      (slot := slot) (pool := pool) free dst .copying
    have books : (s.acceptDuplicate e.bare.key dst).books = { s.books with
        dir := replaced s.books.dir e.bare.asSource ++ [Entry.fresh dst slot .copying], freeSlots := pool
        job := some { source := e.bare.key, dest := dst }, next := 0 } := by
      change State.books ((((s.onEntry e.bare.key Entry.asSource).createEntry dst .copying).onEngine (fun g =>
        { g with job := some { source := e.bare.key, dest := dst }, next := 0 })).present .ce).accept = _
      rw [State.accept_books, State.present_books, State.onEngine_books, created, source]
      rfl
    refine ⟨?_, holds.units.of_same ?_ ?_, holds.follows.trans ?_⟩
    · rw [books]
      exact holds.exact.duplicate listed ready idle (State.entry_none_books absent) free rfl rfl rfl rfl rfl rfl rfl rfl
    · rw [State.acceptDuplicate, State.accept_unit]
      simp
    · simp [State.acceptDuplicate]
    · refine .trans ?_ (State.accept_follows _)
      simpa using .refl _
  breakClaim _ holds := holds.of_base (State.release_base _ _ _)
  takeDone {s k rest} done holds := by
    refine ⟨?_, holds.units.of_same rfl rfl, holds.follows⟩
    have nodup : s.done.Nodup := holds.exact.doneNodup
    rw [done] at nodup
    exact { holds.exact with
      counts := fun x hx settled => (holds.exact.counts x hx settled).of_cells (fun _ _ => rfl) rfl
      job := fun j held => (holds.exact.job j held).of_same rfl rfl rfl
      doneNodup := (List.nodup_cons.1 nodup).2
      doneKeys := fun j listed => holds.exact.doneKeys j (by
        show j ∈ s.done
        rw [done]
        exact List.mem_cons_of_mem _ listed) }
  emptyHold _ holds := holds.of_port rfl rfl

/-! ## What the setting commands store -/

theorem State.hasTiles_books (s : State) (y : CopyNo) : s.hasTiles y = s.books.dir.any (fun e => decide (e.key.copy = y)) := by
  simp only [State.hasTiles, State.books, List.any_map]
  rfl

theorem SetupFree.of_same {s t : State} (setup : SetupFree s) (port : s.port.Follows t.port)
    (dir : t.books.dir = s.books.dir) : SetupFree t := by
  intro y current receiving named
  rw [State.hasTiles_books, dir, ← State.hasTiles_books]
  rw [port.current] at current
  rw [port.values] at named
  refine setup y current ?_ named
  rcases port.phase with same | refused
  · exact same ▸ receiving
  · exact nomatch refused.symm.trans receiving

/-- R5: no command that stores a parameter touches the directory, and COPY SETUP stores none but for a copy without
tiles. -/
structure TidySetup (p : Port) (s : State) : Prop where
  tidy : Tidy p s
  setup : 2 ≤ p.values.length → SetupFree s

section
variable {p : Port} {s t : State} (holds : TidySetup p s)
include holds

theorem TidySetup.of_books (books : t.books = s.books) (unit : t.port.unit = s.port.unit) (port : s.port.Follows t.port) :
    TidySetup p t :=
  ⟨holds.tidy.of_books books unit port, fun taken => (holds.setup taken).of_same port (congrArg Books.dir books)⟩

theorem TidySetup.of_port (books : t.books = s.books) (port : t.port = s.port) : TidySetup p t :=
  holds.of_books books (congrArg Port.unit port) (port ▸ .refl _)

theorem TidySetup.bare {y : CopyNo} (setting : SettingUp s y) : s.hasTiles y = false := by
  have taken : 2 ≤ p.values.length := by
    rw [← holds.tidy.follows.values]
    exact setting.selected
  exact holds.setup taken y setting.current setting.receiving setting.named

end

theorem settingsKeep_tidySetup (p : Port) : SettingsKeep (TidySetup p) where
  port _ moves holds := holds.of_books rfl (moves _).1 (moves _).2
  attn _ holds := holds.of_port rfl rfl
  unit {s} u asked holds := ⟨(actionsKeep_tidy p).unit u asked holds.tidy, fun taken =>
    (holds.setup taken).of_same (s.requestUnit_follows u) (congrArg Books.dir (s.requestUnit_books u))⟩
  stepOn _ holds := holds.of_port (books_of_base (State.leaveStepWait_base _ _))
    (port_of_base (State.leaveStepWait_base _ _))
  timebase _ holds := holds.of_port rfl rfl
  copyValue {s y} f setting _ holds := by
    have follows := holds.tidy.follows
    have bare := holds.bare setting
    have away : ∀ x ∈ s.books.dir, x.key.copy ≠ y := by
      rw [State.hasTiles_books] at bare
      simpa using bare
    refine ⟨⟨?_, holds.tidy.units.of_same rfl rfl, follows⟩, fun taken => (holds.setup taken).of_same (.refl _) rfl⟩
    have exact := holds.tidy.exact
    refine { exact with
      counts := fun x hx settled => (exact.counts x hx settled).of_cells (fun _ _ => rfl) ?_
      job := fun j held => (exact.job j held).of_same rfl rfl rfl }
    have other : Bank.at (s.onCopy y f).copies x.key.copy = Bank.at s.copies x.key.copy :=
      Bank.at_put_other _ _ _ _ (away x hx)
    exact congrArg CopyRecord.finishTol other
  bandValue _ _ _ _ holds := holds.of_port rfl rfl
  edge {s f} move holds := by
    obtain ⟨openTile, order⟩ := move s.load
    have exact := holds.tidy.exact
    refine ⟨⟨?_, holds.tidy.units.of_same rfl openTile, holds.tidy.follows⟩,
      fun taken => (holds.setup taken).of_same (.refl _) rfl⟩
    exact { exact with
      window := order exact.window
      filling := fun e he => (exact.filling e he).trans (openTile ▸ Iff.rfl)
      opened := fun k isOpen => exact.opened k (openTile ▸ isOpen)
      counts := fun x hx settled => (exact.counts x hx settled).of_cells (fun _ _ => rfl) rfl
      job := fun j held => (exact.job j held).of_same rfl rfl rfl }
  stepMode _ _ holds := holds.of_port rfl rfl

/-! ## The decoder's step -/

/-- `DirectoryExact`, in its three parts. -/
structure Kept (s : State) : Prop where
  exact : s.books.Exact
  units : UnitsAgree s
  setup : SetupFree s

theorem Kept.tidy {s : State} (kept : Kept s) : Tidy s.port s := ⟨kept.exact, kept.units, .refl _⟩

/-- A port that takes no parameters is not setting up a copy. -/
theorem SetupFree.of_closed {s : State} (closed : s.port.phase ≠ .receiving) : SetupFree s :=
  fun _ _ receiving => absurd receiving closed

theorem Tidy.kept_of_closed {p : Port} {s : State} (tidy : Tidy p s) (closed : p.phase ≠ .receiving) : Kept s :=
  ⟨tidy.exact, tidy.units, .of_closed (by
    rcases tidy.follows.phase with same | refused
    · rwa [same]
    · simp [refused])⟩

theorem Kept.of_registers {s t : State} (kept : Kept s) (books : t.books = s.books) (unit : t.port.unit = s.port.unit)
    (port : s.port.Follows t.port) : Kept t :=
  ⟨books ▸ kept.exact, kept.units.of_same unit (congrArg (fun b => b.load.openTile) books),
    kept.setup.of_same port (congrArg Books.dir books)⟩

/-- R5: the first parameter of COPY SETUP is refused where the copy has tiles. -/
theorem setupFree_copySetupSelect {s : State} {v : Nat} (values : s.port.values = [v]) :
    SetupFree (s.copySetupSelect v) := by
  simp only [State.copySetupSelect]
  split
  case h_1 => exact .of_closed nofun
  case h_2 y named =>
    split_ifs with tiles
    · exact .of_closed nofun
    · intro z _ _ first
      rw [values] at first
      obtain rfl : z = y := Fin.ext ((Option.some.inj first).symm.trans (copyOf_eq_some named).symm)
      simpa using tiles

/-- A further invariant that goes along with the directory's: the port's registers and the flags leave it, and what the
commands do and store keeps it where the directory is exact. -/
structure GoesAlong (more : State → Prop) : Prop where
  port : ∀ {s : State} (f : Port → Port), (∀ p, (f p).unit = p.unit) → more s → more (s.onPort f)
  attn : ∀ {s : State} (a : Attention), more s → more { s with attn := a }
  acts : ∀ p, ActionsKeep (fun s => Tidy p s ∧ more s) (fun _ => True)
  stores : ∀ p, SettingsKeep (fun s => TidySetup p s ∧ more s)

/-- The directory is exact, and the further invariant holds. -/
structure KeptWith (more : State → Prop) (s : State) : Prop extends Kept s where
  along : more s

section

variable {more : State → Prop} (goes : GoesAlong more) {s : State} (kept : KeptWith more s)
include goes kept

theorem KeptWith.onPort (f : Port → Port) (unit : ∀ p, (f p).unit = p.unit) (port : s.port.Follows (f s.port)) :
    KeptWith more (s.onPort f) :=
  ⟨kept.of_registers rfl (unit _) port, goes.port f unit kept.along⟩

/-- The port takes no parameters, or none of COPY SETUP. -/
theorem KeptWith.onPort_setup (f : Port → Port) (unit : ∀ p, (f p).unit = p.unit) (setup : SetupFree (s.onPort f)) :
    KeptWith more (s.onPort f) :=
  ⟨⟨kept.exact, kept.units.of_same (unit _) rfl, setup⟩, goes.port f unit kept.along⟩

theorem KeptWith.refuse (r : ResultCode) : KeptWith more (s.refuse r) :=
  ⟨kept.of_registers rfl rfl (follows_refuse rfl r), goes.attn _ (goes.port _ (fun _ => rfl) kept.along)⟩

theorem KeptWith.accept : KeptWith more s.accept :=
  kept.onPort goes (fun p => { p with result := .ok }) (fun _ => rfl) s.accept_follows

theorem KeptWith.endCommand : KeptWith more s.endCommand := by
  simp only [State.endCommand]
  repeat' split
  · exact kept.accept goes
  · exact kept
  · exact kept.refuse goes _
  · exact kept.refuse goes _
  · exact kept

theorem KeptWith.beginCommand (cur : Current) (phase : Phase) (followed : Bool) :
    KeptWith more (s.beginCommand cur phase followed) :=
  kept.onPort_setup goes _ (fun _ => rfl) fun _ _ _ named => nomatch named

/-- R165, R167: a command acts while the port takes no parameters. -/
theorem KeptWith.act (c : Command) (vals : List Nat) (free : s.port.unit = none) (closed : s.port.phase ≠ .receiving) :
    KeptWith more (s.act c vals) := by
  obtain ⟨tidy, along⟩ := (goes.acts s.port).act (c := c) trivial vals ⟨kept.tidy, kept.along⟩ free
  exact ⟨tidy.kept_of_closed closed, along⟩

theorem KeptWith.takeCommand (code : Byte) (followed : Bool) (free : s.port.unit = none) :
    KeptWith more (s.takeCommand code followed) := by
  have begun (cur : Current) (phase : Phase) : KeptWith more (s.endCommand.beginCommand cur phase followed) :=
    (kept.endCommand goes).beginCommand goes cur phase followed
  simp only [State.takeCommand]
  split
  case h_1 => exact (begun _ _).refuse goes _
  case h_2 c _ =>
    split_ifs
    · simp only [State.startStream]
      split_ifs
      · exact ((begun _ _).refuse goes _).onPort goes _ (fun _ => rfl) (registerMove_refused _).2
      · exact (begun _ _).accept goes
    · exact (begun (.known c) .complete).act goes c [] ((State.endCommand_unit s).trans free) nofun
    · exact begun _ _

/-- R165: a parameter of a setting command is taken and stored. -/
theorem KeptWith.storeParameter {c : Command} (v : Nat) (current : s.port.current = .known c)
    (receiving : s.port.phase = .receiving) :
    KeptWith more ((s.onPort (fun p => { p with half := none, values := s.port.values ++ [v] })).storeSetting c
      (s.port.values ++ [v])) := by
  have taken : TidySetup { s.port with half := none, values := s.port.values ++ [v] }
      (s.onPort (fun p => { p with half := none, values := s.port.values ++ [v] })) := by
    refine ⟨⟨kept.exact, kept.units.of_same rfl rfl, .refl _⟩, fun more y copySetup receives named => ?_⟩
    have some : s.port.values ≠ [] := by
      rintro none
      simp [none] at more
    refine kept.setup y copySetup receives ?_
    rw [← named]
    exact (List.head?_append_of_ne_nil _ some).symm
  obtain ⟨⟨⟨exact, units, follows⟩, setup⟩, along⟩ := (goes.stores _).setting
    (s := s.onPort (fun p => { p with half := none, values := s.port.values ++ [v] })) (c := c) current receiving
    ⟨taken, goes.port _ (fun _ => rfl) kept.along⟩
  refine ⟨⟨exact, units, ?_⟩, along⟩
  by_cases first : s.port.values = []
  · intro y copySetup
    have known : Current.known c = .known .copySetup := current.symm.trans (follows.current.symm.trans copySetup)
    obtain rfl : c = .copySetup := Current.known.inj known
    revert copySetup
    simp only [first, List.nil_append]
    exact setupFree_copySetupSelect rfl y
  · refine setup ?_
    have := List.length_pos_iff.2 first
    simp only [List.length_append, List.length_singleton]
    omega

theorem KeptWith.takeValue {c : Command} (v : Nat) (current : s.port.current = .known c)
    (receiving : s.port.phase = .receiving) (free : s.port.unit = none) : KeptWith more (s.takeValue c v) := by
  have acted (notSetting : c.row.cls ≠ .setting) :
      KeptWith more (if decide ((s.port.values ++ [v]).length = c.row.widths.length) then
        (s.onPort (fun p => { p with half := none, values := s.port.values ++ [v], phase := .complete })).act c
          (s.port.values ++ [v])
      else s.onPort (fun p => { p with half := none, values := s.port.values ++ [v] })) := by
    split_ifs
    · have complete := kept.onPort_setup goes
        (fun p => { p with half := none, values := s.port.values ++ [v], phase := .complete }) (fun _ => rfl) (.of_closed nofun)
      exact complete.act goes c _ free nofun
    · refine kept.onPort_setup goes _ (fun _ => rfl) fun y copySetup _ _ => ?_
      obtain rfl : c = .copySetup := by simpa [current] using copySetup
      exact absurd rfl notSetting
  simp only [State.takeValue]
  split
  case h_1 =>
    have emptied : KeptWith more (s.onPort (fun p => { p with half := none })) :=
      kept.onPort goes _ (fun _ => rfl) ⟨rfl, rfl, .inl rfl, rfl, rfl, id⟩
    have asks (u : PortUnit) (asked : UnitAsked (s.onPort (fun p => { p with half := none })) u) :
        KeptWith more ((s.onPort (fun p => { p with half := none })).requestUnit u) := by
      obtain ⟨⟨exact, units, -⟩, along⟩ := (goes.acts _).unit u asked ⟨emptied.tidy, emptied.along⟩
      exact ⟨⟨exact, units, emptied.setup.of_same (State.requestUnit_follows _ u)
        (congrArg Books.dir (State.requestUnit_books _ u))⟩, along⟩
    simp only [State.streamValue]
    split
    · exact asks _ ⟨clampDepth_le _, nofun, nofun⟩
    · exact asks _ ⟨clampDepth_le _, nofun, nofun⟩
    · exact emptied
  case h_2 =>
    have stored := kept.storeParameter goes v current receiving
    split_ifs
    · simp only [State.completeSetting]
      split_ifs
      · exact (stored.accept goes).onPort_setup goes _ (fun _ => rfl) (.of_closed nofun)
      · exact stored
    · exact stored
  case h_3 own => exact acted (by simp [own])
  case h_4 own => exact acted (by simp [own])

theorem KeptWith.takeParameter (b : Byte) (free : s.port.unit = none) : KeptWith more (s.takeParameter b) := by
  simp only [State.takeParameter]
  split
  case h_1 c current receiving =>
    split_ifs
    · split
      · exact kept.onPort goes _ (fun _ => rfl) ⟨rfl, rfl, .inl rfl, rfl, rfl, id⟩
      · exact kept.takeValue goes _ current receiving free
    · exact kept.takeValue goes _ current receiving free
  case h_2 => exact kept

theorem KeptWith.decodeByte (b : IntakeByte) (rest : List IntakeByte) (free : s.port.unit = none) :
    KeptWith more (s.decodeByte b rest) := by
  have queued : KeptWith more (s.onPort (fun p => { p with intake := rest })) :=
    kept.onPort_setup goes _ (fun _ => rfl) kept.setup
  have treated : KeptWith more (s.onPort (fun p => { p with intake := rest })).treatOverrun := by
    simp only [State.treatOverrun]
    split_ifs
    · have ended := queued.beginCommand goes .none .complete false
      exact (ended.onPort_setup goes (fun p => { p with overrun := false }) (fun _ => rfl) (.of_closed nofun)).refuse goes _
    · exact queued
  have free' := (State.treatOverrun_unit (s.onPort (fun p => { p with intake := rest }))).trans free
  simp only [State.decodeByte]
  split
  · exact treated.takeCommand goes _ _ free'
  · exact treated.takeParameter goes _ free'

end

/-- R162: a byte that the decoder takes. -/
theorem Kept.decodeByte {s : State} (kept : Kept s) (b : IntakeByte) (rest : List IntakeByte) (free : s.port.unit = none) :
    Kept (s.decodeByte b rest) := by
  have goes : GoesAlong (fun _ => True) :=
    ⟨fun _ _ => id, fun _ => id, by simpa using actionsKeep_tidy, by simpa using settingsKeep_tidySetup⟩
  exact (KeptWith.decodeByte goes ⟨kept, trivial⟩ b rest free).toKept

/-! ## Every move -/

theorem Kept.of_port {s t : State} (kept : Kept s) (books : t.books = s.books) (port : t.port = s.port) : Kept t :=
  kept.of_registers books (congrArg Port.unit port) (port ▸ .refl _)

theorem Kept.of_base {s t : State} (kept : Kept s) (same : t.base = s.base) : Kept t :=
  kept.of_port (books_of_base same) (port_of_base same)

/-- The keys of the directory decide whether a copy has tiles. -/
theorem SetupFree.of_keys {s t : State} (setup : SetupFree s) (port : s.port.Follows t.port)
    (keys : t.dir.map (fun e => e.key) = s.dir.map (fun e => e.key)) : SetupFree t := by
  intro y current receiving named
  have tiles (u : State) : u.hasTiles y = (u.dir.map (fun e => e.key)).any (fun k => decide (k.copy = y)) := by
    rw [List.any_map]
    rfl
  rw [tiles, keys, ← tiles]
  rw [port.current] at current
  rw [port.values] at named
  refine setup y current ?_ named
  rcases port.phase with same | refused
  · exact same ▸ receiving
  · exact nomatch refused.symm.trans receiving

theorem keys_of_tiles {s t : State} (tiles : t.dir.map Entry.tile = s.dir.map Entry.tile) :
    t.dir.map (fun e => e.key) = s.dir.map (fun e => e.key) := by
  have keys := congrArg (List.map (fun x => x.1)) tiles
  simpa [List.map_map, Function.comp_def, Entry.tile] using keys

theorem State.record_load (s : State) (h : HeadNo) (o : Outstanding) (e : Entry) : (s.record h o e).load = s.load := by
  simp only [State.record, State.noteViolation, State.finishIfNone, State.growWear]
  repeat' split
  all_goals simp

@[simp] theorem State.transferCell_load (s : State) (job : CopyJob) : (s.transferCell job).load = s.load := by
  simp only [State.transferCell]
  split <;> rfl

@[simp] theorem State.completeDest_load (s : State) (k : TileKey) : (s.completeDest k).load = s.load := by
  simp only [State.completeDest]
  repeat' split
  all_goals simp

theorem State.copyUnit_load (s : State) (job : CopyJob) : (s.copyUnit job).load = s.load := by
  simp only [State.copyUnit, State.endUnit_load]
  split_ifs
  · simp
  · rw [load_of_base (State.completeCopy_base _ _), State.copyCompleted]
    simp

theorem Moves.kept {i : Instr} {s t : State} (moves : Moves i s t) (kept : Kept s) : Kept t := by
  have dirExact : DirectoryExact s := directoryExact_iff.2 ⟨kept.exact, kept.units, kept.setup⟩
  cases moves
  case reset =>
    exact ⟨.of_empty rfl rfl rfl (by simp [State.books, State.reset, LoadUnit.InOrder, LoadUnit.reset]) rfl rfl,
      .of_free rfl, .of_closed nofun⟩
  case wireByte line value early =>
    have follow : (s.port.takeByte line value early).current = s.port.current ∧
        (s.port.takeByte line value early).phase = s.port.phase ∧
        (s.port.takeByte line value early).values = s.port.values := by
      simp only [Port.takeByte, Port.enqueue, Port.noteCommandByte, Port.consume]
      repeat' split
      all_goals exact ⟨rfl, rfl, rfl⟩
    obtain ⟨current, phase, values⟩ := follow
    exact ⟨kept.exact, kept.units.of_same (Port.takeByte_unit _ _ _ _) rfl, fun y known receiving named =>
      kept.setup y (current ▸ known) (phase ▸ receiving) (values ▸ named)⟩
  case chipSelect => exact ⟨kept.exact, kept.units.of_same rfl rfl, kept.setup⟩
  case decodes b rest free _ _ => exact kept.decodeByte b rest free
  case portUnit u granted =>
    obtain ⟨unit, -⟩ := granted
    refine ⟨State.runUnit_exact kept.exact kept.units unit, .of_free rfl, ?_⟩
    have ran := kept.setup.of_keys (s.runUnit_follows u) (keys_of_tiles (State.runUnit_unitKeeps dirExact unit).1)
    exact ran
  case probeUnit h o k _ _ => exact kept.of_base (s.probeUnit_base h o k)
  case reportUnit h o k _ _ =>
    obtain same | ⟨e, resident, ready, deeper, base⟩ := s.reportUnit_base h o k
    · exact kept.of_base same
    · have port : (s.reportUnit h o k).port = s.port := (port_of_base base).trans (s.record_port h o e)
      refine ⟨?_, kept.units.of_same (congrArg Port.unit port) ?_,
        kept.setup.of_keys (port ▸ .refl _) (keys_of_tiles (s.reportUnit_unitKeeps h o k).1)⟩
      · rw [books_of_base base]
        exact State.record_exact kept.exact resident ready h deeper
      · rw [load_of_base base, s.record_load]
  case transfer job busy _ =>
    have port := s.copyUnit_port job
    refine ⟨State.copyUnit_exact kept.exact busy, kept.units.of_same (congrArg Port.unit port) ?_,
      kept.setup.of_keys (port ▸ .refl _) (keys_of_tiles (State.copyUnit_unitKeeps dirExact busy).1)⟩
    rw [s.copyUnit_load]
  case request h _ _ _ _ _ =>
    exact Kept.of_base (s := s.huntAgain h) (kept.of_port rfl rfl) (State.requestArrives_base _ h _)
  case linkReset h => exact Kept.of_base (s := s.huntAgain h) (kept.of_port rfl rfl) (State.linkReset_base _ h)
  case badFrame h =>
    refine Kept.of_port kept ?_ (by simp [State.badFrame, State.huntAgain])
    simp [State.books, State.badFrame, State.huntAgain]
  case answerSent h =>
    simp only [State.answerSent]
    split <;> exact kept.of_port rfl rfl
  case stall h _ =>
    exact Kept.of_base (s := s.onMonitor h LoadMonitor.saturate) (kept.of_port rfl rfl) (s.stallEntry_base h)
  case expiry h _ => exact kept.of_base (s.holdExpiry_base h)
  case tick =>
    exact Kept.of_base (s := { s with monitors := s.monitors.map LoadMonitor.ticked }) (kept.of_port rfl rfl) s.tick_base
  all_goals exact kept.of_port rfl rfl

/-- Settles O57: every move of the directory is a change of its books that keeps them exact; the rest leaves the books
alone. -/
theorem directoryStaysExact : Obligations.DirectoryStaysExact := by
  refine keptByEveryStep_of_moves (fun _ _ holds => holds) fun holds moves => ?_
  obtain ⟨exact, units, setup⟩ := directoryExact_iff.1 holds
  obtain ⟨exact, units, setup⟩ := moves.kept ⟨exact, units, setup⟩
  exact directoryExact_iff.2 ⟨exact, units, setup⟩

end Sys2Proof.Machine
end

section
/-! PROOFS. R173: the invariants hold right after reset. -/

namespace Sys2Proof.Machine

open Sys2Proof.Safety

@[simp] theorem State.reset_head (g : HeadNo) : State.reset.head g = HeadUnit.reset := Bank.at_replicate _ g

@[simp] theorem State.reset_monitor (g : HeadNo) : State.reset.monitor g = LoadMonitor.reset := Bank.at_replicate _ g

@[simp] theorem State.reset_link (g : HeadNo) : State.reset.link g = Link.reset := Bank.at_replicate _ g

@[simp] theorem State.reset_claim (g : HeadNo) : State.reset.claim g = { slots := [], timer := none } := Bank.at_replicate _ g

@[simp] theorem State.reset_copy (y : CopyNo) : State.reset.copy y = CopyRecord.reset := Bank.at_replicate _ y

@[simp] theorem State.reset_band (y : CopyNo) (b : Fin 8) : State.reset.band y b = BandRecord.reset := by
  simp [State.band, State.reset]

theorem tablesFit_reset : TablesFit State.reset where
  copy y := by
    rw [State.reset_copy]
    exact ⟨by decide, by decide, by decide, by decide⟩
  band y b := by
    rw [State.reset_band]
    exact ⟨by decide, by decide, by decide, by decide, by decide⟩
  first y := by
    rw [State.reset_band]
    rfl

theorem directoryExact_reset : DirectoryExact State.reset := by
  refine directoryExact_iff.2 ⟨?_, .of_free rfl, .of_closed nofun⟩
  exact .of_empty rfl rfl rfl (by simp [State.books, State.reset, LoadUnit.InOrder, LoadUnit.reset]) rfl rfl

/-- Nothing is claimed, and no head waits. -/
theorem claimsAgree_reset : ClaimsAgree State.reset := by
  refine ⟨fun h => ?_, nofun⟩
  simp only [State.reset_claim, State.reset_head, HeadUnit.reset]
  exact ⟨List.nodup_nil, Nat.zero_le _, nofun, nofun, nofun⟩

theorem arbiterInOrder_reset : ArbiterInOrder State.reset := by
  have free : State.reset.arb.granted = none := rfl
  rw [ArbiterInOrder, free]
  intro r
  cases r with
  | hu h => simp [State.presents, HeadUnit.reset, HeadUnit.inService]
  | cp => rfl
  | ce => rfl

/-- Settles O60: after reset every list is empty and every register is at its reset value. -/
theorem resetMeetsInvariants : Obligations.ResetMeetsInvariants := by
  refine ⟨rfl, ⟨nofun, nofun, fun h => ?_, fun h => ?_⟩, directoryExact_reset, claimsAgree_reset, ⟨List.nodup_nil, fun h => ?_⟩,
    arbiterInOrder_reset, fun h => ?_, ⟨Nat.zero_le _, fun h => ?_⟩, holdInOrder_of_empty rfl, fun h => ?_,
    tablesInRange_iff.2 ⟨⟨Nat.zero_le _, Nat.zero_le _, Nat.zero_le _, nofun, nofun⟩, tablesFit_reset⟩⟩
  · rw [State.reset_head]
    exact nofun
  · rw [State.reset_head]
    exact nofun
  · rw [State.reset_head]
    exact ⟨nofun, nofun⟩
  · rw [State.reset_head]
    exact ⟨by decide, by decide, by decide, by decide⟩
  · rw [State.reset_head, State.reset_monitor]
    exact ⟨monitorInOrder_reset, by decide⟩
  · rw [State.reset_link]
    rfl

end Sys2Proof.Machine
end

section
/-! PROOFS. R162 to R168: the Command Port. The wire hands the intake queue whole bytes, and the decoder takes them
from its front: a parameter byte, a command byte, or either of them after an overrun. -/

namespace Sys2Proof.Machine

open Sys2Proof.Safety

/-- Settles O1: a step looks at the queue only. -/
theorem stepRunsFrontCommand : Obligations.StepRunsFrontCommand := by
  unfold Obligations.StepRunsFrontCommand
  exact ⟨fun _ _ _ => rfl, fun s idle => by simp only [step, idle]⟩

/-- Settles O3: hardware reset keeps nothing of the state but the queue of commands. -/
theorem hardwareResetLeavesResetValues : Obligations.HardwareResetLeavesResetValues := by
  unfold Obligations.HardwareResetLeavesResetValues
  intro s
  refine ⟨{ State.reset with pending := s.pending }, rfl, rfl, State.reset_copy, State.reset_band, rfl,
    List.Perm.refl _, rfl, rfl, rfl, rfl, rfl, State.reset_claim, State.reset_head, State.reset_monitor, rfl, ?_, rfl,
    rfl, rfl, rfl, rfl, rfl, ?_, rfl, rfl, rfl, rfl⟩
  · intro h
    have idle : State.link { State.reset with pending := s.pending } h = Link.reset := State.reset_link h
    simp [idle, Link.reset, Receiver.reset]
  · simp [State.reset, Port.reset]

/-! ## The wire (R160 to R164, R167, R168) -/

/-- R168: the read index moves on where a reply byte has been read, and stops at the reply's end. -/
theorem Port.consume_eq {p : Port} (inReply : p.readIndex ≤ p.reply.length) (line : PortLine) (early : Bool) :
    p.consume line early = { p with readIndex :=
      if (p.readable && !early) = true ∧ line = .parameter ∧ p.readIndex < p.reply.length then p.readIndex + 1
      else p.readIndex } := by
  by_cases reads : (p.readable && !early) = true ∧ line = .parameter
  · obtain ⟨shown, parameter⟩ := reads
    have index : min (p.readIndex + 1) p.reply.length =
        if p.readIndex < p.reply.length then p.readIndex + 1 else p.readIndex := by
      split <;> omega
    simp only [Port.consume, Port.presentsReply, shown, parameter, index, decide_true, Bool.and_self, if_true,
      true_and]
  · have unread : ¬((p.presentsReply early && decide (line = .parameter)) = true) := by
      simpa [Port.presentsReply] using reads
    have still : ¬((p.readable && !early) = true ∧ line = .parameter ∧ p.readIndex < p.reply.length) :=
      fun ⟨shown, parameter, _⟩ => reads ⟨shown, parameter⟩
    rw [Port.consume, if_neg unread, if_neg still]

/-- R162, R163: a completed byte waits, or is lost and leaves its mark. -/
theorem Port.enqueue_eq (p : Port) (line : PortLine) (value : Byte) :
    p.enqueue line value = { p with
      intake := if p.intake.length < 16 then p.intake ++ [{ line := line, value := value, followed := false }]
        else p.intake
      overrun := p.overrun || decide (16 ≤ p.intake.length) } := by
  unfold Port.enqueue Config.intakeDepth
  split
  next room => simp [room]
  next crowded => simp [Nat.not_lt.1 crowded]

theorem Port.ready_iff (p : Port) : p.ready = true ↔ p.intake = [] ∧ p.unit = none := by
  simp [Port.ready]

/-- Settles O4: a byte that completes is read out, consumed, marked and queued, in that order. -/
theorem wireBytesAndBreaks : Obligations.WireBytesAndBreaks := by
  unfold Obligations.WireBytesAndBreaks
  refine ⟨fun s line value early inReply => ?_, fun _ _ => rfl, Port.ready_iff⟩
  have taken : exec (.cpByte line value early) s = .next (s.onPort (fun p => p.takeByte line value early)) := rfl
  rw [taken, State.onPort, Port.takeByte, Port.consume_eq inReply]
  cases line
  all_goals simp [Port.noteCommandByte, Port.enqueue_eq, Port.presentsReply, Port.replyByte]

/-! ## A parameter byte (R162, R166) -/

section
variable {s : State} {b : IntakeByte} {rest : List IntakeByte}

/-- R163: the decoder's step where the byte at the front is the row's and no overrun waits. -/
theorem State.decoderStep_takes {own : IntakeByte → Bool} (takes : DecoderTakes s b rest) (mine : own b = true) :
    s.decoderStep own = match b.line with
      | .command => (s.onPort (fun p => { p with intake := rest })).takeCommand b.value b.followed
      | .parameter => (s.onPort (fun p => { p with intake := rest })).takeParameter b.value := by
  obtain ⟨idle, sound, front⟩ := takes
  have untreated : (s.onPort (fun p => { p with intake := rest })).treatOverrun =
      s.onPort (fun p => { p with intake := rest }) := State.treatOverrun_none _ sound
  simp only [State.decoderStep, idle, front, mine, if_true, State.decodeByte, untreated] <;> rfl

theorem exec_parameterByte {value : Byte} {followed : Bool}
    (takes : DecoderTakes s { line := .parameter, value := value, followed := followed } rest) :
    exec .parameterByte s = .next ((s.onPort (fun p => { p with intake := rest })).takeParameter value) :=
  congrArg Host.Outcome.next (State.decoderStep_takes takes rfl)

/-- Log entry 1: on a parameter byte the current command's row is PARAMETER_BYTE. -/
theorem exec_rowOf_parameter {c : Command} {value : Byte} {followed : Bool}
    (takes : DecoderTakes s { line := .parameter, value := value, followed := followed } rest)
    (current : s.port.current = .known c) : exec (rowOf c) s = exec .parameterByte s := by
  have mine : s.ownByte c { line := .parameter, value := value, followed := followed } = true := by
    simp [State.ownByte, current]
  rw [exec_rowOf, exec_parameterByte takes, State.commandStep, State.decoderStep_takes takes mine]

/-- R162: a parameter byte that no command takes is discarded. -/
theorem State.takeParameter_discarded (value : Byte)
    (idle : s.port.current = .none ∨ s.port.current = .unknown ∨ s.port.phase ≠ .receiving) :
    s.takeParameter value = s := by
  unfold State.takeParameter
  split
  next c current receiving => simp [current, receiving] at idle
  next => rfl

/-- R166: the first byte of a two-byte parameter waits in the assembler. -/
theorem State.takeParameter_half {c : Command} (value : Byte) (current : s.port.current = .known c)
    (receiving : s.port.phase = .receiving) (wide : c.nextWidth s.port.values.length = 2)
    (empty : s.port.half = none) :
    s.takeParameter value = s.onPort (fun p => { p with half := some value }) := by
  simp only [State.takeParameter, current, receiving, wide, empty, if_true]

/-- R21, R162: while a unit waits or runs the decoder takes no byte. -/
theorem State.decoderStep_busy (own : IntakeByte → Bool) (busy : s.port.unit.isSome = true) :
    s.decoderStep own = s := by
  obtain ⟨u, unit⟩ := Option.isSome_iff_exists.1 busy
  simp only [State.decoderStep, unit]

end

/-- R165, R167: an action or a read takes a parameter that is not its last. -/
theorem exec_parameter_more {s : State} {c : Command} {vals : List Nat} {rest : List IntakeByte}
    (takes : TakesParameter s c vals rest) (cls : c.row.cls = .action ∨ c.row.cls = .read)
    (more : vals.length ≠ c.row.widths.length) : exec (rowOf c) s = .next (tookParameter s .receiving vals rest) := by
  have notStream : c.row.cls ≠ .stream := by obtain action | read := cls <;> simp [*]
  rw [exec_rowOf, State.commandStep_parameter takes notStream]
  obtain action | read := cls
  · rw [action]
    exact congrArg _ (if_neg more)
  · rw [read]
    exact congrArg _ (if_neg more)

/-- Settles O5: the parameter byte by what the decoder is waiting for. -/
theorem parameterByteTaken : Obligations.ParameterByteTaken := by
  unfold Obligations.ParameterByteTaken
  refine ⟨⟨fun s value followed rest takes idle => ?discarded,
    fun s c value followed rest takes current receiving wide empty => ?half,
    fun s c vals rest takes cls more => ?stored,
    fun s c value followed rest takes current => exec_rowOf_parameter takes current⟩, fun s busy => ?waits⟩
  case discarded =>
    rw [exec_parameterByte takes]
    exact congrArg _ (State.takeParameter_discarded value idle)
  case half =>
    rw [exec_parameterByte takes]
    exact congrArg _ (State.takeParameter_half value current receiving wide empty)
  case stored =>
    rw [← exec_parameter_more takes cls more]
    obtain ⟨current, -, value, followed, front, -⟩ := takes
    exact (exec_rowOf_parameter front current).symm
  case waits =>
    refine ⟨congrArg _ (s.decoderStep_busy _ busy), congrArg _ (s.decoderStep_busy _ busy), fun c => ?_⟩
    rw [exec_rowOf, State.commandStep, s.decoderStep_busy _ busy]

/-! ## A command byte (R162, R165 to R167) -/

section
variable {s : State} {code : Byte} {followed : Bool} {rest : List IntakeByte}

theorem exec_unknownCommand (takes : DecoderTakes s { line := .command, value := code, followed := followed } rest)
    (unknown : ∀ c : Command, code ≠ c.row.code) :
    exec .unknownCommand s = .next ((s.onPort (fun p => { p with intake := rest })).takeCommand code followed) :=
  congrArg Host.Outcome.next (State.decoderStep_takes takes (by simp [commandOf_eq_none code unknown]))

theorem exec_rowOf_command {c : Command} (own : code = c.row.code)
    (takes : DecoderTakes s { line := .command, value := code, followed := followed } rest) :
    exec (rowOf c) s = .next ((s.onPort (fun p => { p with intake := rest })).takeCommand code followed) := by
  rw [exec_rowOf]
  exact congrArg Host.Outcome.next (State.decoderStep_takes takes (by simp [State.ownByte, own]))

end

/-- Settles O7: nothing has to be ended, so the command byte begins its command, or is refused. -/
theorem commandByteTaken : Obligations.CommandByteTaken := by
  unfold Obligations.CommandByteTaken
  refine ⟨fun s c followed rest takes notStream wide => ?known, fun s code followed rest unknown takes idle => ?unknown⟩
  case known => rw [exec_rowOf, State.commandStep_code takes, if_neg notStream, if_neg wide]
  case unknown =>
    have nothing : (s.onPort (fun p => { p with intake := rest })).endCommand =
        s.onPort (fun p => { p with intake := rest }) := State.endCommand_idle _ idle
    simp only [exec_unknownCommand takes unknown, State.takeCommand, commandOf_eq_none code unknown, nothing]
    rfl

/-- R165 to R167: what ends a command leaves no trace in the port but in RESULT, once another has begun. -/
theorem State.beginCommand_endCommand {s : State} {d : Command} (current : s.port.current = .known d)
    (receiving : s.port.phase = .receiving) (rest : List IntakeByte) (cur : Current) (phase : Phase) (followed : Bool) :
    ((s.onPort (fun p => { p with intake := rest })).endCommand).beginCommand cur phase followed =
      (((endedBy s d).onPort (fun p => { p with intake := rest })).endCommand).beginCommand cur phase followed := by
  have ended : (endedBy s d).port.phase ≠ .receiving := by
    unfold endedBy
    cases d.row.cls
    all_goals exact fun completed => Phase.noConfusion completed
  have nothing : ((endedBy s d).onPort (fun p => { p with intake := rest })).endCommand =
      (endedBy s d).onPort (fun p => { p with intake := rest }) := State.endCommand_idle _ ended
  rw [nothing]
  simp only [State.endCommand, State.onPort_port, current, receiving, endedBy]
  cases d.row.cls
  all_goals rfl

theorem State.takeCommand_endedBy {s : State} {d : Command} (current : s.port.current = .known d)
    (receiving : s.port.phase = .receiving) (rest : List IntakeByte) (code : Byte) (followed : Bool) :
    (s.onPort (fun p => { p with intake := rest })).takeCommand code followed =
      ((endedBy s d).onPort (fun p => { p with intake := rest })).takeCommand code followed := by
  simp only [State.takeCommand, State.beginCommand_endCommand current receiving]

/-- The ended command leaves the decoder free and the queue as it was. -/
theorem decoderTakes_endedBy {s : State} {b : IntakeByte} {rest : List IntakeByte} (d : Command)
    (takes : DecoderTakes s b rest) : DecoderTakes (endedBy s d) b rest := by
  unfold endedBy
  cases d.row.cls
  all_goals exact takes

/-- R163: with an overrun recorded, the step is that of the state in which it has been treated. -/
theorem State.decodeByte_overrun {s : State} (lost : s.port.overrun = true) (b : IntakeByte) (rest : List IntakeByte) :
    s.decodeByte b rest = (overrunTreated s).decodeByte b rest := by
  have treated : (s.onPort (fun p => { p with intake := rest })).treatOverrun =
      (overrunTreated s).onPort (fun p => { p with intake := rest }) := if_pos lost
  have sound : ((overrunTreated s).onPort (fun p => { p with intake := rest })).treatOverrun =
      (overrunTreated s).onPort (fun p => { p with intake := rest }) := State.treatOverrun_none _ rfl
  rw [State.decodeByte, State.decodeByte, treated, sound]

theorem State.decoderStep_overrun {s : State} {b : IntakeByte} {rest : List IntakeByte} {own own' : IntakeByte → Bool}
    (idle : s.port.unit = none) (lost : s.port.overrun = true) (front : s.port.intake = b :: rest)
    (mine : own b = true) (mine' : own' b = true) :
    s.decoderStep own = (overrunTreated s).decoderStep own' := by
  have idle' : (overrunTreated s).port.unit = none := idle
  have front' : (overrunTreated s).port.intake = b :: rest := front
  simp only [State.decoderStep, idle, front, mine, idle', front', mine', if_true, State.decodeByte_overrun lost]

/-- Settles O8: the byte that follows an ended command, and the byte that follows an overrun. -/
theorem currentCommandEnds : Obligations.CurrentCommandEnds := by
  unfold Obligations.CurrentCommandEnds
  refine ⟨fun s d code followed rest takes current receiving => ⟨fun c own => ?known, fun unknown => ?unknown⟩,
    fun s b rest idle lost front => ⟨fun parameter => ?discarded, fun c command own => ?begun, fun command unknown => ?refused⟩⟩
  case known =>
    rw [exec_rowOf_command own takes, exec_rowOf_command own (decoderTakes_endedBy d takes),
      State.takeCommand_endedBy current receiving]
  case unknown =>
    rw [exec_unknownCommand takes unknown, exec_unknownCommand (decoderTakes_endedBy d takes) unknown,
      State.takeCommand_endedBy current receiving]
  case discarded =>
    have mine : (fun b : IntakeByte => decide (b.line = .parameter)) b = true := decide_eq_true parameter
    have taken : exec .parameterByte s = .next ((overrunTreated s).decoderStep fun b => decide (b.line = .parameter)) :=
      congrArg Host.Outcome.next (State.decoderStep_overrun idle lost front mine mine)
    have takes : DecoderTakes (overrunTreated s) b rest := ⟨idle, rfl, front⟩
    rw [taken, State.decoderStep_takes takes mine]
    simp only [parameter]
    rw [State.takeParameter_discarded b.value (.inl rfl)]
    rfl
  case begun =>
    have mine : ∀ t : State, t.ownByte c b = true := fun t => by simp [State.ownByte, command, own]
    rw [exec_rowOf, exec_rowOf]
    exact congrArg _ (State.decoderStep_overrun idle lost front (mine _) (mine _))
  case refused =>
    have mine : (fun b : IntakeByte => decide (b.line = .command) && (commandOf b.value).isNone) b = true := by
      simp [command, commandOf_eq_none b.value unknown]
    exact congrArg Host.Outcome.next (State.decoderStep_overrun idle lost front mine mine)

end Sys2Proof.Machine
end

section
/-! PROOFS. R169 to R180: the codes of the Command Port's replies, RESULT READ and STATUS READ, ACK and ATTN SETUP, and
the event flags bit by bit. -/

namespace Sys2Proof.Machine

open Sys2Proof.Safety

/-! ## The code tables (R154, R169, R170, R172, R174) -/

/-- R170: the command table is read from either end. -/
theorem commandOf_eq_some_iff (code : Byte) (c : Command) : commandOf code = some c ↔ code = c.row.code :=
  ⟨commandOf_eq_some, fun own => own ▸ commandOf_code c⟩

/-- Settles O6: each table is finite and is read off the definitions. -/
theorem codeTables : Obligations.CodeTables := by
  unfold Obligations.CodeTables
  refine ⟨by decide, commandOf_eq_some_iff, by decide, by decide, by decide, by decide, by decide, by decide, by decide,
    by decide, by decide, by decide, by decide, rfl, rfl, rfl, by decide, by decide, fun _ => rfl, fun _ _ => rfl⟩

/-! ## The event flags (R174, R175, R177) -/

/-- The place of a flag's bit (R174). -/
def EventFlag.bit (f : EventFlag) : Nat :=
  match f with
  | .doneReady => 0
  | .violation => 1
  | .worn => 2
  | .stall => 3
  | .contested => 4
  | .copyDone => 5
  | .cmdRefused => 6
  | .linkFault => 7

theorem EventFlag.mask_eq (f : EventFlag) : f.mask = BitVec.twoPow 8 f.bit := by cases f <;> rfl

theorem EventFlag.bit_lt (f : EventFlag) : f.bit < 8 := by cases f <;> decide

theorem EventFlag.bit_inj {f g : EventFlag} : f.bit = g.bit ↔ f = g := by cases f <;> cases g <;> decide

/-- R174: every bit of the flags' byte is a flag's. -/
theorem EventFlag.exists_bit {i : Nat} (inByte : i < 8) : ∃ f : EventFlag, f.bit = i := by
  have all : ∀ j : Fin 8, j.val ∈
      ([.doneReady, .violation, .worn, .stall, .contested, .copyDone, .cmdRefused, .linkFault] :
        List EventFlag).map EventFlag.bit := by decide
  obtain ⟨f, -, place⟩ := List.mem_map.1 (all ⟨i, inByte⟩)
  exact ⟨f, place⟩

theorem and_mask_eq_zero (x : Byte) (f : EventFlag) : x &&& f.mask = 0 ↔ x.getLsbD f.bit = false := by
  have one : BitVec.twoPow 8 f.bit ≠ 0 := by cases f <;> decide
  rw [EventFlag.mask_eq, BitVec.and_twoPow]
  cases x.getLsbD f.bit
  · simp
  · simpa using one

theorem Attention.isPending_eq (a : Attention) (f : EventFlag) : a.isPending f = a.flags.getLsbD f.bit := by
  have clear := and_mask_eq_zero a.flags f
  rw [Attention.isPending]
  cases set : a.flags.getLsbD f.bit
  · simpa using clear.2 set
  · simpa [set] using clear

/-- A byte is other than 0 exactly where it has a flag's bit. -/
theorem ne_zero_iff_exists_flag (x : Byte) : x ≠ 0 ↔ ∃ f : EventFlag, x.getLsbD f.bit = true := by
  refine ⟨fun some => ?_, fun ⟨f, set⟩ zero => by simp [zero] at set⟩
  by_contra none
  refine some (BitVec.eq_of_getLsbD_eq fun i inByte => ?_)
  obtain ⟨f, rfl⟩ := EventFlag.exists_bit inByte
  simpa using not_exists.1 none f

/-- R175: after a setting event each flag is pending that was, and the event's. -/
theorem Attention.raise_isPending (a : Attention) (f g : EventFlag) :
    (a.raise f).isPending g = (a.isPending g || decide (g = f)) := by
  by_cases pending : a.isPending f = true
  · rw [Attention.raise, if_pos pending]
    by_cases same : g = f
    · simp [same, pending]
    · simp [same]
  · rw [Attention.raise, if_neg pending, Attention.isPending_eq, Attention.isPending_eq, BitVec.getLsbD_or,
      EventFlag.mask_eq, BitVec.getLsbD_twoPow]
    simp [EventFlag.bit_inj, EventFlag.bit_lt, eq_comm]

/-- R177: a line is low exactly where some flag's bit is set in all that its level takes. -/
theorem line_low_iff (x y z : Byte) : (x &&& y &&& z != 0) = true ↔
    ∃ f : EventFlag, x.getLsbD f.bit = true ∧ y.getLsbD f.bit = true ∧ z.getLsbD f.bit = true := by
  rw [bne_iff_ne, ne_zero_iff_exists_flag]
  simp only [BitVec.getLsbD_and, Bool.and_eq_true, and_assoc]

/-- Settles O10: bit by bit. -/
theorem attentionFollowsFlags : Obligations.AttentionFollowsFlags := by
  unfold Obligations.AttentionFollowsFlags
  refine ⟨fun a f g => ⟨by simp [Attention.raise_isPending], fun other => by simp [Attention.raise_isPending, other],
    ?enable, ?level, ?snapshot⟩, fun a => ?high, fun a => ?low⟩
  case enable =>
    unfold Attention.raise
    split <;> rfl
  case level =>
    unfold Attention.raise
    split <;> rfl
  case snapshot =>
    unfold Attention.raise
    split <;> rfl
  case high =>
    rw [Attention.hiLow, line_low_iff]
    simp only [Attention.isPending_eq, ne_eq, and_mask_eq_zero, Bool.not_eq_false]
  case low =>
    rw [Attention.loLow, line_low_iff]
    simp only [Attention.isPending_eq, ne_eq, and_mask_eq_zero, Bool.not_eq_false, BitVec.getLsbD_not, EventFlag.bit_lt,
      decide_true, Bool.true_and, Bool.not_eq_true']

/-! ## Status and masks (R171, R176, R178, R179) -/

/-- R171: the head byte, flag by flag. -/
theorem State.headByte_eq (s : State) (h : HeadNo) : s.headByte h = BitVec.ofNat 8 ((s.head h).state.code +
    (if (s.head h).stepMode then 4 else 0) + (if (s.head h).inStepWait then 8 else 0) +
    (if (s.head h).worn then 16 else 0) + (if (s.monitor h).state = .stalled then 32 else 0)) := by
  simp only [State.headByte, byteOf, packBits, decide_eq_true_eq]
  congr 1
  split_ifs
  all_goals omega

/-- R171: the unit byte, flag by flag. -/
theorem State.unitByte_eq (s : State) : s.unitByte = BitVec.ofNat 8 ((if s.load.openTile.isSome then 1 else 0) +
    (if s.engine.job.isSome then 2 else 0) + (if s.hold.record.isSome then 4 else 0)) := by
  simp only [State.unitByte, byteOf, packBits]
  congr 1
  split_ifs
  all_goals omega

/-- R165: a setting command that is not at its last parameter. -/
theorem exec_setting_more {s : State} {c : Command} {vals : List Nat} {rest : List IntakeByte}
    (takes : TakesParameter s c vals rest) (setting : c.row.cls = .setting)
    (more : vals.length ≠ c.row.widths.length) :
    exec (rowOf c) s = .next ((tookParameter s .receiving vals rest).storeSetting c vals) := by
  have notStream : c.row.cls ≠ .stream := by simp [setting]
  rw [exec_rowOf, State.commandStep_parameter takes notStream, setting]
  exact congrArg _ (if_neg more)

/-- Settles O9: the reads at their command bytes, ACK at its one parameter, ATTN SETUP at each of its two. -/
theorem statusReadAckAndSetup : Obligations.StatusReadAckAndSetup := by
  unfold Obligations.StatusReadAckAndSetup
  refine ⟨⟨fun s followed rest takes => exec_parameterless takes (by decide) rfl, fun s followed rest takes => ?status⟩,
    fun s m rest takes => exec_action takes rfl rfl, fun s e rest takes => exec_setting_more takes rfl (by decide : 1 ≠ 2),
    fun s e l rest takes => exec_setting_last takes rfl rfl⟩
  case status =>
    intro headByte unitByte
    have acts : exec .statusRead s = .next (tookCode s .statusRead .complete followed rest).statusRead :=
      exec_parameterless takes (by decide) rfl
    have reply : s.statusReply = [s.attn.flags, s.port.result.code, BitVec.ofNat 8 s.freeSlots.length,
        BitVec.ofNat 8 s.done.length, unitByte] ++
        [headByte 0, headByte 1, headByte 2, headByte 3, headByte 4, headByte 5, headByte 6, headByte 7] := by
      simp only [State.statusReply, State.unitByte_eq, State.headByte_eq]
      rfl
    rw [acts, ← reply]
    rfl

end Sys2Proof.Machine
end

section
/-! PROOFS. R5 to R15: COPY SETUP, BAND BOUNDS, BAND SET and COPY QUERY. -/

namespace Sys2Proof.Machine

open Sys2Proof.Safety

@[simp] theorem copyOf_val (y : CopyNo) : copyOf y.val = some y := dif_pos y.isLt

theorem copyOf_eq_none {n : Nat} (great : 7 < n) : copyOf n = none := dif_neg (by omega)

theorem copyOf_isNone (n : Nat) : (copyOf n).isNone = true ↔ 7 < n := by
  refine ⟨fun none => ?_, fun great => by simp [copyOf_eq_none great]⟩
  by_contra small
  simp [copyOf, show n < 8 by omega] at none

theorem State.refuseSetting_took (s : State) (vals : List Nat) (rest : List IntakeByte) (r : ResultCode) :
    (tookParameter s .receiving vals rest).refuseSetting r = refusedWith (tookParameter s .refused vals rest) r := rfl

/-! ## COPY SETUP (R5, R6) -/

theorem State.completeSetting_refused (s : State) (vals : List Nat) (rest : List IntakeByte) (r : ResultCode) :
    (refusedWith (tookParameter s .refused vals rest) r).completeSetting =
      refusedWith (tookParameter s .refused vals rest) r := if_neg (fun receiving => Phase.noConfusion receiving)

/-- R5: a value of COPY SETUP past the copy byte. -/
theorem exec_copySetup_value {s : State} {y : CopyNo} {vals : List Nat} {rest : List IntakeByte} {f : CopyRecord → CopyRecord}
    (takes : TakesParameter s .copySetup (y.val :: vals) rest) (more : vals.length ≠ 5)
    (stores : ∀ t : State, t.storeCopySetup (y.val :: vals) = t.onCopy y f) :
    exec .copySetup s = .next { tookParameter s .receiving (y.val :: vals) rest with
      copies := Bank.put s.copies y (f (s.copy y)) } := by
  have unfinished : (y.val :: vals).length ≠ Command.copySetup.row.widths.length := by simpa [Command.row] using more
  have acts : exec .copySetup s =
      .next ((tookParameter s .receiving (y.val :: vals) rest).storeCopySetup (y.val :: vals)) :=
    exec_setting_more takes rfl unfinished
  rw [acts, stores]
  rfl

/-- Settles O13: the copy byte, the four tolerances, and the shared byte that R6 may refuse. -/
theorem copySetupStores : Obligations.CopySetupStores := by
  unfold Obligations.CopySetupStores
  refine ⟨fun s y rest takes great => ?bad, fun s y rest => ⟨fun takes => ?select, fun a b c d e => ⟨fun takes => ?rough,
    fun takes => ?fence, fun takes => ?finish, fun takes => ?above, fun takes => ?shared⟩⟩⟩
  case bad =>
    have acts : exec .copySetup s = .next ((tookParameter s .receiving [y] rest).copySetupSelect y) :=
      exec_setting_more takes rfl (by decide : 1 ≠ 6)
    rw [acts, State.copySetupSelect, copyOf_eq_none great]
    rfl
  case select =>
    have acts : exec .copySetup s = .next ((tookParameter s .receiving [y.val] rest).copySetupSelect y.val) :=
      exec_setting_more takes rfl (by decide : 1 ≠ 6)
    rw [acts, State.copySetupSelect, copyOf_val]
    exact ⟨fun tiles => congrArg _ (if_pos tiles), fun empty => congrArg _ (if_neg (Bool.eq_false_iff.1 empty))⟩
  case rough =>
    exact exec_copySetup_value (f := fun r => { r with roughAllow := a }) takes (by simp) fun t => by
      simp [State.storeCopySetup]
  case fence =>
    exact exec_copySetup_value (f := fun r => { r with fenceAllow := b }) takes (by simp) fun t => by
      simp [State.storeCopySetup]
  case finish =>
    exact exec_copySetup_value (f := fun r => { r with finishTol := min c 63 }) takes (by simp) fun t => by
      simp [State.storeCopySetup, Config.maxFinishTol]
  case above =>
    exact exec_copySetup_value (f := fun r => { r with overTol := d }) takes (by simp) fun t => by
      simp [State.storeCopySetup]
  case shared =>
    have stores : ∀ t : State, t.storeCopySetup [y.val, a, b, c, d, e] = t.copySetupShared y e :=
      fun t => by simp [State.storeCopySetup]
    have acts : exec .copySetup s = .next
        (((tookParameter s .receiving [y.val, a, b, c, d, e] rest).storeCopySetup [y.val, a, b, c, d, e]).completeSetting) :=
      exec_setting_last takes rfl rfl
    rw [acts, stores, State.copySetupShared]
    refine ⟨fun taken => ?_, fun allowed => ?_⟩
    · have refused : e = 0 ∧ ((tookParameter s .receiving [y.val, a, b, c, d, e] rest).copy y).shared = true ∧
          2 ≤ (tookParameter s .receiving [y.val, a, b, c, d, e] rest).boundHeads y := taken
      rw [if_pos refused, State.refuseSetting_took, State.completeSetting_refused]
    · have accepted : ¬(e = 0 ∧ ((tookParameter s .receiving [y.val, a, b, c, d, e] rest).copy y).shared = true ∧
          2 ≤ (tookParameter s .receiving [y.val, a, b, c, d, e] rest).boundHeads y) := allowed
      rw [if_neg accepted, State.completeSetting_receiving rfl]
      rfl

/-! ## BAND BOUNDS (R10, R11) -/

/-- R11: the i-th start row goes to band i, at least as far as band i - 1 starts. -/
theorem State.storeBandBounds_row (s : State) (y : CopyNo) {before : List Nat} (v : Nat) {i : Fin 7}
    (taken : before.length = i.val) : s.storeBandBounds (y.val :: (before ++ [v])) =
      s.onBand y i.succ (fun b => { b with start := max (min v 4095) (s.band y i.castSucc).start }) := by
  have band : Fin.ofNat 8 (before ++ [v]).length = i.succ := Fin.ext (by simp [Fin.ofNat, taken]; omega)
  have previous : Fin.ofNat 8 ((before ++ [v]).length - 1) = i.castSucc := Fin.ext (by simp [Fin.ofNat, taken]; omega)
  have last : (before ++ [v]).getLastD 0 = v := by simp [List.getLastD_eq_getLast?]
  obtain ⟨first, more, parts⟩ : ∃ first more, before ++ [v] = first :: more :=
    List.exists_cons_of_ne_nil (by simp)
  rw [parts] at band previous last ⊢
  simp only [State.storeBandBounds, copyOf_val, band, previous, last]
  rfl

/-- Settles O14: the copy byte, and each start row by its place. -/
theorem bandBoundsStores : Obligations.BandBoundsStores := by
  unfold Obligations.BandBoundsStores
  refine ⟨fun s y rest takes => ?select, fun s y before v i rest taken takes => ?row⟩
  case select =>
    have acts : exec .bandBounds s = .next (if (copyOf y).isNone
        then (tookParameter s .receiving [y] rest).refuseSetting .badArgument else tookParameter s .receiving [y] rest) :=
      exec_setting_more takes rfl (by decide : 1 ≠ 8)
    simp only [acts, copyOf_isNone, State.refuseSetting_took]
  case row =>
    intro row stored
    have length : (y.val :: (before ++ [v])).length = i.val + 2 := by simp [taken]
    by_cases seventh : i.val = 6
    · have acts : exec .bandBounds s = .next
          ((tookParameter s .receiving (y.val :: (before ++ [v])) rest).storeBandBounds
            (y.val :: (before ++ [v]))).completeSetting := exec_setting_last takes rfl (by rw [length, seventh]; rfl)
      rw [acts, State.storeBandBounds_row _ y v taken, State.completeSetting_receiving rfl, if_pos seventh]
      rfl
    · have unfinished : i.val + 2 ≠ 8 := by omega
      have acts : exec .bandBounds s = .next
          ((tookParameter s .receiving (y.val :: (before ++ [v])) rest).storeBandBounds (y.val :: (before ++ [v]))) :=
        exec_setting_more takes rfl (length ▸ unfinished)
      rw [acts, State.storeBandBounds_row _ y v taken, if_neg seventh]
      rfl

/-! ## BAND SET (R12, R13) -/

theorem clampStep_eq (p : Nat) : clampStep p = if p = 0 then 1 else if 1023 < p then 1023 else p := by
  simp only [clampStep, Config.maxStep]
  split_ifs
  all_goals omega

/-- R13: a value of BAND SET past the copy byte and the band byte. -/
theorem exec_bandSet_value {s : State} {y : CopyNo} {b : Fin 8} {vals : List Nat} {rest : List IntakeByte}
    {f : BandRecord → BandRecord} (takes : TakesParameter s .bandSet (y.val :: b.val :: vals) rest)
    (more : vals.length ≠ 4) (stores : ∀ t : State, t.storeBandSet (y.val :: b.val :: vals) = t.onBand y b f) :
    exec .bandSet s = .next { tookParameter s .receiving (y.val :: b.val :: vals) rest with
      bands := Bank.put s.bands y (Bank.put (Bank.at s.bands y) b (f (s.band y b))) } := by
  have unfinished : (y.val :: b.val :: vals).length ≠ Command.bandSet.row.widths.length := by
    simpa [Command.row] using more
  have acts : exec .bandSet s =
      .next ((tookParameter s .receiving (y.val :: b.val :: vals) rest).storeBandSet (y.val :: b.val :: vals)) :=
    exec_setting_more takes rfl unfinished
  rw [acts, stores]
  rfl

/-- Settles O15: the copy byte, the band byte, and each value of the band. -/
theorem bandSetStores : Obligations.BandSetStores := by
  unfold Obligations.BandSetStores
  refine ⟨fun s y rest takes => ?copy, fun s y b rest takes => ?band, fun s y b rest p k m d =>
    ⟨fun takes => ?step, fun takes => ?rate, fun takes => ?mode, fun takes => ?dwell⟩⟩
  case copy =>
    have acts : exec .bandSet s = .next (if (copyOf y).isNone
        then (tookParameter s .receiving [y] rest).refuseSetting .badArgument else tookParameter s .receiving [y] rest) :=
      exec_setting_more takes rfl (by decide : 1 ≠ 6)
    simp only [acts, copyOf_isNone, State.refuseSetting_took]
  case band =>
    have acts : exec .bandSet s = .next (if (copyOf b).isNone
        then (tookParameter s .receiving [y, b] rest).refuseSetting .badArgument
        else tookParameter s .receiving [y, b] rest) :=
      exec_setting_more takes rfl (by decide : 2 ≠ 6)
    simp only [acts, copyOf_isNone, State.refuseSetting_took]
  case step =>
    rw [← clampStep_eq]
    exact exec_bandSet_value (f := fun r => { r with stepMax := clampStep p }) takes (by simp) fun t => by
      simp [State.storeBandSet]
  case rate =>
    exact exec_bandSet_value (f := fun r => { r with wearRate := k }) takes (by simp) fun t => by
      simp [State.storeBandSet]
  case mode =>
    exact exec_bandSet_value (f := fun r => { r with dwellMode := dwellModeOf m }) takes (by simp) fun t => by
      simp [State.storeBandSet]
  case dwell =>
    have stores : ∀ t : State, t.storeBandSet [y.val, b.val, p, k, m, d] = t.onBand y b (fun r => { r with dwell := d }) :=
      fun t => by simp [State.storeBandSet]
    have acts : exec .bandSet s = .next
        (((tookParameter s .receiving [y.val, b.val, p, k, m, d] rest).storeBandSet [y.val, b.val, p, k, m, d]).completeSetting) :=
      exec_setting_last takes rfl rfl
    rw [acts, stores, State.completeSetting_receiving rfl]
    rfl

/-! ## COPY QUERY (R15, R172) -/

theorem boolByte_eq (b : Bool) : boolByte b = if b then 0x01 else 0x00 := rfl

theorem BandRecord.bytes_eq (b : BandRecord) : b.bytes = twoBytes b.start ++ twoBytes b.stepMax ++
    [byteOf b.wearRate, (match b.dwellMode with | .none => 0x00 | .fixed => 0x01 | .load => 0x02), byteOf b.dwell] := by
  rw [BandRecord.bytes]
  cases b.dwellMode <;> rfl

/-- A read refused at its last parameter empties the latch. -/
theorem State.refuseRead_eq (s : State) (r : ResultCode) : s.refuseRead r = refusedWith (withReply s []) r := rfl

/-- R167: a read latches its reply at the byte that completes its last parameter. -/
theorem exec_read {s : State} {c : Command} {vals : List Nat} {rest : List IntakeByte}
    (takes : TakesParameter s c vals rest) (read : c.row.cls = .read) (last : vals.length = c.row.widths.length) :
    exec (rowOf c) s = .next ((tookParameter s .complete vals rest).act c vals) := by
  have notStream : c.row.cls ≠ .stream := by simp [read]
  rw [exec_rowOf, State.commandStep_parameter takes notStream, read]
  exact congrArg _ (if_pos last)

/-- Settles O16: the reply is the copy record and the eight band records in order. -/
theorem copyQueryReplies : Obligations.CopyQueryReplies := by
  unfold Obligations.CopyQueryReplies
  refine ⟨fun s y rest takes great => ?bad, fun s y rest takes => ?reply⟩
  case bad =>
    have acts : exec .copyQuery s = .next ((tookParameter s .complete [y] rest).copyQuery y) := exec_read takes rfl rfl
    rw [acts, State.copyQuery, copyOf_eq_none great]
    rfl
  case reply =>
    intro c bandBytes bytes
    have acts : exec .copyQuery s = .next ((tookParameter s .complete [y.val] rest).copyQuery y.val) :=
      exec_read takes rfl rfl
    have reply : s.copyReply y = bytes := by
      simp only [State.copyReply, BandRecord.bytes_eq, boolByte_eq, allHeads, List.map_cons, List.map_nil,
        List.flatten_cons, List.flatten_nil, List.append_nil, List.append_assoc, bytes, bandBytes, c] <;> rfl
    refine ⟨by simp [bytes, bandBytes, twoBytes], ?_⟩
    rw [acts, State.copyQuery, copyOf_val, ← reply]
    rfl

end Sys2Proof.Machine
end

section
/-! PROOFS. R119 to R128, R134, R144: the host's head commands. First comes what a parked request's end does to the
state, wait by wait. -/

namespace Sys2Proof.Machine

open Sys2Proof.Safety

/-! ## A parked request ends (R61, R114, R129) -/

@[simp] theorem withHead_withHead (s : State) (h : HeadNo) (hu hu' : HeadUnit) :
    withHead (withHead s h hu) h hu' = withHead s h hu' := by
  simp [withHead]

theorem answered_loud {o : Outstanding} (loud : o.silent = false) (s : State) (h : HeadNo) (status : Status)
    (value dwell : Nat) : answered s h o status value dwell =
      sent (withHead s h { s.head h with outstanding := none }) h
        [{ tag := o.req.tag, status := status, value := value, dwell := dwell }] := by
  simp [answered, loud]

theorem HeadUnit.parked_some {hu : HeadUnit} {o : Outstanding} (present : hu.outstanding = some o) :
    hu.parked = decide (o.wait ≠ .inService) := by
  simp [HeadUnit.parked, present]

theorem HeadUnit.inService_some {hu : HeadUnit} {o : Outstanding} (present : hu.outstanding = some o) :
    hu.inService = decide (o.wait = .inService) := by
  simp [HeadUnit.inService, present]

section
variable {s : State} {h : HeadNo} {o : Outstanding}

theorem State.leaveWait_step (present : (s.head h).outstanding = some o) (step : o.wait = .step) :
    s.leaveWait h = s := by
  simp only [State.leaveWait, present, step]

theorem State.leaveWait_copy (present : (s.head h).outstanding = some o) (copy : o.wait = .copy) :
    s.leaveWait h = { s with engine := { s.engine with
      waiting := s.engine.waiting.filter (fun g => decide (g ≠ h)) } } := by
  simp only [State.leaveWait, present, copy]
  rfl

theorem State.leaveWait_claim {k : TileKey} (present : (s.head h).outstanding = some o) (claim : o.wait = .claim)
    (key : o.key = some k) : s.leaveWait h = { s with
      dir := s.dir.map (fun e =>
        if e.key = k then { e with waiters := e.waiters.filter (fun g => decide (g ≠ h)) } else e)
      claims := Bank.put s.claims h { s.claim h with timer := none } } := by
  simp only [State.leaveWait, present, claim, key]
  rfl

theorem State.endParked_idle (status : Status) (idle : (s.head h).parked = false) : s.endParked h status = s := by
  simp only [State.endParked, idle, Bool.false_eq_true, if_false]

theorem State.endParked_some (status : Status) (present : (s.head h).outstanding = some o) (parked : o.wait ≠ .inService) :
    s.endParked h status = answered (s.leaveWait h) h o status 0 0 := by
  have waits : (s.head h).parked = true := by simpa [HeadUnit.parked_some present] using parked
  have still : ((s.leaveWait h).head h).outstanding = some o := by rw [State.head, State.leaveWait_heads]; exact present
  rw [State.endParked, if_pos waits, State.endRequest_some still]

end

/-! ## The head that a command names (R119) -/

@[simp] theorem headOf_val (h : HeadNo) : headOf h.val = some h := dif_pos h.isLt

theorem headOf_eq_none {n : Nat} (great : 7 < n) : headOf n = none := dif_neg (by omega)

section
variable {s : State} {h : HeadNo} {f : State → HeadNo → State}

theorem State.onBoundHead_bad {head : Nat} (great : 7 < head) : s.onBoundHead head f = refusedWith s .badArgument := by
  simp only [State.onBoundHead, headOf_eq_none great, State.refuse_eq]

theorem State.onBoundHead_unbound (unbound : (s.head h).state = .unbound) :
    s.onBoundHead h.val f = refusedWith s .notBound := by
  simp only [State.onBoundHead, headOf_val, unbound, if_true, State.refuse_eq]

theorem State.onBoundHead_bound (bound : (s.head h).state ≠ .unbound) : s.onBoundHead h.val f = f s h := by
  simp only [State.onBoundHead, headOf_val, bound, if_false]

end

/-! ## HEAD BIND (R120, R138) -/

/-- R120: an unshared copy is taken by any other head bound to it. -/
theorem State.copyTaken_iff (s : State) (h : HeadNo) (y : CopyNo) : s.copyTaken h y = true ↔
    (s.copy y).shared = false ∧ ∃ g : HeadNo, g ≠ h ∧ (s.head g).boundCopy = some y := by
  have all : ∀ g : HeadNo, g ∈ allHeads := by decide
  simp [State.copyTaken, all]

/-- Settles O17: the checks of HEAD BIND in order. -/
theorem headBindSetsRecord : Obligations.HeadBindSetsRecord := by
  unfold Obligations.HeadBindSetsRecord
  intro s head copy cls limit n p0 hold rest takes took
  have acts : exec .headBind s = .next (took.headBind head copy cls limit n p0 hold) := exec_action takes rfl rfl
  rw [acts, State.headBind]
  refine ⟨fun bad => ?bad, ?named⟩
  case bad =>
    obtain bad | bad := bad
    · rw [headOf_eq_none bad]; rfl
    · rw [copyOf_eq_none bad]
      cases headOf head <;> rfl
  case named =>
    rintro h y rfl rfl taken
    simp only [headOf_val, copyOf_val]
    refine ⟨fun busy => congrArg _ (if_pos busy), fun unbound free used => ?taken, fun unbound free unused => ?bound⟩
    all_goals
      have idle : ¬((took.head h).state ≠ .unbound ∨ (took.head h).outstanding.isSome = true) := by
        rintro (bound | busy)
        · exact bound unbound
        · exact Bool.noConfusion (busy.symm.trans (congrArg Option.isSome free))
      rw [if_neg idle]
    · rw [if_pos ((took.copyTaken_iff h y).2 used)]
      rfl
    · rw [if_neg (mt (took.copyTaken_iff h y).1 unused)]
      rfl

/-! ## TOOL SET, SPINDLE SET, HEAD HALT (R123, R125, R144) -/

/-- Settles O19: both commands need a bound head. -/
theorem toolSetAndSpindleSet : Obligations.ToolSetAndSpindleSet := by
  unfold Obligations.ToolSetAndSpindleSet
  refine ⟨fun s head cls limit rest takes => ?tool, fun s head n p0 rest takes => ?spindle⟩
  case tool =>
    intro took
    have acts : exec .toolSet s = .next (took.toolSet head cls limit) := exec_action takes rfl rfl
    rw [acts, State.toolSet]
    refine ⟨fun great => by rw [State.onBoundHead_bad great], ?_⟩
    rintro h rfl
    refine ⟨fun unbound => ?_, fun bound => ?_⟩
    · rw [State.onBoundHead_unbound (s := took) unbound]
    · rw [State.onBoundHead_bound (s := took) bound]
      rfl
  case spindle =>
    intro took
    have acts : exec .spindleSet s = .next (took.spindleSet head n p0) := exec_action takes rfl rfl
    rw [acts, State.spindleSet]
    refine ⟨fun great => by rw [headOf_eq_none great]; rfl, ?_⟩
    rintro h rfl
    simp only [headOf_val]
    exact ⟨fun unbound => congrArg _ (if_pos unbound), fun bound => congrArg _ (if_neg bound)⟩

/-- Settles O20: the head is halted first, and then its parked request ends, by the list it is on. -/
theorem headHaltEndsParked : Obligations.HeadHaltEndsParked := by
  unfold Obligations.HeadHaltEndsParked
  intro s head rest takes took
  have acts : exec .headHalt s = .next (took.headHalt head) := exec_action takes rfl rfl
  rw [acts, State.headHalt]
  refine ⟨fun great => by rw [State.onBoundHead_bad great], ?_⟩
  rintro h rfl halted ended
  refine ⟨fun unbound => by rw [State.onBoundHead_unbound (s := took) unbound], fun bound => ?_⟩
  rw [State.onBoundHead_bound (s := took) bound]
  have record : took.onHead h (fun hu => { hu with state := .halted }) = halted := rfl
  have unit : halted.head h = { s.head h with state := .halted } := head_withHead took h _
  rw [record]
  refine ⟨fun idle => ?idle, fun o present loud => ?parked⟩
  case idle =>
    have rests : (halted.head h).parked = false := by rw [unit]; exact idle
    rw [State.endParked_idle _ rests, State.accept_eq]
  case parked =>
    have outstanding : (halted.head h).outstanding = some o := by rw [unit]; exact present
    refine ⟨fun step => ?_, fun copy => ?_, fun k claim key => ?_⟩
    · rw [State.endParked_some _ outstanding (by simp [step]), State.leaveWait_step outstanding step,
        answered_loud loud, unit, State.accept_eq]
      simp only [halted, ended, withHead_withHead, plain]
    · rw [State.endParked_some _ outstanding (by simp [copy]), State.leaveWait_copy outstanding copy,
        answered_loud loud, State.accept_eq]
      simp only [halted, ended, plain, withHead, State.head, Bank.put_put, Bank.at_put_same]
      rfl
    · rw [State.endParked_some _ outstanding (by simp [claim]), State.leaveWait_claim outstanding claim key,
        answered_loud loud, State.accept_eq]
      simp only [halted, ended, plain, withHead, State.head, Bank.put_put, Bank.at_put_same]
      rfl

/-! ## HEAD RESUME, STEP MODE, HEAD STEP (R126 to R128) -/

/-- R127: the setting byte lets a request go on exactly where step mode ends under it. -/
theorem State.setStepMode_eq (s : State) (h : HeadNo) (v : Nat) : s.setStepMode h (decide (v ≠ 0)) =
    (let stored := withHead s h { s.head h with stepMode := decide (v ≠ 0) }
     if (s.head h).stepMode = true ∧ v = 0 ∧ (s.head h).inStepWait = true
      then (stored.directoryStep h).settle h else stored) := by
  have condition : ((s.head h).stepMode && !decide (v ≠ 0) && (s.head h).inStepWait) = true ↔
      (s.head h).stepMode = true ∧ v = 0 ∧ (s.head h).inStepWait = true := by
    simp [and_assoc]
  by_cases ends : (s.head h).stepMode = true ∧ v = 0 ∧ (s.head h).inStepWait = true
  · simp only [State.setStepMode, if_pos (condition.2 ends), if_pos ends]
    rfl
  · simp only [State.setStepMode, if_neg (mt condition.1 ends), if_neg ends]
    rfl

/-- Settles O21: the head must be bound; STEP MODE stores its setting at its second byte. -/
theorem resumeAndStep : Obligations.ResumeAndStep := by
  unfold Obligations.ResumeAndStep
  refine ⟨fun s head rest takes => ?resume, fun s head rest takes => ?step, fun s head rest takes => ?select,
    fun s h v rest takes => ?store⟩
  case resume =>
    intro took
    have acts : exec .headResume s = .next (took.headResume head) := exec_action takes rfl rfl
    rw [acts, State.headResume]
    refine ⟨fun great => by rw [State.onBoundHead_bad great], ?_⟩
    rintro h rfl
    refine ⟨fun unbound => ?_, fun bound => ?_⟩
    · rw [State.onBoundHead_unbound (s := took) unbound]
    · rw [State.onBoundHead_bound (s := took) bound]
      rfl
  case step =>
    intro took
    have acts : exec .headStep s = .next (took.headStep head) := exec_action takes rfl rfl
    rw [acts, State.headStep]
    refine ⟨fun great => by rw [State.onBoundHead_bad great], ?_⟩
    rintro h rfl
    refine ⟨fun unbound => ?_, fun bound idle => ?_, fun bound waits => ?_⟩
    · rw [State.onBoundHead_unbound (s := took) unbound]
    · have rests : ¬(took.head h).inStepWait = true := Bool.eq_false_iff.1 idle
      rw [State.onBoundHead_bound (s := took) bound, if_neg rests, State.refuse_eq]
    · have stands : (took.head h).inStepWait = true := waits
      rw [State.onBoundHead_bound (s := took) bound, if_pos stands]
      rfl
  case select =>
    have acts : exec .stepMode s = .next ((tookParameter s .receiving [head] rest).storeStepMode [head]) :=
      exec_setting_more takes rfl (by decide : 1 ≠ 2)
    rw [acts, State.storeStepMode]
    refine ⟨fun great => by rw [headOf_eq_none great]; rfl, ?_⟩
    rintro h rfl
    simp only [headOf_val]
    exact ⟨fun unbound => congrArg _ (if_pos unbound), fun bound => congrArg _ (if_neg bound)⟩
  case store =>
    intro stored t
    have acts : exec .stepMode s = .next
        ((tookParameter s .receiving [h.val, v] rest).storeStepMode [h.val, v]).completeSetting :=
      exec_setting_last takes rfl rfl
    have stores : (tookParameter s .receiving [h.val, v] rest).storeStepMode [h.val, v] = t := by
      simp only [State.storeStepMode, headOf_val]
      exact State.setStepMode_eq _ h v
    have receiving : t.port.phase = .receiving := by
      simp only [t]
      split_ifs
      · rw [State.settle_port, State.directoryStep_port]
        rfl
      · rfl
    rw [acts, stores, State.completeSetting_receiving receiving]
    rfl

/-! ## HEAD QUERY (R134, R172) -/

theorem numberOrNone_eq (n : Option (Fin 8)) :
    numberOrNone n = match n with | some y => byteOf y.val | none => 0xFF := by
  cases n <;> rfl

theorem HeadState.code_eq (t : HeadState) : t.code = match t with | .unbound => 0 | .active => 1 | .halted => 2 := by
  cases t <;> rfl

theorem ToolClass.code_eq (t : ToolClass) : t.code = if t = .rough then 0x00 else 0x01 := by cases t <;> rfl

theorem MeasureState.code_eq (t : MeasureState) :
    t.code = match t with | .arming => 0x00 | .none => 0x01 | .valid => 0x02 | .stalled => 0x03 := by
  cases t <;> rfl

theorem claimBytes_eq (slots : List TileKey) (i : Nat) : claimBytes slots i = match slots[i]? with
    | some k => [byteOf k.copy.val] ++ twoBytes k.row.val ++ twoBytes k.col.val
    | none => [0x00, 0x00, 0x00, 0x00, 0x00] := by
  rw [claimBytes]
  cases slots[i]? <;> rfl

theorem outstandingBytes_eq (o : Option Outstanding) : outstandingBytes o = match o with
    | none => [0x00, 0x00, 0x00, 0x00, 0x00, 0x00, 0x00, 0x00]
    | some o => [0x01, (match o.req.kind with | .probe => 0x01 | .report => 0x02 | .release => 0x03), o.req.tag] ++
        twoBytes o.req.row ++ twoBytes o.req.col ++
        [match o.wait with | .inService => 0x00 | .step => 0x01 | .claim => 0x02 | .copy => 0x03] := by
  cases o with
  | none => rfl
  | some o =>
    have kind : o.req.kind.code = match o.req.kind with | .probe => 0x01 | .report => 0x02 | .release => 0x03 := by
      cases o.req.kind <;> rfl
    have wait : o.wait.code =
        match o.wait with | .inService => 0x00 | .step => 0x01 | .claim => 0x02 | .copy => 0x03 := by
      cases o.wait <;> rfl
    simp only [outstandingBytes, kind, wait]

@[simp] theorem twoBytes_length (n : Nat) : (twoBytes n).length = 2 := rfl

@[simp] theorem claimBytes_length (slots : List TileKey) (i : Nat) : (claimBytes slots i).length = 5 := by
  rw [claimBytes]
  cases slots[i]? <;> rfl

@[simp] theorem outstandingBytes_length (o : Option Outstanding) : (outstandingBytes o).length = 8 := by
  cases o <;> rfl

theorem State.headReply_length (s : State) (h : HeadNo) : (s.headReply h).length = 38 := by
  simp [State.headReply, threeBytes]

/-- Settles O22: the reply is the head's record, monitor, claims and requests in order. -/
theorem headQueryReplies : Obligations.HeadQueryReplies := by
  unfold Obligations.HeadQueryReplies
  refine ⟨fun s head rest takes great => ?bad, fun s h rest takes => ?reply⟩
  case bad =>
    have acts : exec .headQuery s = .next ((tookParameter s .complete [head] rest).headQuery head) :=
      exec_read takes rfl rfl
    rw [acts, State.headQuery, headOf_eq_none great]
    rfl
  case reply =>
    intro hu m slots keyOrZeros bytes
    have acts : exec .headQuery s = .next ((tookParameter s .complete [h.val] rest).headQuery h.val) :=
      exec_read takes rfl rfl
    have reply : s.headReply h = bytes := by
      simp only [State.headReply, HeadState.code_eq, boolByte_eq, numberOrNone_eq, ToolClass.code_eq,
        MeasureState.code_eq, claimBytes_eq, outstandingBytes_eq] <;> rfl
    refine ⟨reply ▸ s.headReply_length h, ?_⟩
    rw [acts, State.headQuery, headOf_val, ← reply]
    rfl

end Sys2Proof.Machine
end

section
/-! PROOFS. R110, R121: HEAD UNBIND. Its parts touch different parts of the state: the end of a parked request and the
buffer the head, its link and the lists; the releases the directory, the claims and the arbiter. -/

namespace Sys2Proof.Machine

open Sys2Proof.Safety

/-! ## What the end of a parked request leaves -/

theorem withHead_self (s : State) (h : HeadNo) : withHead s h (s.head h) = s :=
  congrArg (fun heads => { s with heads := heads }) (Bank.put_same s.heads h)

theorem sent_nil (s : State) (h : HeadNo) : sent s h [] = s := by
  rw [sent, List.append_nil]
  exact congrArg (fun links => { s with links := links }) (Bank.put_same s.links h)

theorem sent_sent (s : State) (h : HeadNo) (a b : List Answer) : sent (sent s h a) h b = sent s h (a ++ b) := by
  simp [sent, State.link]

/-- The answers that end a parked request with a status. -/
def HeadUnit.endAnswers (hu : HeadUnit) (status : Status) : List Answer :=
  if hu.parked then hu.outstanding.toList.map (fun o => plain o.req.tag status) else []

section
variable {s : State} {h : HeadNo}

theorem HeadUnit.exists_of_parked {hu : HeadUnit} (parked : hu.parked = true) :
    ∃ o, hu.outstanding = some o ∧ o.wait ≠ .inService := by
  cases outstanding : hu.outstanding with
  | none => simp [HeadUnit.parked, outstanding] at parked
  | some o => exact ⟨o, rfl, by simpa [HeadUnit.parked_some outstanding] using parked⟩

/-- A request that is answered when it ends. -/
def HeadUnit.Loud (hu : HeadUnit) : Prop := hu.parked = true → ∀ o, hu.outstanding = some o → o.silent = false

/-- R61, R114: the head loses its parked request, the link gains the answer, and the lists lose the head. -/
theorem State.endParked_eq (loud : (s.head h).Loud) (status : Status) : s.endParked h status =
    sent (withHead (if (s.head h).parked then s.leaveWait h else s) h { s.head h with
      outstanding := if (s.head h).parked then none else (s.head h).outstanding }) h
      ((s.head h).endAnswers status) := by
  cases parked : (s.head h).parked with
  | false =>
    simp only [State.endParked_idle status parked, HeadUnit.endAnswers, parked, Bool.false_eq_true, if_false, sent_nil]
    exact (withHead_self s h).symm
  | true =>
    obtain ⟨o, present, waits⟩ := HeadUnit.exists_of_parked parked
    have unit : (s.leaveWait h).head h = s.head h := by rw [State.head, State.leaveWait_heads]; rfl
    rw [State.endParked_some status present waits, answered_loud (loud parked o present)]
    simp only [HeadUnit.endAnswers, parked, present, if_true, unit, Option.toList_some, List.map_cons, List.map_nil]
    rfl

/-- R121: a buffered request is answered UNBOUND, and the buffer is empty. -/
theorem State.unbindBuffer_eq (s : State) (h : HeadNo) : s.unbindBuffer h =
    sent (withHead s h { s.head h with buffer := none }) h
      ((s.head h).buffer.toList.map (fun r => plain r.tag .unbound)) := by
  unfold State.unbindBuffer
  cases buffer : (s.head h).buffer with
  | none =>
    have same : withHead s h { s.head h with buffer := none } = s := buffer ▸ withHead_self s h
    simp only [Option.toList_none, List.map_nil, sent_nil, same]
  | some r => rfl

theorem State.leaveWait_slots (s : State) (h g : HeadNo) : ((s.leaveWait h).claim g).slots = (s.claim g).slots := by
  have stopped : ∀ t : State, t.claims = s.claims → ((t.stopTimer h).claim g).slots = (s.claim g).slots := by
    intro t same
    by_cases here : g = h
    · subst here
      simp [State.stopTimer, State.claim, same]
    · simp [State.stopTimer, State.claim, same, Bank.at_put_other _ _ _ _ here]
  unfold State.leaveWait
  split
  · rfl
  · split
    · rfl
    · rfl
    · rfl
    · split
      · exact stopped s rfl
      · exact stopped _ rfl

theorem State.leaveWait_engine (s : State) (h : HeadNo) : (s.leaveWait h).engine = { s.engine with
    waiting := if (s.head h).outstanding.map (fun o => o.wait) = some .copy
      then s.engine.waiting.filter (fun g => decide (g ≠ h)) else s.engine.waiting } := by
  unfold State.leaveWait
  cases outstanding : (s.head h).outstanding with
  | none => rfl
  | some o =>
    cases wait : o.wait with
    | inService => simp [wait]
    | step => simp [wait]
    | copy => simp [wait]
    | claim => cases key : o.key <;> simp [wait, key, State.stopTimer]

end

/-! ## What the releases leave of the head itself -/

/-- A head whose request is not parked is left as it is where its request goes to the arbiter. -/
theorem State.proceed_head_of_unparked {s : State} {h : HeadNo} (w : HeadNo) {hu : HeadUnit} (unit : s.head h = hu)
    (unparked : hu.parked = false) : (s.proceed w).head h = hu := by
  subst unit
  have heads : (s.proceed w).head h = (s.setWait w .inService).head h := by
    rw [State.proceed, State.head, State.present_heads]
    rfl
  rw [heads, State.setWait]
  by_cases here : h = w
  · subst here
    have still : (s.head h).outstanding.map (fun o => { o with wait := .inService }) = (s.head h).outstanding := by
      cases outstanding : (s.head h).outstanding with
      | none => rfl
      | some o =>
        have service : o.wait = .inService := by simpa [HeadUnit.parked_some outstanding] using unparked
        rw [Option.map_some, ← service]
    rw [State.head_onHead_same, still]
  · exact s.head_onHead_other here _

theorem State.releaseFrom_head_of_unparked (n : Nat) {s : State} {h : HeadNo} (g : HeadNo) (k : TileKey)
    (unparked : (s.head h).parked = false) : (s.releaseFrom n g k).head h = s.head h := by
  induction n generalizing s g k with
  | zero => rfl
  | succ n ih =>
    simp only [State.releaseFrom]
    split
    next => rfl
    next w rest _ =>
      split
      next oldest _ =>
        have inner := ih (s := (((s.dropClaim g k).onEntry k (fun e => { e with waiters := rest })).stopTimer w)) w oldest
          unparked
        exact State.proceed_head_of_unparked w inner unparked
      next => exact State.proceed_head_of_unparked w rfl unparked

theorem State.releaseAll_head_of_unparked {s : State} {h : HeadNo} (g : HeadNo) (ks : List TileKey)
    (unparked : (s.head h).parked = false) : (s.releaseAll g ks).head h = s.head h := by
  induction ks generalizing s with
  | nil => rfl
  | cons k ks ih =>
    have released : (s.release g k).head h = s.head h := State.releaseFrom_head_of_unparked 8 g k unparked
    exact (ih ((congrArg HeadUnit.parked released).trans unparked)).trans released

/-! ## HEAD UNBIND -/

/-- R121: the state before the releases. -/
def State.quieted (s : State) (h : HeadNo) : State := (s.endParked h .unbound).unbindBuffer h

/-- R121: what a quieted head's link has been given. -/
def HeadUnit.partingAnswers (hu : HeadUnit) : List Answer :=
  hu.endAnswers .unbound ++ hu.buffer.toList.map (fun r => plain r.tag .unbound)

/-- R121: a quieted head has neither a parked request nor a buffered one. -/
def HeadUnit.quiet (hu : HeadUnit) : HeadUnit :=
  { hu with outstanding := if hu.parked then none else hu.outstanding, buffer := none }

theorem HeadUnit.quiet_parked (hu : HeadUnit) : hu.quiet.parked = false := by
  cases parked : hu.parked with
  | false =>
    simp only [HeadUnit.quiet, parked, Bool.false_eq_true, if_false]
    exact parked
  | true =>
    simp only [HeadUnit.quiet, parked, if_true]
    rfl

section
variable {s : State} {h : HeadNo} (loud : (s.head h).Loud)
include loud

theorem State.quieted_eq : s.quieted h =
    sent (withHead (if (s.head h).parked then s.leaveWait h else s) h (s.head h).quiet) h (s.head h).partingAnswers := by
  have unit : (sent (withHead (if (s.head h).parked then s.leaveWait h else s) h { s.head h with
      outstanding := if (s.head h).parked then none else (s.head h).outstanding }) h
      ((s.head h).endAnswers .unbound)).head h = { s.head h with
        outstanding := if (s.head h).parked then none else (s.head h).outstanding } := head_withHead _ h _
  rw [State.quieted, State.endParked_eq loud, State.unbindBuffer_eq, unit]
  simp only [sent, withHead, State.link, State.head, Bank.put_put, Bank.at_put_same, HeadUnit.partingAnswers,
    HeadUnit.quiet, List.append_assoc]

theorem State.quieted_head : (s.quieted h).head h = (s.head h).quiet := by
  rw [State.quieted_eq loud]
  exact head_withHead _ h _

theorem State.quieted_links : (s.quieted h).links = (sent s h (s.head h).partingAnswers).links := by
  rw [State.quieted_eq loud]
  split_ifs
  · simp [sent, withHead, State.link]
  · rfl

theorem State.quieted_slots : ((s.quieted h).claim h).slots = (s.claim h).slots := by
  rw [State.quieted_eq loud]
  split_ifs
  · exact s.leaveWait_slots h h
  · rfl

theorem State.quieted_engine : (s.quieted h).engine = { s.engine with
    waiting := if (s.head h).parked = true ∧ (s.head h).outstanding.map (fun o => o.wait) = some .copy
      then s.engine.waiting.filter (fun g => decide (g ≠ h)) else s.engine.waiting } := by
  rw [State.quieted_eq loud]
  split_ifs with parked copy idle
  · exact (s.leaveWait_engine h).trans (by simp [copy.2])
  · exact (s.leaveWait_engine h).trans (by simp_all)
  · exact absurd idle.1 parked
  · rfl

/-- R121: the binding ends after the claims of the quieted head have been released. -/
theorem State.unbind_quieted : s.unbind h =
    ((((s.quieted h).releaseAll h (s.claim h).slots).stopTimer h).onMonitor h LoadMonitor.stopped).onHead h
      (fun hu => { hu with state := .unbound, boundCopy := none }) := by
  rw [← State.quieted_slots loud]
  rfl

theorem State.unbind_head : (s.unbind h).head h = { (s.head h).quiet with state := .unbound, boundCopy := none } := by
  have unit : (s.quieted h).head h = (s.head h).quiet := State.quieted_head loud
  have still : ((s.quieted h).releaseAll h (s.claim h).slots).head h = (s.head h).quiet :=
    (State.releaseAll_head_of_unparked h _ (unit ▸ (s.head h).quiet_parked)).trans unit
  rw [State.unbind_quieted loud, State.head_onHead_same]
  exact congrArg (fun hu : HeadUnit => { hu with state := .unbound, boundCopy := none }) still

theorem State.unbind_links : (s.unbind h).links = (sent s h (s.head h).partingAnswers).links := by
  rw [State.unbind_quieted loud]
  exact (State.releaseAll_links _ h _).trans (State.quieted_links loud)

theorem State.unbind_engine : (s.unbind h).engine = (s.quieted h).engine := by
  rw [State.unbind_quieted loud]
  exact State.releaseAll_engine _ h _

/-- R105, R121: the releases decide the directory, the claims, the arbiter and the other heads. -/
theorem State.unbind_released : (s.unbind h).dir = ((s.quieted h).releaseAll h (s.claim h).slots).dir ∧
    (s.unbind h).arb = ((s.quieted h).releaseAll h (s.claim h).slots).arb ∧
    (∀ g : HeadNo, g ≠ h → (s.unbind h).head g = ((s.quieted h).releaseAll h (s.claim h).slots).head g) ∧
    (s.unbind h).claims = Bank.put ((s.quieted h).releaseAll h (s.claim h).slots).claims h
      { ((s.quieted h).releaseAll h (s.claim h).slots).claim h with timer := none } := by
  rw [State.unbind_quieted loud]
  exact ⟨rfl, rfl, fun g other => State.head_onHead_other _ other _, rfl⟩

/-- R121: where the head has nothing parked and no claim, only its own registers and its link change. -/
theorem State.unbind_idle (idle : (s.head h).parked = false) (unclaimed : (s.claim h).slots = []) :
    s.unbind h = { sent (withHead s h { (s.head h).quiet with state := .unbound, boundCopy := none }) h
        (s.head h).partingAnswers with
      monitors := Bank.put s.monitors h (s.monitor h).stopped
      claims := Bank.put s.claims h { slots := [], timer := none } } := by
  rw [State.unbind_quieted loud, unclaimed, State.quieted_eq loud, idle, ← unclaimed]
  simp only [Bool.false_eq_true, if_false, State.releaseAll, unclaimed, List.foldl_nil, State.stopTimer, State.onClaim,
    State.onMonitor, State.onHead, sent, withHead, State.head, Bank.put_put, Bank.at_put_same]
  rw [← unclaimed]
  rfl

end

theorem State.unbind_monitors (s : State) (h : HeadNo) :
    (s.unbind h).monitors = Bank.put s.monitors h (s.monitor h).stopped := by
  obtain ⟨r, frame, eq⟩ := s.unbind_eq h
  have monitors : r.monitors = s.monitors := monitors_of_base frame
  rw [eq, State.onHead_monitors, State.onMonitor_monitors, State.monitor, State.monitor, monitors]

theorem State.unbind_attn (s : State) (h : HeadNo) : (s.unbind h).attn = s.attn := by
  have buffer : (s.quieted h).attn = s.attn := by
    rw [State.quieted, State.unbindBuffer_eq]
    exact s.endParked_attn h .unbound
  simp only [State.unbind, State.onHead_attn, State.onMonitor_attn, State.stopTimer_attn, State.releaseAll_attn]
  exact buffer

/-- R121: cells, tables, the Done Queue, the Load Unit and the hold have no part in it. -/
theorem State.unbind_fixed (s : State) (h : HeadNo) : (s.unbind h).port = s.port ∧ (s.unbind h).copies = s.copies ∧
    (s.unbind h).bands = s.bands ∧ (s.unbind h).store = s.store ∧ (s.unbind h).freeSlots = s.freeSlots ∧
    (s.unbind h).done = s.done ∧ (s.unbind h).load = s.load ∧ (s.unbind h).hold = s.hold ∧
    (s.unbind h).timebase = s.timebase := by
  obtain ⟨r, frame, eq⟩ := s.unbind_eq h
  rw [eq]
  exact ⟨(port_of_base frame :), (copies_of_base frame :), (bands_of_base frame :), (store_of_base frame :),
    (freeSlots_of_base frame :), (done_of_base frame :), (load_of_base frame :), (hold_of_base frame :),
    (timebase_of_base frame :)⟩

@[simp] theorem State.accept_head (s : State) (g : HeadNo) : s.accept.head g = s.head g := rfl

@[simp] theorem State.accept_claim (s : State) (g : HeadNo) : s.accept.claim g = s.claim g := rfl

/-- Settles O18: the head is quieted, its claims are released, and its monitor and its record follow. -/
theorem headUnbindEndsBinding : Obligations.HeadUnbindEndsBinding := by
  unfold Obligations.HeadUnbindEndsBinding
  intro s named rest takes took
  have acts : exec .headUnbind s = .next (took.headUnbind named) := exec_action takes rfl rfl
  rw [acts, State.headUnbind]
  refine ⟨fun great => by rw [headOf_eq_none great]; rfl, ?_⟩
  rintro h rfl hu unbound answers
  simp only [headOf_val]
  refine ⟨fun free => congrArg _ (if_pos free), fun bound loud => ?_⟩
  have loud : (took.head h).Loud := loud
  obtain ⟨port, copies, bands, store, freeSlots, done, load, hold, timebase⟩ := took.unbind_fixed h
  refine ⟨(took.unbind h).accept, congrArg _ (if_neg bound), ?unit, ?links, ?monitors, ?released, ?port, ?attn,
    (State.accept_copies _).trans copies, (State.accept_bands _).trans bands, (State.accept_store _).trans store,
    (State.accept_freeSlots _).trans freeSlots, (State.accept_done _).trans done, (State.accept_load _).trans load,
    (State.accept_hold _).trans hold, (State.accept_timebase _).trans timebase, ?engine, ?bare⟩
  case unit => exact (State.accept_head _ h).trans (State.unbind_head loud)
  case links =>
    have parting : (took.head h).partingAnswers = answers := rfl
    have link : (sent took h answers).links = (sent s h answers).links := rfl
    rw [State.accept_links, State.unbind_links loud, parting, link]
  case monitors => exact (State.accept_monitors _).trans (State.unbind_monitors took h)
  case released =>
    simp only [State.accept_dir, State.accept_arb, State.accept_head, State.accept_claims]
    exact State.unbind_released loud
  case port => exact congrArg (fun p : Port => { p with result := .ok }) port
  case attn => exact (State.accept_attn _).trans (took.unbind_attn h)
  case engine => exact (State.accept_engine _).trans ((State.unbind_engine loud).trans (State.quieted_engine loud))
  case bare =>
    intro unclaimed idle
    rw [State.unbind_idle loud idle unclaimed]
    rfl

end Sys2Proof.Machine
end

section
/-! PROOFS. R23 to R38: the commands on the Tile Directory: TILE OPEN, TILE RETIRE, TILE QUERY, NEXT DONE and TILE
DUPLICATE. -/

namespace Sys2Proof.Machine

open Sys2Proof.Safety

/-! ## Entries created and removed (R24, R26) -/

theorem State.createEntry_eq {s : State} {slot : Nat} {pool : List Nat} (free : s.freeSlots = slot :: pool) (k : TileKey)
    (state : TileState) : s.createEntry k state =
      { s with dir := s.dir ++ [Entry.fresh k slot state], freeSlots := pool } := by
  simp only [State.createEntry, free]

/-- R26: only a request that has presented the removed key is marked. -/
theorem HeadUnit.orphan_key (hu : HeadUnit) (k : TileKey) : hu.orphan (fun x => decide (x = k)) =
    { hu with outstanding := hu.outstanding.map (fun o => if o.key = some k then { o with orphaned := true } else o) } := by
  rcases hu with ⟨_, _, _, _, _, _, _, _, outstanding, _⟩
  rcases outstanding with _ | ⟨req, wait, key, orphaned, silent⟩
  · rfl
  · rcases key with _ | x
    · simp [HeadUnit.orphan]
    · by_cases here : x = k
      · simp [HeadUnit.orphan, here]
      · simp [HeadUnit.orphan, here]

/-- R23: with distinct keys, erasing the first entry of a key erases the only one. -/
theorem eraseP_key {dir : List Entry} (distinct : (dir.map (fun e => e.key)).Nodup) (k : TileKey) :
    dir.eraseP (fun x => decide (x.key = k)) = dir.filter (fun x => decide (x.key ≠ k)) := by
  induction dir with
  | nil => rfl
  | cons e rest ih =>
    rw [List.map_cons, List.nodup_cons] at distinct
    obtain ⟨fresh, tail⟩ := distinct
    by_cases here : e.key = k
    · have elsewhere : ∀ x ∈ rest, decide (x.key ≠ k) = true := by
        intro x listed
        rw [decide_eq_true_eq, ← here]
        exact fun same => fresh (List.mem_map.2 ⟨x, listed, same⟩)
      rw [List.eraseP_cons_of_pos (by simpa using here), List.filter_cons_of_neg (by simpa using here),
        List.filter_eq_self.2 elsewhere]
    · rw [List.eraseP_cons_of_neg (by simpa using here), List.filter_cons_of_pos (by simpa using here), ih tail]

theorem State.removeEntry_eq {s : State} {k : TileKey} {e : Entry} (distinct : KeysDistinct s)
    (resident : s.entry k = some e) : s.removeEntry k = { s with
      dir := s.dir.filter (fun x => decide (x.key ≠ k))
      freeSlots := e.slot :: s.freeSlots
      heads := s.heads.map (fun hu : HeadUnit => { hu with outstanding := hu.outstanding.map (fun o =>
        if o.key = some k then { o with orphaned := true } else o) }) } := by
  simp only [State.removeEntry, resident, eraseP_key distinct, HeadUnit.orphan_key]

/-! ## TILE OPEN (R3, R17, R27) -/

/-- The row of a store unit of the port that holds the grant runs it and ends it (R20, R21). -/
theorem exec_tileOpenUnit {s : State} {k : TileKey} (granted : PortUnitGranted s (.tileOpen k)) :
    exec .tileOpenUnit s = .next (endedPortUnit (s.tileOpenUnit k)) :=
  congrArg Host.Outcome.next (State.portUnitStep_granted granted rfl)

/-- R17: the unit blanks the slot. -/
theorem State.tileOpenUnit_eq {s : State} {k : TileKey} {e : Entry} (resident : s.entry k = some e) :
    s.tileOpenUnit k =
      withResult { s with store := s.store.updateCells e.slot cellIndices (fun _ _ => Cell.blank) } .ok := by
  simp only [State.tileOpenUnit, resident, State.accept_eq]
  rfl

section
variable {s : State} {k : TileKey}

theorem State.tileOpen_bad {copy row col : Nat} (bad : 7 < copy ∨ 511 < row ∨ 511 < col) :
    s.tileOpen copy row col = refusedWith s .badArgument := by
  simp only [State.tileOpen, keyOf_eq_none bad, State.refuse_eq]

theorem State.tileOpen_busy (opened : s.load.openTile.isSome = true) :
    s.tileOpen k.copy.val k.row.val k.col.val = refusedWith s .busy := by
  simp only [State.tileOpen, keyOf_key, opened, if_true, State.refuse_eq]

theorem State.tileOpen_duplicate (closed : s.load.openTile = none) (resident : s.entry k ≠ none) :
    s.tileOpen k.copy.val k.row.val k.col.val = refusedWith s .duplicateKey := by
  have present : (s.entry k).isSome = true := Option.isSome_iff_ne_none.2 resident
  simp only [State.tileOpen, keyOf_key, closed, Option.isSome_none, Bool.false_eq_true, if_false, present, if_true,
    State.refuse_eq]

theorem State.tileOpen_full (closed : s.load.openTile = none) (absent : s.entry k = none) (full : s.freeSlots = []) :
    s.tileOpen k.copy.val k.row.val k.col.val = refusedWith s .full := by
  simp only [State.tileOpen, keyOf_key, closed, absent, full, Option.isSome_none, Bool.false_eq_true, if_false,
    List.isEmpty_nil, if_true, State.refuse_eq]

theorem State.tileOpen_creates {slot : Nat} {pool : List Nat} (closed : s.load.openTile = none)
    (absent : s.entry k = none) (free : s.freeSlots = slot :: pool) :
    s.tileOpen k.copy.val k.row.val k.col.val = presentedUnit { s with
      dir := s.dir ++ [Entry.fresh k slot .filling]
      freeSlots := pool
      load := { LoadUnit.reset with openTile := some k } } (.tileOpen k) := by
  simp only [State.tileOpen, keyOf_key, closed, absent, Option.isSome_none, Bool.false_eq_true, if_false, free,
    List.isEmpty_cons, State.createEntry_eq free, State.requestUnit_eq]
  rfl

end

/-- Settles O23: the checks of TILE OPEN in order, and the blanking of the slot. -/
theorem tileOpenCreatesAndInitialises : Obligations.TileOpenCreatesAndInitialises := by
  unfold Obligations.TileOpenCreatesAndInitialises
  refine ⟨fun s y t u rest takes => ?command, fun s k e granted resident => ?unit⟩
  case command =>
    intro took
    have acts : exec .tileOpen s = .next (took.tileOpen y t u) := exec_action takes rfl rfl
    rw [acts]
    refine ⟨fun bad => congrArg _ (State.tileOpen_bad bad), ?_⟩
    rintro k rfl rfl rfl
    refine ⟨fun opened => congrArg _ (State.tileOpen_busy opened), fun closed present => ?_,
      fun closed absent full => congrArg _ (State.tileOpen_full closed (State.entry_eq_none.2 absent) full),
      fun slot pool closed absent free => congrArg _ (State.tileOpen_creates closed (State.entry_eq_none.2 absent) free)⟩
    obtain ⟨e, listed, key⟩ := present
    have resident : took.entry k ≠ none := fun absent => State.entry_eq_none.1 absent e listed key
    exact congrArg _ (State.tileOpen_duplicate closed resident)
  case unit =>
    refine ⟨s.store.updateCells e.slot cellIndices (fun _ _ => Cell.blank), ?_, fun c inTile => ?_, fun a outside => ?_⟩
    · rw [exec_tileOpenUnit granted, State.tileOpenUnit_eq resident]
    · exact Memory.read_updateCells_inside _ _ _ inTile
    · exact Memory.read_updateCells_outside _ _ _ outside

/-! ## TILE RETIRE (R36, R37) -/

/-- Settles O31: the checks of TILE RETIRE in order; a removal is that of R24 with what the state adds. -/
theorem tileRetireRemoves : Obligations.TileRetireRemoves := by
  unfold Obligations.TileRetireRemoves
  intro s y t u a rest takes took
  have acts : exec .tileRetire s = .next (took.tileRetire y t u a) := exec_action takes rfl rfl
  rw [acts]
  refine ⟨fun bad => by simp only [State.tileRetire, keyOf_eq_none bad, State.refuse_eq], ?_⟩
  rintro k rfl rfl rfl distinct
  refine ⟨fun absent => ?absent, fun e resident => ?present⟩
  case absent =>
    have absent : took.entry k = none := absent
    simp only [State.tileRetire, keyOf_key, absent, State.refuse_eq]
  case present =>
    intro removed
    have resident : took.entry k = some e := resident
    have removes : took.removeEntry k = removed := State.removeEntry_eq (s := took) distinct resident
    refine ⟨fun copying => ?_, fun live keep => ?_, fun live abandon owned => ?_, fun live abandon unowned => ?_,
      fun filling => ?_, fun done => ?_⟩
    · simp only [State.tileRetire, keyOf_key, resident, copying, State.refuse_eq]
    · simp only [State.tileRetire, keyOf_key, resident, live, keep, if_true, State.refuse_eq]
    · simp only [State.tileRetire, keyOf_key, resident, live, abandon, if_false, owned, if_true, State.refuse_eq]
    · simp only [State.tileRetire, keyOf_key, resident, removes, live, abandon, if_false, unowned, Option.isSome_none,
        Bool.false_eq_true, State.accept_eq]
    · simp only [State.tileRetire, keyOf_key, resident, removes, filling, State.accept_eq]
      rfl
    · simp only [State.tileRetire, keyOf_key, resident, removes, done, State.accept_eq]
      rfl

/-! ## TILE QUERY and NEXT DONE (R35, R38) -/

theorem TileState.code_eq (t : TileState) :
    t.code = match t with | .filling => 0x01 | .live => 0x02 | .done => 0x03 | .copying => 0x04 := by
  cases t <;> rfl

theorem Entry.queryReply_eq (e : Entry) : e.queryReply =
    [(match e.state with | .filling => 0x01 | .live => 0x02 | .done => 0x03 | .copying => 0x04),
      (match e.owner with | some h => byteOf h.val | none => 0xFF),
      byteOf e.waiters.length, byteOf e.remaining, byteOf e.overcut] := by
  rw [Entry.queryReply, TileState.code_eq, numberOrNone_eq] <;> rfl

/-- Settles O32: the reply is read off the entry; the oldest key leaves the queue. -/
theorem tileQueryAndNextDone : Obligations.TileQueryAndNextDone := by
  unfold Obligations.TileQueryAndNextDone
  refine ⟨fun s y t u rest takes => ?query, fun s followed rest takes => ?next⟩
  case query =>
    intro took
    have acts : exec .tileQuery s = .next (took.tileQuery y t u) := exec_read takes rfl rfl
    rw [acts, State.tileQuery]
    refine ⟨fun bad => by rw [keyOf_eq_none bad]; rfl, ?_⟩
    rintro k rfl rfl rfl
    simp only [keyOf_key]
    refine ⟨fun absent => ?_, fun e resident => ?_⟩
    · have absent : took.entry k = none := absent
      rw [absent]
      rfl
    · have resident : took.entry k = some e := resident
      rw [resident]
      exact congrArg (fun bytes => Host.Outcome.next (withResult (withReply took bytes) .ok)) e.queryReply_eq
  case next =>
    intro took
    have acts : exec .nextDone s = .next took.nextDone := exec_parameterless takes (by decide) rfl
    rw [acts, State.nextDone]
    refine ⟨fun empty => ?_, fun k keys e queue resident => ?_⟩
    · have empty : took.done = [] := empty
      rw [empty]
      rfl
    · have queue : took.done = k :: keys := queue
      have reply : took.nextDoneReply k = ([0x01, byteOf k.copy.val] : List Byte) ++ twoBytes k.row.val ++
          twoBytes k.col.val ++
          [(match e.state with | .filling => 0x01 | .live => 0x02 | .done => 0x03 | .copying => 0x04 : Byte)] := by
        have resident : took.entry k = some e := resident
        rw [State.nextDoneReply, resident, ← TileState.code_eq]
        rfl
      simp only [queue, reply] <;> rfl

/-! ## TILE DUPLICATE (R57, R58) -/

theorem State.tileDuplicate_bad (s : State) {copy row col dest : Nat}
    (bad : 7 < copy ∨ 511 < row ∨ 511 < col ∨ 7 < dest) :
    s.tileDuplicate copy row col dest = refusedWith s .badArgument := by
  obtain key | great : (7 < copy ∨ 511 < row ∨ 511 < col) ∨ 7 < dest := by omega
  · simp only [State.tileDuplicate, keyOf_eq_none key, State.refuse_eq]
  · rw [State.tileDuplicate, copyOf_eq_none great]
    cases keyOf copy row col <;> rfl

/-- R23: with distinct keys, what is made of a key's entry matters for that entry only. -/
theorem map_entry_congr {s : State} {k : TileKey} {e : Entry} (distinct : KeysDistinct s) (resident : s.entry k = some e)
    {f g : Entry → Entry} (same : f e = g e) :
    s.dir.map (fun x => if x.key = k then f x else x) = s.dir.map (fun x => if x.key = k then g x else x) := by
  obtain ⟨listed, key⟩ := State.entry_eq_some resident
  refine List.map_congr_left fun x other => ?_
  by_cases here : x.key = k
  · obtain rfl : x = e := List.inj_on_of_nodup_map distinct other listed (here.trans key.symm)
    rw [if_pos here, if_pos here, same]
  · rw [if_neg here, if_neg here]

/-- R58: the acceptance with a slot from the front of the pool. -/
theorem State.acceptDuplicate_eq {s : State} {slot : Nat} {pool : List Nat} {k j : TileKey} {e : Entry}
    (distinct : KeysDistinct s) (resident : s.entry k = some e) (free : s.freeSlots = slot :: pool) :
    s.acceptDuplicate k j = withResult { s with
      dir := s.dir.map (fun x => if x.key = k then { x with state := .copying, ret := some e.state } else x) ++
        [Entry.fresh j slot .copying]
      freeSlots := pool
      engine := { s.engine with job := some { source := k, dest := j }, next := 0 }
      arb := { s.arb with granted := if s.arb.granted.isNone then some .ce else s.arb.granted } } .ok := by
  have still : (s.onEntry k (fun e => { e with state := .copying, ret := some e.state })).freeSlots = slot :: pool := free
  have source := map_entry_congr distinct resident (f := fun x => { x with state := .copying, ret := some x.state })
    (g := fun x => { x with state := .copying, ret := some e.state }) rfl
  rw [State.acceptDuplicate, State.createEntry_eq still, State.present_eq, State.accept_eq, ← source]
  rfl

/-- Settles O34: the checks of TILE DUPLICATE in order, and its acceptance. -/
theorem tileDuplicateAccepts : Obligations.TileDuplicateAccepts := by
  unfold Obligations.TileDuplicateAccepts
  intro s y t u d rest takes took
  have acts : exec .tileDuplicate s = .next (took.tileDuplicate y t u d) := exec_action takes rfl rfl
  rw [acts]
  refine ⟨fun bad => congrArg _ (took.tileDuplicate_bad bad), ?_⟩
  rintro k dest rfl rfl rfl rfl j
  refine ⟨fun absent => ?absent, fun e resident => ?resident⟩
  case absent =>
    have absent : took.entry k = none := absent
    simp only [State.tileDuplicate, keyOf_key, copyOf_val, absent, State.refuse_eq]
  case resident =>
    have resident : took.entry k = some e := resident
    refine ⟨fun busy => ?busy, fun settled idle => ?settled⟩
    case busy =>
      simp only [State.tileDuplicate, keyOf_key, copyOf_val, resident, State.refuse_eq]
      obtain filling | copying | job := busy
      · rw [if_pos (.inl filling)]
      · rw [if_pos (.inr copying)]
      · have job : took.engine.job.isSome = true := job
        rw [if_pos job, ite_self]
    case settled =>
      have free : ¬(e.state = .filling ∨ e.state = .copying) := by
        obtain live | done := settled <;> simp [*]
      have idle : took.engine.job = none := idle
      refine ⟨fun taken => ?_, fun absent full => ?_, fun slot pool absent front distinct => ?_⟩
      · have taken : (took.entry j).isSome = true := taken
        simp only [State.tileDuplicate, keyOf_key, copyOf_val, resident, if_neg free, idle, Option.isSome_none,
          Bool.false_eq_true, if_false, State.refuse_eq]
        exact congrArg _ (if_pos taken)
      all_goals
        have absent : took.entry { k with copy := dest } = none := absent
      · have full : took.freeSlots = [] := full
        simp only [State.tileDuplicate, keyOf_key, copyOf_val, resident, if_neg free, idle, absent, full,
          Option.isSome_none, Bool.false_eq_true, if_false, List.isEmpty_nil, if_true, State.refuse_eq]
      · have front : took.freeSlots = slot :: pool := front
        simp only [State.tileDuplicate, keyOf_key, copyOf_val, resident, if_neg free, idle, absent, front,
          Option.isSome_none, Bool.false_eq_true, if_false, List.isEmpty_cons]
        rw [State.acceptDuplicate_eq (s := took) distinct resident front]
        rfl

end Sys2Proof.Machine
end

section
/-! PROOFS. R41 to R49, R54, R55: the Load Unit's window and pointer, the streams, FILL and TILE READ. -/

namespace Sys2Proof.Machine

open Sys2Proof.Safety

/-! ## The pointer's tour of the window (R45) -/

/-- The Load Unit with its pointer at row `i` and column `j` of the window. -/
def LoadUnit.pointAt (l : LoadUnit) (i j : Nat) : LoadUnit := { l with ptrRow := l.firstRow + i, ptrCol := l.firstCol + j }

section
variable {l : LoadUnit}

theorem LoadUnit.pointAt_home (row : l.ptrRow = l.firstRow) (col : l.ptrCol = l.firstCol) : l.pointAt 0 0 = l := by
  cases l
  cases row
  cases col
  rfl

theorem LoadUnit.advance_inRow {i j : Nat} (more : l.firstCol + j < l.lastCol) :
    (l.pointAt i j).advance = l.pointAt i (j + 1) := if_pos more

theorem LoadUnit.advance_toRow {i j : Nat} (last : l.firstCol + j = l.lastCol) (more : l.firstRow + i < l.lastRow) :
    (l.pointAt i j).advance = l.pointAt (i + 1) 0 := by
  have ended : ¬(l.pointAt i j).ptrCol < (l.pointAt i j).lastCol := by simp [LoadUnit.pointAt, last]
  exact (if_neg ended).trans (if_pos more)

theorem LoadUnit.advance_home {i j : Nat} (lastCol : l.firstCol + j = l.lastCol) (lastRow : l.firstRow + i = l.lastRow) :
    (l.pointAt i j).advance = l.pointAt 0 0 := by
  have rowEnded : ¬(l.pointAt i j).ptrCol < (l.pointAt i j).lastCol := by simp [LoadUnit.pointAt, lastCol]
  have ended : ¬(l.pointAt i j).ptrRow < (l.pointAt i j).lastRow := by simp [LoadUnit.pointAt, lastRow]
  exact (if_neg rowEnded).trans (if_neg ended)

theorem LoadUnit.advance_row {i j : Nat} (inRow : l.firstCol + j ≤ l.lastCol) :
    LoadUnit.advance^[j] (l.pointAt i 0) = l.pointAt i j := by
  induction j with
  | zero => rfl
  | succ j ih =>
    rw [Function.iterate_succ_apply', ih (by omega), LoadUnit.advance_inRow (by omega)]

theorem LoadUnit.advance_rows {i : Nat} (wide : l.firstCol ≤ l.lastCol) (inWindow : l.firstRow + i ≤ l.lastRow) :
    LoadUnit.advance^[i * (l.lastCol - l.firstCol + 1)] (l.pointAt 0 0) = l.pointAt i 0 := by
  induction i with
  | zero => rw [Nat.zero_mul]; rfl
  | succ i ih =>
    have step : (i + 1) * (l.lastCol - l.firstCol + 1) = ((l.lastCol - l.firstCol) + i * (l.lastCol - l.firstCol + 1)) + 1 := by
      ring
    rw [step, Function.iterate_succ_apply', Function.iterate_add_apply, ih (by omega),
      LoadUnit.advance_row (by omega), LoadUnit.advance_toRow (by omega) (by omega)]

end

/-- R43, R44: WINDOW stores an edge at each of its parameters. -/
theorem State.storeWindow_first {s : State} (v : Nat) (opened : s.load.openTile.isSome = true) :
    s.storeWindow [v] = s.onLoad (fun l => l.setFirstRow (clampEdge v)) := by
  simp [State.storeWindow, Option.isSome_iff_ne_none.1 opened]

/-- Settles O24: the edges one by one, and the pointer row by row. -/
theorem windowAndPointer : Obligations.WindowAndPointer := by
  unfold Obligations.WindowAndPointer
  refine ⟨fun s a b c d rest => ?window, fun l tall wide row col => ?tour⟩
  case window =>
    intro home
    refine ⟨fun takes => ?_, fun takes => exec_setting_more takes rfl (by decide : 2 ≠ 4),
      fun takes => exec_setting_more takes rfl (by decide : 3 ≠ 4), fun takes => exec_setting_last takes rfl rfl⟩
    have acts : exec .window s = .next ((tookParameter s .receiving [a] rest).storeWindow [a]) :=
      exec_setting_more takes rfl (by decide : 1 ≠ 4)
    rw [acts]
    refine ⟨fun closed => ?_, fun opened => congrArg _ (State.storeWindow_first a opened)⟩
    have closed : (tookParameter s .receiving [a] rest).load.openTile = none := closed
    simp only [State.storeWindow, closed, Option.isNone_none, if_true, State.refuseSetting_took]
  case tour =>
    intro rows cols
    have start : l = l.pointAt 0 0 := (LoadUnit.pointAt_home row col).symm
    have visit : ∀ i < rows, ∀ j < cols, LoadUnit.advance^[i * cols + j] l = l.pointAt i j := by
      intro i inWindow j inRow
      rw [start, Nat.add_comm, Function.iterate_add_apply]
      have rowsBefore : LoadUnit.advance^[i * cols] (l.pointAt 0 0) = l.pointAt i 0 :=
        LoadUnit.advance_rows wide (by omega)
      rw [rowsBefore, LoadUnit.advance_row (by omega), ← start]
    refine ⟨visit, ?_⟩
    have all : rows * cols = ((l.lastRow - l.firstRow) * cols + (l.lastCol - l.firstCol)) + 1 := by
      simp only [rows, cols]
      ring
    rw [all, Function.iterate_succ_apply', visit _ (by omega) _ (by omega),
      LoadUnit.advance_home (by omega) (by omega), ← start]

/-! ## The streams (R46 to R48) -/

theorem LoadUnit.advance_eq (l : LoadUnit) : l.advance =
    if l.ptrCol < l.lastCol then { l with ptrCol := l.ptrCol + 1 }
    else if l.ptrRow < l.lastRow then { l with ptrRow := l.ptrRow + 1, ptrCol := l.firstCol }
    else { l with ptrRow := l.firstRow, ptrCol := l.firstCol } := rfl

/-- R46, R47: a stream's unit writes the cell at the pointer. -/
theorem State.streamUnit_eq {s : State} {k : TileKey} {e : Entry} (opened : s.load.openTile = some k)
    (resident : s.entry k = some e) (f : Cell → Cell) : s.streamUnit f = { s with
      load := s.load.advance
      store := s.store.write (e.slot * 64 + (s.load.ptrRow * 8 + s.load.ptrCol))
        (f (s.store.read (e.slot * 64 + (s.load.ptrRow * 8 + s.load.ptrCol)))) } := by
  have found : s.openEntry = some e := by rw [State.openEntry, opened]; exact resident
  simp only [State.streamUnit, found]
  rfl

theorem State.streamValue_eq (s : State) {c : Command} (stream : c = .targetWrite ∨ c = .cutWrite) (v : Nat) :
    s.streamValue c v = presentedUnit s
      (if c = .targetWrite then .targetValue (min v 16383) else .cutValue (min v 16383)) := by
  obtain rfl | rfl := stream
  · exact State.requestUnit_eq s _
  · exact State.requestUnit_eq s _

/-- Settles O25: the command byte, a completed value, and the unit of a value. -/
theorem streamsWriteAtPointer : Obligations.StreamsWriteAtPointer := by
  unfold Obligations.StreamsWriteAtPointer
  refine ⟨fun s c followed rest stream takes => ?begins, fun s hi lo followed rest c stream current receiving half takes =>
    ?value, fun s k e d opened resident => ?unit⟩
  case begins =>
    have cls : c.row.cls = .stream := by obtain rfl | rfl := stream <;> rfl
    rw [exec_rowOf, State.commandStep_code takes, if_pos cls, State.startStream]
    cases opened : s.load.openTile with
    | none =>
      have closed : (tookCode s c .receiving followed rest).load.openTile.isNone = true := congrArg Option.isNone opened
      rw [if_pos closed, if_pos rfl]
      rfl
    | some k =>
      have still : ¬(tookCode s c .receiving followed rest).load.openTile.isNone = true := by
        rw [show (tookCode s c .receiving followed rest).load.openTile = some k from opened]
        exact Bool.noConfusion
      rw [if_neg still, if_neg (Option.some_ne_none k), State.accept_eq]
  case value =>
    intro v
    have cls : c.row.cls = .stream := by obtain rfl | rfl := stream <;> rfl
    have wide : c.nextWidth s.port.values.length = 2 := if_pos cls
    have completes : TakesParameter s c (s.port.values ++ [joinBytes hi lo]) rest :=
      ⟨current, receiving, lo, followed, takes, .inr ⟨wide, hi, half, rfl⟩⟩
    obtain ⟨w, values, stepped⟩ := State.commandStep_stream completes cls
    obtain rfl : joinBytes hi lo = w := by simpa using values
    rw [exec_rowOf, stepped, State.streamValue_eq _ stream]
    rfl
  case unit =>
    intro l moved a
    refine ⟨fun granted => ?_, fun granted => ?_⟩
    · have runs : exec .targetWriteValue s = .next (endedPortUnit (s.streamUnit fun c => { c with target := d })) :=
        congrArg _ (State.portUnitStep_granted granted rfl)
      rw [runs, State.streamUnit_eq opened resident]
      rfl
    · have runs : exec .cutWriteValue s = .next (endedPortUnit (s.streamUnit fun c => { c with cut := d })) :=
        congrArg _ (State.portUnitStep_granted granted rfl)
      rw [runs, State.streamUnit_eq opened resident]
      rfl

/-! ## FILL (R49) -/

/-- A change of some cells of a slot changes those cells. -/
theorem Memory.read_updateCells_listed (m : Memory) (slot : Nat) {listed : List Nat} (distinct : listed.Nodup)
    (f : Nat → Cell → Cell) {c : Nat} (here : c ∈ listed) :
    (m.updateCells slot listed f).read (slot * 64 + c) = f c (m.read (slot * 64 + c)) := by
  have found : listed.find? (fun i => decide (cellAddr slot i = slot * 64 + c)) = some c := by
    have only : ∀ i, decide (cellAddr slot i = slot * 64 + c) = decide (i = c) := by
      intro i
      simp [cellAddr, Config.cellsPerTile]
    simp only [only]
    rw [List.find?_eq_some_iff_append]
    obtain ⟨before, behind, rfl⟩ := List.append_of_mem here
    exact ⟨by simp, before, behind, rfl, fun i earlier => by
      have apart := (List.nodup_append.1 distinct).2.2 i earlier c (by simp)
      simpa using apart⟩
  rw [Memory.read_updateCells _ _ _ _ distinct, found]

/-- A change of some cells of a slot changes no other cell. -/
theorem Memory.read_updateCells_unlisted (m : Memory) (slot : Nat) {listed : List Nat} (distinct : listed.Nodup)
    (f : Nat → Cell → Cell) {a : Nat} (elsewhere : ∀ c ∈ listed, a ≠ slot * 64 + c) :
    (m.updateCells slot listed f).read a = m.read a := by
  have nowhere : listed.find? (fun i => decide (cellAddr slot i = a)) = none :=
    List.find?_eq_none.2 fun c here met => elsewhere c here (of_decide_eq_true met).symm
  rw [Memory.read_updateCells _ _ _ _ distinct, nowhere]

theorem LoadUnit.inWindow_iff (l : LoadUnit) (c : Nat) : l.inWindow c = true ↔
    l.firstRow ≤ c / 8 ∧ c / 8 ≤ l.lastRow ∧ l.firstCol ≤ c % 8 ∧ c % 8 ≤ l.lastCol := by
  simp [LoadUnit.inWindow, and_assoc]

/-- The Tile Store after a window of a slot has been filled (R49). -/
def filledStore (m : Memory) (slot : Nat) (l : LoadUnit) (d : Nat) : Memory :=
  m.updateCells slot (cellIndices.filter l.inWindow) (fun _ c => { c with target := d })

theorem mem_window {l : LoadUnit} {c : Nat} : c ∈ cellIndices.filter l.inWindow ↔ c < 64 ∧ l.inWindow c = true := by
  rw [List.mem_filter, mem_cellIndices]

theorem State.fillUnit_eq {s : State} {k : TileKey} {e : Entry} (opened : s.load.openTile = some k)
    (resident : s.entry k = some e) (d : Nat) : s.fillUnit d = withResult { s with
      store := filledStore s.store e.slot s.load d
      load := { s.load with ptrRow := s.load.firstRow, ptrCol := s.load.firstCol } } .ok := by
  have found : s.openEntry = some e := by rw [State.openEntry, opened]; exact resident
  simp only [State.fillUnit, found, State.accept_eq, State.onCells, filledStore]
  rfl

/-- Settles O26: the command by the open tile, the unit by the cells of the window. -/
theorem fillWritesWindow : Obligations.FillWritesWindow := by
  unfold Obligations.FillWritesWindow
  refine ⟨fun s d rest takes => ?command, fun s k e d opened resident granted => ?unit⟩
  case command =>
    have acts : exec .fill s = .next ((tookParameter s .complete [d] rest).fill d) := exec_action takes rfl rfl
    rw [acts, State.fill, State.requestUnit_eq]
    cases opened : s.load.openTile with
    | none =>
      have closed : (tookParameter s .complete [d] rest).load.openTile.isNone = true := congrArg Option.isNone opened
      rw [if_pos closed, if_pos rfl, State.refuse_eq]
    | some k =>
      have still : ¬(tookParameter s .complete [d] rest).load.openTile.isNone = true := by
        rw [show (tookParameter s .complete [d] rest).load.openTile = some k from opened]
        exact Bool.noConfusion
      rw [if_neg still, if_neg (Option.some_ne_none k)]
      rfl
  case unit =>
    intro inside
    have runs : exec .fillUnit s = .next (endedPortUnit (s.fillUnit d)) :=
      congrArg _ (State.portUnitStep_granted granted rfl)
    have distinct : (cellIndices.filter s.load.inWindow).Nodup := cellIndices_nodup.filter _
    refine ⟨filledStore s.store e.slot s.load d, ?_, fun c inTile within => ?_, fun a outside => ?_⟩
    · rw [runs, State.fillUnit_eq opened resident]
    · exact Memory.read_updateCells_listed _ _ distinct _ (mem_window.2 ⟨inTile, (s.load.inWindow_iff c).2 within⟩)
    · refine Memory.read_updateCells_unlisted _ _ distinct _ fun c here => ?_
      obtain ⟨inTile, within⟩ := mem_window.1 here
      exact outside c inTile ((s.load.inWindow_iff c).1 within)

/-! ## TILE READ (R54, R55) -/

/-- Two bytes an item, read back item by item. -/
theorem getD_flatten_pairs {α : Type} (items : List α) (hi lo : α → Byte) {c : Nat} (inList : c < items.length) :
    ((items.map (fun x => [hi x, lo x])).flatten).getD (2 * c) 0 = hi items[c] ∧
      ((items.map (fun x => [hi x, lo x])).flatten).getD (2 * c + 1) 0 = lo items[c] := by
  induction items generalizing c with
  | nil => exact absurd inList (Nat.not_lt_zero c)
  | cons x rest ih =>
    cases c with
    | zero => exact ⟨rfl, rfl⟩
    | succ c => exact ih (Nat.lt_of_succ_lt_succ inList)

/-- R55: the flag of index `i` is in bit `i`. -/
theorem testBit_packBits (bits : List Bool) (i : Nat) : (packBits bits).testBit i = bits.getD i false := by
  induction bits generalizing i with
  | nil => simp [packBits]
  | cons b rest ih =>
    cases i with
    | zero => cases b <;> simp [packBits, Nat.testBit_zero, Nat.add_mod]
    | succ i =>
      have half : ((if b then 1 else 0) + 2 * packBits rest) / 2 = packBits rest := by
        cases b <;> simp
        omega
      rw [packBits, Nat.testBit_succ, half, ih]
      rfl

/-- R55: row byte `r` holds the flags of row `r`, column `c` in bit `c`. -/
theorem getLsbD_flagRows {cells : List Cell} (tile : cells.length = 64) (flag : Cell → Bool) {r c : Nat} (row : r < 8)
    (col : c < 8) : ((flagRows cells flag).getD r 0).getLsbD c = flag (cells[r * 8 + c]'(by omega)) := by
  have byte : (flagRows cells flag).getD r 0 = byteOf (packBits (((cells.drop (8 * r)).take 8).map flag)) := by
    simp [flagRows, List.getD_eq_getElem?_getD, row]
  have listed : cells[r * 8 + c]? = some (cells[r * 8 + c]'(by omega)) := List.getElem?_eq_getElem _
  rw [byte, byteOf, BitVec.getLsbD_ofNat, testBit_packBits]
  simp [col, List.getD_eq_getElem?_getD, Nat.mul_comm, listed]

@[simp] theorem flagRows_length (cells : List Cell) (flag : Cell → Bool) : (flagRows cells flag).length = 8 := by
  simp [flagRows]

/-- R55: the 64 cells of an entry's slot in order. -/
def State.tileCells (s : State) (e : Entry) : List Cell := cellIndices.map (fun c => s.cell e c)

theorem State.tileCells_length (s : State) (e : Entry) : (s.tileCells e).length = 64 := by
  simp [State.tileCells, cellIndices, Config.cellsPerTile]

theorem State.tileCells_getElem (s : State) (e : Entry) {c : Nat} (inTile : c < (s.tileCells e).length) :
    (s.tileCells e)[c] = s.store.read (e.slot * 64 + c) := by
  simp [State.tileCells, cellIndices, State.cell, cellAddr, Config.cellsPerTile]

/-- R55: a depth field of 64 cells is 128 bytes. -/
theorem depthBytes_length (cells : List Cell) (field : Cell → Nat) :
    ((cells.map (fun c => twoBytes (field c))).flatten).length = 2 * cells.length := by
  induction cells with
  | nil => rfl
  | cons c rest ih =>
    rw [List.map_cons, List.flatten_cons, List.length_append, ih, twoBytes_length, List.length_cons]
    omega

section
variable {s : State} {k : TileKey}

theorem State.tileRead_bad {copy row col field : Nat} (bad : 7 < copy ∨ 511 < row ∨ 511 < col ∨ 2 < field) :
    s.tileRead copy row col field = refusedWith (withReply s []) .badArgument := by
  obtain key | great : (7 < copy ∨ 511 < row ∨ 511 < col) ∨ 2 < field := by omega
  · simp only [State.tileRead, keyOf_eq_none key, State.refuseRead_eq]
  · rw [State.tileRead]
    cases keyOf copy row col with
    | none => rfl
    | some _ => exact if_pos great

theorem State.tileRead_key {field : Nat} (known : field ≤ 2) :
    s.tileRead k.copy.val k.row.val k.col.val field =
      if s.entry k = none then refusedWith (withReply s []) .notFound else presentedUnit s (.tileRead k field) := by
  simp only [State.tileRead, keyOf_key, Nat.not_lt.2 known, if_false, Option.isNone_iff_eq_none, State.refuseRead_eq,
    State.requestUnit_eq]

end

/-- Settles O33: the checks of TILE READ, and the reply field by field. -/
theorem tileReadSnapshots : Obligations.TileReadSnapshots := by
  unfold Obligations.TileReadSnapshots
  refine ⟨fun s y t u f rest takes => ?command, fun s k f e granted resident known => ?unit⟩
  case command =>
    intro took
    have acts : exec .tileRead s = .next (took.tileRead y t u f) := exec_read takes rfl rfl
    rw [acts]
    refine ⟨fun bad => congrArg _ (State.tileRead_bad bad), ?_⟩
    rintro k rfl rfl rfl known
    exact congrArg _ (State.tileRead_key (s := took) known)
  case unit =>
    have runs : exec .tileReadUnit s = .next (endedPortUnit (s.tileReadUnit k f)) :=
      congrArg _ (State.portUnitStep_granted granted rfl)
    rw [runs, State.tileReadUnit, resident]
    refine ⟨fun copying => congrArg (fun t => Host.Outcome.next (endedPortUnit t)) (if_pos copying), fun free =>
      ⟨s.tileReadReply e f, congrArg (fun t => Host.Outcome.next (endedPortUnit t)) (if_neg free), ?_⟩⟩
    have length := s.tileCells_length e
    have depths : ∀ field : Cell → Nat, ∀ c < 64,
        (((s.tileCells e).map (fun x => twoBytes (field x))).flatten).getD (2 * c) 0 =
            byteOf (field (s.store.read (e.slot * 64 + c)) / 256) ∧
          (((s.tileCells e).map (fun x => twoBytes (field x))).flatten).getD (2 * c + 1) 0 =
            byteOf (field (s.store.read (e.slot * 64 + c))) := by
      intro field c inTile
      have listed : c < (s.tileCells e).length := length ▸ inTile
      rw [← s.tileCells_getElem e listed]
      exact getD_flatten_pairs _ (fun x => byteOf (field x / 256)) (fun x => byteOf (field x)) listed
    intro cell
    refine ⟨?_, ?_, ?_⟩
    · rintro rfl
      exact ⟨by rw [State.tileReadReply]; exact (depthBytes_length _ _).trans (congrArg _ length), depths Cell.target⟩
    · rintro rfl
      exact ⟨by rw [State.tileReadReply]; exact (depthBytes_length _ _).trans (congrArg _ length), depths Cell.cut⟩
    · rintro rfl
      have reply : s.tileReadReply e 2 = flagRows (s.tileCells e) Cell.fence ++ flagRows (s.tileCells e) Cell.overcut := rfl
      rw [reply]
      refine ⟨by simp, fun r row c col => ⟨?_, ?_⟩⟩
      · rw [List.getD_append _ _ _ _ (by simpa using row), getLsbD_flagRows length _ row col, s.tileCells_getElem e]
      · rw [List.getD_append_right _ _ _ _ (by simp), flagRows_length, Nat.add_sub_cancel_left,
          getLsbD_flagRows length _ row col, s.tileCells_getElem e]

end Sys2Proof.Machine
end

section
/-! PROOFS. R28, R30 to R32, R52, R53, R107: what follows where an entry enters or leaves DONE, and the two units that
count, TILE SEAL's and TILE EDIT's. -/

namespace Sys2Proof.Machine

open Sys2Proof.Safety

/-! ## Entering DONE (R31, R107) -/

@[simp] theorem Bank.at_ofFn {α : Type} (f : Fin 8 → α) (i : Fin 8) : Bank.at (Vector.ofFn f : Bank α) i = f i := by
  simp [Bank.at]

theorem Bank.ofFn_at {α : Type} (b : Bank α) : (Vector.ofFn (fun i => Bank.at b i) : Bank α) = b :=
  Bank.ext fun i => by simp

theorem Bank.put_eq_ofFn {α : Type} (b : Bank α) (i : Fin 8) (x : α) :
    Bank.put b i x = Vector.ofFn (fun j => if j = i then x else Bank.at b j) :=
  Bank.ext fun j => by rw [Bank.at_put, Bank.at_ofFn]

/-- R107: served waiters have their timers stopped and their requests in service; the first of them is granted a free
store. -/
theorem State.serveWaiters_eq (s : State) (waiters : List HeadNo) : s.serveWaiters waiters = { s with
    arb := { s.arb with
      granted := if s.arb.granted.isNone then waiters.head?.map Requester.hu else s.arb.granted }
    claims := Vector.ofFn (fun h : HeadNo =>
      { slots := (s.claim h).slots, timer := if h ∈ waiters then none else (s.claim h).timer })
    heads := Vector.ofFn (fun h : HeadNo => if h ∈ waiters then { s.head h with
      outstanding := (s.head h).outstanding.map (fun o => { o with wait := .inService }) } else s.head h) } := by
  induction waiters generalizing s with
  | nil =>
    have arb : (if s.arb.granted.isNone then none else s.arb.granted) = s.arb.granted := by
      cases s.arb.granted <;> rfl
    have claims : (Vector.ofFn (fun h : HeadNo => s.claim h) : Bank ClaimUnit) = s.claims := Bank.ofFn_at _
    have heads : (Vector.ofFn (fun h : HeadNo => s.head h) : Bank HeadUnit) = s.heads := Bank.ofFn_at _
    simp only [List.head?_nil, Option.map_none, arb, List.not_mem_nil, if_false, heads]
    exact (congrArg (fun c => { s with claims := c }) claims).symm
  | cons w rest ih =>
    have served : s.serveWaiters (w :: rest) = (onItsWay (s.stopTimer w) w).serveWaiters rest := by
      rw [← State.proceed_eq]
      rfl
    have unit : ∀ h, (onItsWay (s.stopTimer w) w).head h = if h = w then { s.head w with
        outstanding := (s.head w).outstanding.map (fun o => { o with wait := .inService }) } else s.head h :=
      fun h => Bank.at_put _ _ _ _
    have claim : ∀ h, (onItsWay (s.stopTimer w) w).claim h = if h = w then { s.claim w with timer := none } else s.claim h :=
      fun h => Bank.at_put _ _ _ _
    rw [served, ih]
    simp only [unit, claim]
    congr 1
    · cases free : s.arb.granted <;> simp [onItsWay, withHead, State.stopTimer, free]
    · refine Bank.ext fun h => ?_
      by_cases here : h = w
      · subst here
        simp
      · simp [here]
    · refine Bank.ext fun h => ?_
      by_cases here : h = w
      · subst here
        by_cases listed : h ∈ rest <;> simp [listed, Function.comp_def]
      · simp [here]

theorem State.ownerOf_some {s : State} {k : TileKey} {e : Entry} (resident : s.entry k = some e) : s.ownerOf k = e.owner := by
  simp [State.ownerOf, resident]

theorem State.waitersOf_some {s : State} {k : TileKey} {e : Entry} (resident : s.entry k = some e) :
    s.waitersOf k = e.waiters := by
  simp [State.waitersOf, resident]

/-- R31, R107: a tile's claim and its waiters are let go. -/
def State.letGo (s : State) (k : TileKey) (e : Entry) : State := { s with
  dir := s.dir.map (fun x => if x.key = k then { x with owner := none, waiters := [] } else x)
  arb := { s.arb with
    granted := if s.arb.granted.isNone then e.waiters.head?.map Requester.hu else s.arb.granted }
  claims := Vector.ofFn (fun h : HeadNo =>
    { slots := if e.owner = some h then (s.claim h).slots.filter (fun x => decide (x ≠ k)) else (s.claim h).slots
      timer := if h ∈ e.waiters then none else (s.claim h).timer })
  heads := Vector.ofFn (fun h : HeadNo => if h ∈ e.waiters then { s.head h with
    outstanding := (s.head h).outstanding.map (fun o => { o with wait := .inService }) } else s.head h) }

theorem State.enterDone_eq {s : State} {k : TileKey} {e : Entry} (distinct : KeysDistinct s)
    (resident : s.entry k = some e) : s.enterDone k =
      ({ s with done := s.done ++ [k], attn := s.attn.raise .doneReady } : State).letGo k e := by
  have marked : ({ s with done := s.done ++ [k] }.raise .doneReady).ownerOf k = e.owner := State.ownerOf_some resident
  cases owner : e.owner with
  | none =>
    have waiters : ({ s with done := s.done ++ [k] }.raise .doneReady).waitersOf k = e.waiters :=
      State.waitersOf_some resident
    have dir := map_entry_congr distinct resident (f := fun x => { x with waiters := [] })
      (g := fun x => { x with owner := none, waiters := [] }) (by simp [← owner])
    simp only [State.enterDone, marked, owner, waiters, State.serveWaiters_eq, State.letGo, reduceCtorEq, if_false]
    rw [← dir]
    rfl
  | some g =>
    have moved : (({ s with done := s.done ++ [k] }.raise .doneReady).onEntry k (fun x => { x with owner := none })).entry k =
        some { e with owner := none } := State.onEntry_entry resident fun _ => rfl
    have dropped : (({ s with done := s.done ++ [k] }.raise .doneReady).dropClaim g k).waitersOf k = e.waiters :=
      State.waitersOf_some (s := ({ s with done := s.done ++ [k] }.raise .doneReady).dropClaim g k) moved
    simp only [State.enterDone, marked, owner, dropped, State.serveWaiters_eq, State.letGo]
    congr 1
    · rw [State.onEntry_dir, State.dropClaim, State.onClaim_dir, State.onEntry_dir, List.map_map]
      refine List.map_congr_left fun x _ => ?_
      by_cases here : x.key = k <;> simp [here]
    · refine Bank.ext fun h => ?_
      by_cases here : h = g
      · subst here
        simp [State.dropClaim, State.claim]
      · have other : ¬g = h := fun same => here same.symm
        simp [State.dropClaim, State.claim, Bank.at_put_other _ _ _ _ here, other]

/-- R30 to R32: what `State.followCount` does, by the entry's state and its count. -/
theorem State.followCount_enters {s : State} {k : TileKey} {e : Entry} (distinct : KeysDistinct s)
    (resident : s.entry k = some e) (live : e.state = .live) (finished : e.remaining = 0) :
    s.followCount k = ({ s with
      dir := s.dir.map (fun x => if x.key = k then { x with state := .done } else x)
      done := s.done ++ [k], attn := s.attn.raise .doneReady } : State).letGo k e := by
  have moved : (s.onEntry k (fun x => { x with state := .done })).entry k = some { e with state := .done } :=
    State.onEntry_entry resident fun _ => rfl
  have distinct' := State.keysDistinct_onEntry distinct k (f := fun x => { x with state := .done }) fun _ => rfl
  simp only [State.followCount, resident, live, finished, and_self, if_true]
  rw [State.enterDone_eq distinct' moved]
  rfl

theorem State.followCount_leaves {s : State} {k : TileKey} {e : Entry} (resident : s.entry k = some e)
    (done : e.state = .done) (unfinished : 0 < e.remaining) : s.followCount k = { s with
      dir := s.dir.map (fun x => if x.key = k then { x with state := .live } else x)
      done := s.done.filter (fun x => decide (x ≠ k)) } := by
  simp only [State.followCount, resident, done, unfinished, reduceCtorEq, false_and, if_false, true_and, if_true]
  rfl

theorem State.followCount_stays {s : State} {k : TileKey} {e : Entry} (resident : s.entry k = some e)
    (stays : ¬(e.state = .live ∧ e.remaining = 0)) (stays' : ¬(e.state = .done ∧ 0 < e.remaining)) :
    s.followCount k = s := by
  simp only [State.followCount, resident, if_neg stays, if_neg stays']

/-- Settles O30, by the entry's state and its count. -/
theorem entryStateFollowsCount : Obligations.EntryStateFollowsCount := by
  unfold Obligations.EntryStateFollowsCount
  refine fun s k e distinct resident => ⟨fun live finished _ _ => ?_,
    fun done unfinished => State.followCount_leaves resident done unfinished,
    fun stays stays' => State.followCount_stays resident stays stays'⟩
  rw [State.followCount_enters distinct resident live finished, State.letGo]
  congr 1
  rw [List.map_map]
  refine List.map_congr_left fun x _ => ?_
  by_cases here : x.key = k <;> simp [here]

/-! ## TILE SEAL (R28) -/

/-- The Tile Store after a slot has been sealed. -/
def sealedStore (m : Memory) (slot overTol : Nat) : Memory := m.updateCells slot cellIndices (fun _ c => c.sealed overTol)

theorem read_sealedStore {m : Memory} {slot overTol c : Nat} (inTile : c < 64) :
    (sealedStore m slot overTol).read (slot * 64 + c) = { m.read (slot * 64 + c) with
      overcut := decide ((m.read (slot * 64 + c)).target + overTol < (m.read (slot * 64 + c)).cut) } :=
  Memory.read_updateCells_inside _ _ _ inTile

/-- R28, R29: a count of a sealed slot is one of the cells as they were. -/
theorem countCells_sealed (m : Memory) (slot overTol : Nat) (p q : Cell → Bool)
    (same : ∀ c : Cell, p (c.sealed overTol) = q c) : (sealedStore m slot overTol).countCells slot p =
      ((List.range 64).filter (fun c => q (m.read (slot * 64 + c)))).length := by
  refine congrArg List.length (List.filter_congr fun c inTile => ?_)
  have read : (sealedStore m slot overTol).read (cellAddr slot c) = (m.read (slot * 64 + c)).sealed overTol :=
    Memory.read_updateCells_inside _ _ _ (List.mem_range.1 inTile)
  rw [read, same]

/-- R28: what follows the seal of a slot: the counts, the state, and the closed tile. -/
def State.sealedTile (s : State) (k : TileKey) (e : Entry) (state : TileState) (remaining overcut : Nat) : State := { s with
  store := sealedStore s.store e.slot (s.copy k.copy).overTol
  dir := s.dir.map (fun x => if x.key = k then
    { x with state := state, remaining := remaining, overcut := overcut } else x)
  load := { s.load with openTile := none } }

theorem State.sealedTile_entry {s : State} {k : TileKey} {e : Entry} (resident : s.entry k = some e) (state : TileState)
    (remaining overcut : Nat) : (s.sealedTile k e state remaining overcut).entry k =
      some { e with state := state, remaining := remaining, overcut := overcut } := by
  have entry := State.onEntry_entry resident
    (f := fun x => { x with state := state, remaining := remaining, overcut := overcut }) fun _ => rfl
  rwa [State.entry, State.onEntry_dir] at entry

theorem State.sealedTile_distinct {s : State} (distinct : KeysDistinct s) (k : TileKey) (e : Entry) (state : TileState)
    (remaining overcut : Nat) : KeysDistinct (s.sealedTile k e state remaining overcut) := by
  have kept := State.keysDistinct_onEntry distinct k
    (f := fun x => { x with state := state, remaining := remaining, overcut := overcut }) fun _ => rfl
  rwa [KeysDistinct, State.onEntry_dir] at kept

/-- R28: the unit on the open tile. -/
theorem State.tileSealUnit_eq {s : State} {k : TileKey} {e : Entry} (opened : s.load.openTile = some k)
    (resident : s.entry k = some e) : s.tileSealUnit =
      (let old := fun c : Nat => s.store.read (e.slot * 64 + c)
       let remaining := ((List.range 64).filter (fun c =>
        decide ((old c).cut + (s.copy k.copy).finishTol < (old c).target))).length
       let overcut := ((List.range 64).filter (fun c =>
        decide ((old c).target + (s.copy k.copy).overTol < (old c).cut))).length
       withResult (if remaining = 0 then (s.sealedTile k e .done remaining overcut).enterDone k
        else s.sealedTile k e .live remaining overcut) .ok) := by
  have remaining := countCells_sealed s.store e.slot (s.copy k.copy).overTol
    (fun c => !c.finished (s.copy k.copy).finishTol) (fun c => decide (c.cut + (s.copy k.copy).finishTol < c.target))
    fun c => (decide_not (p := _ ≤ _)).symm.trans (decide_eq_decide.2 Nat.not_le)
  have overcut := countCells_sealed s.store e.slot (s.copy k.copy).overTol (fun c => c.overcut)
    (fun c => decide (c.target + (s.copy k.copy).overTol < c.cut)) fun c => rfl
  have cells : s.onCells e cellIndices (fun _ c => c.sealed (s.copy k.copy).overTol) =
      { s with store := sealedStore s.store e.slot (s.copy k.copy).overTol } := rfl
  simp only [State.tileSealUnit, opened, resident, cells, remaining, overcut, State.accept_eq, State.sealedTile]
  generalize sealedStore s.store e.slot (s.copy k.copy).overTol = m
  generalize List.length _ = n
  split <;> rfl

/-- R28: a FILLING tile has no claim and no waiters to be let go. -/
theorem State.letGo_unclaimed {s : State} {k : TileKey} {e : Entry} (distinct : KeysDistinct s)
    (resident : s.entry k = some e) (unowned : e.owner = none) (unwaited : e.waiters = []) : s.letGo k e = s := by
  have dir : s.dir.map (fun x => if x.key = k then { x with owner := none, waiters := [] } else x) = s.dir := by
    rw [map_entry_congr distinct resident (f := fun x => { x with owner := none, waiters := [] }) (g := id)
      (by rw [← unowned, ← unwaited]; rfl)]
    simp
  have arb : (if s.arb.granted.isNone then ([] : List HeadNo).head?.map Requester.hu else s.arb.granted) =
      s.arb.granted := by cases s.arb.granted <;> rfl
  have claims : (Vector.ofFn (fun h : HeadNo => { slots := (s.claim h).slots, timer := (s.claim h).timer }) :
      Bank ClaimUnit) = s.claims := Bank.ofFn_at _
  have heads : (Vector.ofFn (fun h : HeadNo => s.head h) : Bank HeadUnit) = s.heads := Bank.ofFn_at _
  simp only [State.letGo, dir, arb, claims, unowned, unwaited, reduceCtorEq, List.not_mem_nil, if_false, heads]

theorem State.enterDone_unclaimed {s : State} {k : TileKey} {e : Entry} (distinct : KeysDistinct s)
    (resident : s.entry k = some e) (unowned : e.owner = none) (unwaited : e.waiters = []) :
    s.enterDone k = { s with done := s.done ++ [k], attn := s.attn.raise .doneReady } :=
  (State.enterDone_eq distinct resident).trans (State.letGo_unclaimed
    (s := { s with done := s.done ++ [k], attn := s.attn.raise .doneReady }) distinct resident unowned unwaited)

/-- Settles O27. -/
theorem tileSealCounts : Obligations.TileSealCounts := by
  unfold Obligations.TileSealCounts
  refine ⟨fun s followed rest takes => ?command, fun s k e opened resident granted unowned unwaited distinct => ?unit⟩
  case command =>
    have acts : exec .tileSeal s = .next (tookCode s .tileSeal .complete followed rest).tileSeal :=
      exec_parameterless takes (by decide) rfl
    rw [acts, State.tileSeal, State.requestUnit_eq]
    cases opened : s.load.openTile with
    | none =>
      have closed : (tookCode s .tileSeal .complete followed rest).load.openTile.isNone = true :=
        congrArg Option.isNone opened
      rw [if_pos closed, if_pos rfl, State.refuse_eq]
    | some k =>
      have still : ¬(tookCode s .tileSeal .complete followed rest).load.openTile.isNone = true := by
        rw [show (tookCode s .tileSeal .complete followed rest).load.openTile = some k from opened]
        exact Bool.noConfusion
      rw [if_neg still, if_neg (Option.some_ne_none k)]
  case unit =>
    intro cr old overcut remaining
    have runs : exec .tileSealUnit s = .next (endedPortUnit s.tileSealUnit) :=
      congrArg _ (State.portUnitStep_granted granted rfl)
    refine ⟨sealedStore s.store e.slot cr.overTol, fun c inTile => read_sealedStore inTile,
      fun a outside => Memory.read_updateCells_unlisted _ _ cellIndices_nodup _ fun c here =>
        outside c (List.mem_range.1 here), ?_⟩
    intro closing
    rw [runs, State.tileSealUnit_eq opened resident]
    refine congrArg (fun t => Host.Outcome.next (endedPortUnit (withResult t .ok))) ?_
    change (if remaining = 0 then (s.sealedTile k e .done remaining overcut).enterDone k
      else s.sealedTile k e .live remaining overcut) = _
    by_cases finished : remaining = 0
    · have moved := State.sealedTile_entry resident .done remaining overcut
      have distinct' := State.sealedTile_distinct distinct k e .done remaining overcut
      rw [if_pos finished, if_pos finished, State.enterDone_unclaimed distinct' moved unowned unwaited, State.sealedTile]
    · rw [if_neg finished, if_neg finished, State.sealedTile]

/-! ## TILE EDIT (R52, R53) -/

section

variable {s : State} {k : TileKey}

theorem State.tileEdit_bad {copy row col cell depth : Nat} (bad : 7 < copy ∨ 511 < row ∨ 511 < col ∨ 63 < cell) :
    s.tileEdit copy row col cell depth = refusedWith s .badArgument := by
  obtain key | great : (7 < copy ∨ 511 < row ∨ 511 < col) ∨ 63 < cell := by omega
  · simp only [State.tileEdit, keyOf_eq_none key, State.refuse_eq]
  · rw [State.tileEdit]
    cases keyOf copy row col with
    | none => rfl
    | some _ => exact if_pos great

theorem State.tileEdit_key {cell : Nat} (inTile : cell ≤ 63) (depth : Nat) :
    s.tileEdit k.copy.val k.row.val k.col.val cell depth =
      if s.entry k = none then refusedWith s .notFound else presentedUnit s (.tileEdit k cell (min depth 16383)) := by
  have below : ¬Config.cellsPerTile ≤ cell := Nat.not_le.2 (Nat.lt_succ_of_le inTile)
  simp only [State.tileEdit, keyOf_key, below, if_false, Option.isNone_iff_eq_none, State.refuse_eq, State.requestUnit_eq]
  rfl

end

/-- R53: an edit moves the counts by what the cell changed. -/
theorem Entry.countEdit_target (e : Entry) (old : Cell) (depth finishTol : Nat) :
    e.countEdit old { old with target := depth, overcut := false } finishTol = { e with
      overcut := if old.overcut then e.overcut - 1 else e.overcut
      remaining :=
        if old.target ≤ old.cut + finishTol ∧ ¬depth ≤ old.cut + finishTol then e.remaining + 1
        else if ¬old.target ≤ old.cut + finishTol ∧ depth ≤ old.cut + finishTol then e.remaining - 1
        else e.remaining } := by
  simp [Entry.countEdit, Cell.finished]

/-- Settles O29. -/
theorem tileEditReplacesTarget : Obligations.TileEditReplacesTarget := by
  unfold Obligations.TileEditReplacesTarget
  refine ⟨fun s y t u c d rest takes => ?command, fun s k c d e granted resident => ?unit⟩
  case command =>
    intro took
    have acts : exec .tileEdit s = .next (took.tileEdit y t u c d) := exec_action takes rfl rfl
    rw [acts]
    refine ⟨fun bad => congrArg _ (State.tileEdit_bad bad), ?_⟩
    rintro k rfl rfl rfl inTile
    exact congrArg _ (State.tileEdit_key (s := took) inTile d)
  case unit =>
    intro old cr new wasFinished isFinished
    have runs : exec .tileEditUnit s = .next (endedPortUnit (s.tileEditUnit k c d)) :=
      congrArg _ (State.portUnitStep_granted granted rfl)
    rw [runs, State.tileEditUnit, resident]
    refine ⟨fun busy => congrArg (fun t => Host.Outcome.next (endedPortUnit t)) ((if_pos busy).trans (State.refuse_eq _ _)),
      fun settled deep => ?_, fun settled shallow => ?_⟩
    all_goals
      have free : ¬(e.state = .filling ∨ e.state = .copying) := by
        rcases settled with state | state <;> simp [state]
      refine congrArg (fun t => Host.Outcome.next (endedPortUnit t)) ((if_neg free).trans ?_)
    · exact (if_pos deep).trans (State.refuse_eq _ _)
    · refine (if_neg (Nat.not_lt.2 shallow)).trans ?_
      simp only [Entry.countEdit_target, State.accept_eq]
      rfl

end Sys2Proof.Machine
end

section
/-! PROOFS. R67 to R76: the verdict on a probe, step by step. -/

namespace Sys2Proof.Machine

open Sys2Proof.Safety

/-- R74, R75: a stalled spindle leaves no step, and neither does one derated past the stall threshold. -/
theorem deratedStep_stall {m : LoadMonitor} (stepMax : Nat)
    (stalls : m.state = .stalled ∨ (m.derates = true ∧ 4 * m.curP0 ≤ m.lastP)) : deratedStep stepMax m = none := by
  rw [deratedStep]
  split_ifs with stopped derates threshold
  · rfl
  · rfl
  · exact absurd (stalls.resolve_left stopped).2 threshold
  · exact absurd (stalls.resolve_left stopped).1 derates

/-- Settles O45, by the steps of the verdict: done, stall, the limit, the cut. -/
theorem probeVerdictSteps : Obligations.ProbeVerdictSteps := by
  unfold Obligations.ProbeVerdictSteps
  intro tileDone c cr b hu m v w finished derates stalls limit
  have derates_eq : m.derates = true ↔ derates := m.derates_iff
  have finished_iff : finished ↔ c.target ≤ c.cut + cr.finishTol := by
    simp only [finished]
    omega
  refine ⟨fun done => probeVerdict_done (done.imp_right finished_iff.1), fun live unfinished => ?_⟩
  have unfinished : c.cut + cr.finishTol < c.target := Nat.not_le.1 (finished_iff.not.1 unfinished)
  refine ⟨fun stalled => probeVerdict_stall live unfinished
      (deratedStep_stall _ (stalled.imp_right (And.imp_left derates_eq.2))), fun turning step derated full => ?_⟩
  obtain ⟨running, above⟩ := not_or.1 turning
  have left : deratedStep b.stepMax m = some step := by
    by_cases loaded : derates
    · have below : m.lastP < 4 * m.curP0 := Nat.not_le.1 fun threshold => above ⟨loaded, threshold⟩
      rw [derated loaded, deratedStep_derated _ running (derates_eq.2 loaded) below]
    · rw [full loaded, deratedStep_full _ running (derates_eq.not.2 loaded)]
  refine ⟨fun stays => probeVerdict_atLimit live unfinished left stays, fun deeper => ?_⟩
  have cut := probeVerdict_cut (hu := hu) live unfinished left deeper
  exact ⟨congrArg Verdict.status cut, congrArg Verdict.value cut⟩

end Sys2Proof.Machine
end

section
/-! PROOFS. R148 to R157: the receiver of a head link byte by byte, the faults of a link, and the answers that leave
it. -/

namespace Sys2Proof.Machine

open Sys2Proof.Safety

/-! ## Faults and answers -/

theorem State.losePartial_eq {s : State} {h : HeadNo} (held : (s.link h).rx.state ≠ .hunt) :
    s.losePartial h = { hunting s h with attn := s.attn.raise .linkFault } := by
  rw [State.losePartial, if_neg held]
  rfl

/-- R150: a bad frame is answered once while one BAD_FRAME answer waits. -/
theorem State.badFrame_eq (s : State) (h : HeadNo) : s.badFrame h =
    (if (s.link h).tx.tail.any (fun a => decide (a.status = .badFrame))
      then { hunting s h with attn := s.attn.raise .linkFault }
      else sent { hunting s h with attn := s.attn.raise .linkFault } h
        [{ tag := 0, status := .badFrame, value := 0, dwell := 0 }]) := by
  have unit : (s.huntAgain h).link h = { s.link h with rx := Receiver.reset } := Bank.at_put_same _ _ _
  have queue : ((s.huntAgain h).link h).tx = (s.link h).tx := by rw [unit]
  simp only [State.badFrame, State.queueBadFrame, queue, badFrameWaits]
  split <;> rfl

/-- R149: the known KINDs are those with a frame length. -/
theorem bytesAfterKind_eq_none {kind : Byte} : bytesAfterKind kind = none ↔ kind ∉ knownKinds := by
  simp only [bytesAfterKind, knownKinds, List.mem_cons, List.not_mem_nil, or_false]
  split_ifs <;> simp_all

/-- R150, R154: the CHECK byte brings the sum of a frame to 0. -/
theorem byteSum_check (body : List Byte) : byteSum (body ++ [0 - byteSum body]) = 0 := by
  rw [byteSum, List.foldl_append]
  exact (BitVec.add_comm _ _).trans (by rw [byteSum]; simp)

/-- Settles O51, row by row. -/
theorem linkFaultsAndAnswers : Obligations.LinkFaultsAndAnswers := by
  unfold Obligations.LinkFaultsAndAnswers
  intro s h lost bad
  refine ⟨fun hunt => congrArg _ (if_pos hunt), fun held => congrArg _ (State.losePartial_eq held),
    fun stopped => congrArg _ (if_neg (by simp [stopped])),
    fun running held => congrArg _ ((if_pos running).trans (State.losePartial_eq held)),
    congrArg _ (s.badFrame_eq h), fun kind wellFormed => ?_, fun empty => ?_, fun a rest queue => ?_⟩
  · have unknown : bytesAfterKind kind = none := bytesAfterKind_eq_none.2 (by simpa [Instr.wellFormed] using wellFormed)
    exact congrArg _ ((if_pos (Option.isNone_iff_eq_none.2 unknown)).trans (s.badFrame_eq h))
  · have idle : s.answerSent h = s := by rw [State.answerSent, empty]
    exact congrArg _ idle
  · intro body
    refine ⟨0 - byteSum body, byteSum_check body, ?_⟩
    have leaves : s.answerSent h = s.onLink h (fun l => { l with tx := rest, line := a.frame }) := by
      rw [State.answerSent, queue]
    exact congrArg _ leaves

/-! ## Bytes -/

/-- R152: a two-byte value goes high byte first. -/
theorem joinBytes_eq (hi lo : Byte) : joinBytes hi lo = (hi ++ lo : Word).toNat := by
  have value : (hi ++ lo : Word).toNat = hi.toNat <<< 8 ||| lo.toNat := BitVec.toNat_append _ _
  rw [value, ← Nat.shiftLeft_add_eq_or_of_lt lo.isLt, Nat.shiftLeft_eq]
  rfl

section

variable {s : State} {h : HeadNo} {v : Byte}

theorem State.linkByte_hunt (state : (s.link h).rx.state = .hunt) : s.linkByte h v =
    if v = Config.sync then
      s.onLink h (fun l => { l with rx := { Receiver.reset with state := .kind, gapRunning := true } }) else s := by
  simp only [State.linkByte, state]

theorem State.linkByte_kind (state : (s.link h).rx.state = .kind) : s.linkByte h v = s.kindByte h v := by
  simp only [State.linkByte, state]

theorem State.linkByte_body (state : (s.link h).rx.state = .body) : s.linkByte h v = s.bodyByte h v := by
  simp only [State.linkByte, state]

/-- R150: the last byte of a frame. -/
theorem State.linkByte_last (state : (s.link h).rx.state = .body) (last : (s.link h).rx.expected = 1) :
    s.linkByte h v = if (s.link h).rx.sum + v = 0
      then (s.huntAgain h).takeFrame h (s.link h).rx.kind (s.link h).rx.payload else s.badFrame h := by
  rw [State.linkByte_body state, State.bodyByte, last]
  rfl

/-- R152: the frame of a request, its fields high byte first. -/
theorem State.takeFrame_probe (tag r1 r0 c1 c0 : Byte) : s.takeFrame h 0x01 [tag, r1, r0, c1, c0] =
    s.requestArrives h (requestOf .probe tag (r1 ++ r0 : Word).toNat (c1 ++ c0 : Word).toNat 0) := by
  rw [← joinBytes_eq, ← joinBytes_eq]
  rfl

theorem State.takeFrame_report (tag r1 r0 c1 c0 d1 d0 : Byte) : s.takeFrame h 0x02 [tag, r1, r0, c1, c0, d1, d0] =
    s.requestArrives h
      (requestOf .report tag (r1 ++ r0 : Word).toNat (c1 ++ c0 : Word).toNat (d1 ++ d0 : Word).toNat) := by
  rw [← joinBytes_eq, ← joinBytes_eq, ← joinBytes_eq]
  rfl

theorem State.takeFrame_release (tag r1 r0 c1 c0 : Byte) : s.takeFrame h 0x03 [tag, r1, r0, c1, c0] =
    s.requestArrives h (requestOf .release tag (r1 ++ r0 : Word).toNat (c1 ++ c0 : Word).toNat 0) := by
  rw [← joinBytes_eq, ← joinBytes_eq]
  rfl

end

/-- Settles O52, by the receiver's state and then by the frame's KIND. -/
theorem linkBytesMakeFrames : Obligations.LinkBytesMakeFrames := by
  unfold Obligations.LinkBytesMakeFrames
  intro s h v rx receiving
  have runs : exec (.headLinkByte h v) s = .next (s.linkByte h v) := rfl
  rw [runs]
  refine ⟨fun hunt other => ?_, fun hunt sync => ?_, fun kind => ⟨fun n known => ?_, fun unknown => ?_⟩,
    fun body more => ?_, fun body last bad => ?_, fun body last good => ?_⟩
  · exact congrArg _ ((State.linkByte_hunt hunt).trans (if_neg other))
  · exact congrArg _ ((State.linkByte_hunt hunt).trans (if_pos sync))
  · have length : bytesAfterKind v = some n := by
      simp only [List.mem_cons, Prod.mk.injEq, List.not_mem_nil, or_false] at known
      rcases known with ⟨rfl, rfl⟩ | ⟨rfl, rfl⟩ | ⟨rfl, rfl⟩ | ⟨rfl, rfl⟩ <;> rfl
    rw [State.linkByte_kind kind, State.kindByte, length]
    rfl
  · have nothing := bytesAfterKind_eq_none.2 unknown
    have bad : exec (.unknownKind h v) s = .next (s.badFrame h) :=
      congrArg _ (if_pos (Option.isNone_iff_eq_none.2 nothing))
    rw [bad, State.linkByte_kind kind, State.kindByte, nothing]
  · rw [State.linkByte_body body, State.bodyByte]
    exact congrArg _ (if_pos more)
  · exact congrArg _ ((State.linkByte_last body last).trans (if_neg bad))
  · intro tag r1 r0 c1 c0 d1 d0
    have frame : s.linkByte h v = (s.huntAgain h).takeFrame h rx.kind rx.payload :=
      (State.linkByte_last body last).trans (if_pos good)
    rw [frame]
    refine ⟨fun kind payload => ?_, fun kind payload => ?_, fun kind payload => ?_, fun kind payload => ?_⟩
    all_goals rw [kind, payload]
    · exact congrArg _ (State.takeFrame_probe ..)
    · exact congrArg _ (State.takeFrame_report ..)
    · exact congrArg _ (State.takeFrame_release ..)
    · rfl

end Sys2Proof.Machine
end

section
/-! PROOFS. R112, R135, R139: ticks at the monitors and at the hold timers. -/

namespace Sys2Proof.Machine

open Sys2Proof.Safety

/-! ## The monitors (R139) -/

theorem mem_allHeads (h : HeadNo) : h ∈ allHeads := by
  revert h
  decide

/-- R139: the tick brings the counter to its top. -/
def LoadMonitor.AtTop (m : LoadMonitor) : Prop :=
  m.running = true ∧ (m.state ≠ .stalled ∨ m.opened = true) ∧ 65534 ≤ m.counter

theorem LoadMonitor.atBrink_iff (m : LoadMonitor) : m.atBrink = true ↔ m.AtTop := by
  simp [LoadMonitor.atBrink, LoadMonitor.counts, LoadMonitor.AtTop, Config.counterTop, and_assoc]

theorem State.stallEntry_eq (s : State) (h : HeadNo) : s.stallEntry h = { s with
    monitors := Bank.put s.monitors h
      { s.monitor h with state := .stalled, opened := false, index := 0, counter := 65535 }
    attn := if (s.monitor h).state = .stalled then s.attn else s.attn.raise .stall } := by
  simp only [State.stallEntry]
  split <;> rfl

/-- R139: the tick is an entry into STALLED, which alone sets the flag. -/
def LoadMonitor.EntersStalled (m : LoadMonitor) : Prop := m.atBrink = true ∧ m.state ≠ .stalled

theorem State.monitorTick_attn (s : State) (h : HeadNo) [Decidable (s.monitor h).EntersStalled] : (s.monitorTick h).attn =
    if (s.monitor h).EntersStalled then s.attn.raise .stall else s.attn := by
  simp only [State.monitorTick, State.stallEntry_eq, LoadMonitor.EntersStalled]
  split_ifs <;> simp_all

theorem Attention.raise_raise (a : Attention) (f : EventFlag) : (a.raise f).raise f = a.raise f := by
  rw [Attention.raise.eq_1 (a.raise f) f, if_pos (by rw [Attention.raise_isPending]; simp)]

open Classical in
/-- R139: the flags after a tick at the monitors of a list of heads, none named twice. -/
theorem State.foldl_monitorTick_attn {heads : List HeadNo} (distinct : heads.Nodup) (s : State) :
    (heads.foldl State.monitorTick s).attn =
      if ∃ h ∈ heads, (s.monitor h).EntersStalled then s.attn.raise .stall else s.attn := by
  induction heads generalizing s with
  | nil => simp
  | cons h rest ih =>
    obtain ⟨new, distinctRest⟩ := List.nodup_cons.1 distinct
    have others : ∀ g ∈ rest, (s.monitorTick h).monitor g = s.monitor g := by
      intro g listed
      rw [State.monitor, State.monitorTick_monitors]
      exact Bank.at_put_other _ _ _ _ fun same => new (same ▸ listed)
    have later : (∃ g ∈ rest, ((s.monitorTick h).monitor g).EntersStalled) ↔ ∃ g ∈ rest, (s.monitor g).EntersStalled :=
      exists_congr fun g => and_congr_right fun listed => by rw [others g listed]
    rw [List.foldl_cons, ih distinctRest, State.monitorTick_attn]
    simp only [later, List.exists_mem_cons_iff]
    by_cases now : (s.monitor h).EntersStalled <;> by_cases then' : ∃ g ∈ rest, (s.monitor g).EntersStalled <;>
      simp [now, then', Attention.raise_raise]

/-! ## The hold timers (R112) -/

/-- R112: one tick at a head's hold timer, by the timer. -/
theorem State.holdTick_eq (s : State) (h : HeadNo) : s.holdTick h =
    match (s.claim h).timer with
    | none => s
    | some n => if (s.head h).holdTimeout * 4096 ≤ n + 1 then s.holdExpiry h
        else { s with claims := Bank.put s.claims h { s.claim h with timer := some (n + 1) } } := by
  cases timer : (s.claim h).timer with
  | none =>
    have unit : ({ s.claim h with timer := (s.claim h).timer.map (fun n => n + 1) } : ClaimUnit) = s.claim h := by
      rw [timer]
      exact congrArg (ClaimUnit.mk _) timer.symm
    have still : Bank.put s.claims h { s.claim h with timer := (s.claim h).timer.map (fun n => n + 1) } = s.claims := by
      rw [unit]
      exact Bank.put_same s.claims h
    have brink : s.holdAtBrink h = false := by rw [State.holdAtBrink, timer]
    rw [State.holdTick, brink]
    exact congrArg (fun c => { s with claims := c }) still
  | some n =>
    have brink : s.holdAtBrink h = decide ((s.head h).holdTimeout * 4096 ≤ n + 1) := by rw [State.holdAtBrink, timer]; rfl
    rw [State.holdTick, brink, State.onClaim, timer]
    by_cases expires : (s.head h).holdTimeout * 4096 ≤ n + 1 <;> simp [expires]

theorem State.stopTimer_stopTimer (s : State) (h : HeadNo) : (s.stopTimer h).stopTimer h = s.stopTimer h := by
  simp [State.stopTimer, State.onClaim, State.claim]

/-- R112: the expiry of the timer of a request in claim wait. -/
theorem State.holdExpiry_eq {s : State} {h : HeadNo} {o : Outstanding} {k : TileKey}
    (outstanding : (s.head h).outstanding = some o) (waits : o.wait = .claim) (key : o.key = some k) :
    s.holdExpiry h = (answered { s with
      dir := s.dir.map (fun x =>
        if x.key = k then { x with waiters := x.waiters.filter (fun g => decide (g ≠ h)) } else x)
      claims := Bank.put s.claims h { s.claim h with timer := none }
      attn := s.attn.raise .contested } h o .contested 0 0).settle h := by
  have left : s.leaveWait h = ({ s with
      dir := s.dir.map (fun x =>
        if x.key = k then { x with waiters := x.waiters.filter (fun g => decide (g ≠ h)) } else x) } : State).stopTimer h :=
    State.leaveWait_claim outstanding waits key
  rw [State.holdExpiry, left, State.stopTimer_stopTimer]
  exact congrArg (State.settle · h) (State.endRequest_some (s := { s with
      dir := s.dir.map (fun x =>
        if x.key = k then { x with waiters := x.waiters.filter (fun g => decide (g ≠ h)) } else x)
      claims := Bank.put s.claims h { s.claim h with timer := none }
      attn := s.attn.raise .contested }) outstanding .contested 0 0)

/-- Settles O53: a row at one monitor, a row at one timer, and a tick at all of them. -/
theorem ticksCountAndExpire : Obligations.TicksCountAndExpire := by
  unfold Obligations.TicksCountAndExpire
  refine ⟨fun s h => ?monitor, fun s h => ?timer, fun s => ?tick⟩
  case monitor =>
    intro m brink
    have brink_iff : m.atBrink = true ↔ brink := m.atBrink_iff
    exact ⟨fun below => congrArg _ (if_neg (brink_iff.not.2 below)), fun top =>
      congrArg _ ((if_pos (brink_iff.2 top)).trans (s.stallEntry_eq h))⟩
  case timer =>
    have idles : s.holdAtBrink h = false → exec (.holdTimerExpiry h) s = .next s :=
      fun below => congrArg _ (if_neg (Bool.eq_false_iff.1 below))
    refine ⟨fun stopped => idles (by rw [State.holdAtBrink, stopped]), fun n timer => ⟨fun early => idles ?_, ?_⟩⟩
    · rw [State.holdAtBrink, timer]
      exact decide_eq_false (Nat.not_le.2 early)
    · intro expires o k outstanding waits key
      have brink : s.holdAtBrink h = true := by rw [State.holdAtBrink, timer]; exact decide_eq_true expires
      exact congrArg _ ((if_pos brink).trans (State.holdExpiry_eq outstanding waits key))
  case tick =>
    intro counts stalls ticked
    refine ⟨s.tick, rfl, ?_⟩
    have monitors : allHeads.foldl State.monitorTick s = ticked := by
      obtain ⟨m, a, shape⟩ := State.monitorTicks_eq allHeads s
      have bank := State.monitor_foldl_monitorTick (heads := allHeads) (by decide) s
      have flags := State.foldl_monitorTick_attn (heads := allHeads) (by decide) s
      have top : ∀ m : LoadMonitor, m.atBrink = stalls m := fun m => by
        simp [LoadMonitor.atBrink, LoadMonitor.counts, stalls, counts, Config.counterTop]
      have marks : (∃ h ∈ allHeads, (s.monitor h).EntersStalled) ↔
          ∃ h : HeadNo, stalls (s.monitor h) = true ∧ (s.monitor h).state ≠ .stalled :=
        exists_congr fun h => by simp [LoadMonitor.EntersStalled, top, mem_allHeads]
      rw [shape] at bank flags ⊢
      have attn : a = ticked.attn := by
        classical
        exact flags.trans (if_congr marks rfl rfl)
      have bank' : m = ticked.monitors := by
        refine Bank.ext fun h => (bank h).trans ?_
        simp only [ticked, Bank.at_map, mem_allHeads, if_true, LoadMonitor.ticked, top]
        rfl
      rw [attn, bank']
    rw [State.tick, monitors]
    exact congrArg (fun f => allHeads.foldl f ticked) (funext fun u => funext fun h => State.holdTick_eq u h)

end Sys2Proof.Machine
end

section
/-! PROOFS. R25, R60, R83, R108, R129 to R132: a request frame that arrives, the checks of the request that becomes
outstanding, and the directory step. -/

namespace Sys2Proof.Machine

open Sys2Proof.Safety

theorem State.head_withHead (s : State) (h : HeadNo) (hu : HeadUnit) : (withHead s h hu).head h = hu :=
  Bank.at_put_same _ _ _

/-! ## Arrival (R129, R130) -/

section

variable {s : State} {h : HeadNo} {o : Outstanding}

theorem HeadUnit.idle_of_none {hu : HeadUnit} (idle : hu.outstanding = none) :
    hu.inService = false ∧ hu.parked = false := by
  simp [HeadUnit.inService, HeadUnit.parked, idle]

theorem State.inService_of_wait (present : (s.head h).outstanding = some o) (served : o.wait = .inService) :
    (s.head h).inService = true := by
  rw [HeadUnit.inService_some present, decide_eq_true served]

theorem State.not_inService_of_wait (present : (s.head h).outstanding = some o) (parked : o.wait ≠ .inService) :
    (s.head h).inService = false := by
  rw [HeadUnit.inService_some present, decide_eq_false parked]

/-- R129: what a request that arrives meets. -/
theorem State.requestArrives_idle (idle : (s.head h).outstanding = none) (r : Request) :
    s.requestArrives h r = s.becomeOutstanding h r := by
  obtain ⟨unserved, unparked⟩ := HeadUnit.idle_of_none idle
  rw [State.requestArrives, unserved, State.endParked_idle _ unparked]
  rfl

theorem State.requestArrives_waits (served : (s.head h).inService = true) (empty : (s.head h).buffer = none)
    (r : Request) : s.requestArrives h r = withHead s h { s.head h with buffer := some r } := by
  rw [State.requestArrives, served, empty]
  rfl

theorem State.requestArrives_overruns {r' : Request} (served : (s.head h).inService = true)
    (full : (s.head h).buffer = some r') (r : Request) :
    s.requestArrives h r = { sent s h [plain r.tag .overrun] with attn := s.attn.raise .linkFault } := by
  rw [State.requestArrives, served, full]
  rfl

theorem State.requestArrives_supersedes (present : (s.head h).outstanding = some o) (parked : o.wait ≠ .inService)
    (r : Request) : s.requestArrives h r = (answered (s.leaveWait h) h o .cancelled 0 0).becomeOutstanding h r := by
  rw [State.requestArrives, State.not_inService_of_wait present parked, State.endParked_some _ present parked]
  rfl

/-- R129, R130: what a buffered request meets. -/
theorem State.settle_none (empty : (s.head h).buffer = none) : s.settle h = s := by
  rw [State.settle, empty]

theorem State.settle_inService (served : (s.head h).inService = true) : s.settle h = s := by
  rw [State.settle]
  cases (s.head h).buffer with
  | none => rfl
  | some r => exact if_pos served

theorem State.settle_some {r : Request} (waiting : (s.head h).buffer = some r) (unserved : (s.head h).inService = false) :
    s.settle h = (withHead (s.endParked h .cancelled) h
      { (s.endParked h .cancelled).head h with buffer := none }).becomeOutstanding h r := by
  rw [State.settle, waiting]
  exact if_neg (by rw [unserved]; exact Bool.noConfusion)

end

/-- The frames of R152 and the requests that they carry. -/
theorem exec_requestFrame (s : State) (h : HeadNo) (tag : Byte) (row col depth : Word) :
    ∀ p ∈ ([(Instr.probe h tag row col, { kind := .probe, tag := tag, row := row.toNat, col := col.toNat, depth := 0 }),
        (.report h tag row col depth,
          { kind := .report, tag := tag, row := row.toNat, col := col.toNat, depth := min depth.toNat 16383 }),
        (.release h tag row col,
          { kind := .release, tag := tag, row := row.toNat, col := col.toNat, depth := 0 })] : List (Instr × Request)),
      exec p.1 s = .next ((hunting s h).requestArrives h p.2) ∧ p.2.tag = tag := by
  intro p frame
  simp only [List.mem_cons, List.not_mem_nil, or_false] at frame
  rcases frame with rfl | rfl | rfl <;> exact ⟨rfl, rfl⟩

/-- Settles O39: the arrival, and the buffered request that follows. -/
theorem requestFramesArrive : Obligations.RequestFramesArrive := by
  unfold Obligations.RequestFramesArrive
  refine ⟨fun s h tag row col depth => ?arrives, fun s h => ?follows⟩
  case arrives =>
    intro s0 p frame
    obtain ⟨runs, carries⟩ := exec_requestFrame s h tag row col depth p frame
    have unit : s0.head h = s.head h := rfl
    rw [runs]
    refine ⟨fun idle => congrArg _ (State.requestArrives_idle (s := s0) idle p.2), fun o present =>
      ⟨fun served empty => congrArg _ (State.requestArrives_waits (s := s0) (State.inService_of_wait present served) empty p.2),
        fun served full => ?_,
        fun parked => congrArg _ (State.requestArrives_supersedes (s := s0) present parked p.2)⟩⟩
    obtain ⟨r', full⟩ := Option.isSome_iff_exists.1 full
    rw [← carries]
    exact congrArg _ (State.requestArrives_overruns (s := s0) (State.inService_of_wait present served) full p.2)
  case follows =>
    refine ⟨State.settle_none, fun r waiting => ?_⟩
    intro emptied
    refine ⟨fun idle => ?_, fun o present => ⟨fun served => State.settle_inService (State.inService_of_wait present served),
      fun parked => ?_⟩⟩
    · obtain ⟨unserved, unparked⟩ := HeadUnit.idle_of_none idle
      rw [State.settle_some waiting unserved, State.endParked_idle _ unparked]
    · rw [State.settle_some waiting (State.not_inService_of_wait present parked), State.endParked_some _ present parked]

/-! ## The checks (R131, R132, R108) -/

section

variable {s : State} {h : HeadNo} {r : Request} {o : Outstanding}

/-- R128: a request that has passed its checks waits for HEAD STEP in step mode. -/
theorem State.setWait_step (present : (s.head h).outstanding = some o) : s.setWait h .step =
    withHead s h { s.head h with outstanding := some { o with wait := .step } } := by
  rw [State.setWait, State.onHead, present]
  rfl

/-- R131: the checks of a PROBE, for a bound head. -/
theorem State.checkProbe_bound (present : (s.head h).outstanding = some o) (bound : (s.head h).state ≠ .unbound)
    (inRange : ¬(4095 < r.row ∨ 4095 < r.col)) : s.checkProbe h r =
      if (s.head h).state = .halted then answered s h o .halted 0 0
      else if (s.head h).worn = true then answered s h o .worn 0 0
      else if (s.monitor h).state = .stalled then answered s h o .stall 0 0
      else if (s.head h).stepMode = true then
        withHead s h { s.head h with outstanding := some { o with wait := .step } }
      else s.directoryStep h := by
  simp only [State.checkProbe, if_neg bound, outOfRange_iff, if_neg inRange, State.endRequest_some present,
    State.setWait_step present]

theorem State.checkReport_bound (present : (s.head h).outstanding = some o) (bound : (s.head h).state ≠ .unbound)
    (inRange : ¬(4095 < r.row ∨ 4095 < r.col)) : s.checkReport h r =
      if (s.head h).stepMode = true ∧ (s.head h).state = .active then
        withHead s h { s.head h with outstanding := some { o with wait := .step } }
      else s.directoryStep h := by
  simp only [State.checkReport, if_neg bound, outOfRange_iff, if_neg inRange, State.setWait_step present,
    Bool.and_eq_true, decide_eq_true_eq]

/-- R108: the service of a RELEASE, whose own head is not handed a claim by it. -/
theorem State.checkRelease_bound {k : TileKey} {c : Nat} (present : (s.head h).outstanding = some o)
    (served : o.wait = .inService) (bound : (s.head h).state ≠ .unbound) (copy : (s.head h).boundCopy = some k.copy)
    (names : NamesCell r.row r.col k c) : s.checkRelease h r =
      if k ∈ (s.claim h).slots then answered (s.release h k) h o .released 0 0 else answered s h o .notHeld 0 0 := by
  have inRange : ¬(4095 < r.row ∨ 4095 < r.col) := by
    obtain ⟨row, col, inTile⟩ := names
    have := k.row.isLt
    have := k.col.isLt
    omega
  have unparked : (s.head h).parked = false := by rw [HeadUnit.parked_some present]; simp [served]
  have unit : (s.release h k).head h = s.head h := State.releaseFrom_head_of_unparked 8 h k unparked
  have still : ((s.release h k).head h).outstanding = some o := by rw [unit, present]
  simp only [State.checkRelease, if_neg bound, outOfRange_iff, if_neg inRange, State.serveRelease, copy,
    cellKey_of_namesCell names, List.contains_iff_mem, State.endRequest_some present, State.endRequest_some still]

/-- R129: the outstanding request as it arrives. -/
def Request.arrived (r : Request) : Outstanding :=
  { req := r, wait := .inService, key := none, orphaned := false, silent := false }

theorem State.becomeOutstanding_eq (s : State) (h : HeadNo) (r : Request) : s.becomeOutstanding h r =
    match r.kind with
    | .probe => (s.setOutstanding h (some r.arrived)).checkProbe h r
    | .report => (s.setOutstanding h (some r.arrived)).checkReport h r
    | .release => (s.setOutstanding h (some r.arrived)).checkRelease h r :=
  rfl

/-- The first two checks are the same for every kind. -/
theorem State.becomeOutstanding_unbound (unbound : (s.head h).state = .unbound) : s.becomeOutstanding h r =
    (s.setOutstanding h (some r.arrived)).endRequest h .unbound 0 0 := by
  have still : ((s.setOutstanding h (some r.arrived)).head h).state = .unbound := by
    rw [State.setOutstanding, State.head_onHead_same]
    exact unbound
  cases kind : r.kind <;>
    simp only [State.becomeOutstanding_eq, kind, State.checkProbe, State.checkReport, State.checkRelease, still, if_true]

theorem State.becomeOutstanding_outOfRange (bound : (s.head h).state ≠ .unbound) (out : 4095 < r.row ∨ 4095 < r.col) :
    s.becomeOutstanding h r =
    (s.setOutstanding h (some r.arrived)).endRequest h .outOfRange 0 0 := by
  have still : ((s.setOutstanding h (some r.arrived)).head h).state ≠ .unbound := by
    rw [State.setOutstanding, State.head_onHead_same]
    exact bound
  cases kind : r.kind <;>
    simp only [State.becomeOutstanding_eq, kind, State.checkProbe, State.checkReport, State.checkRelease, still,
      outOfRange_iff, out, if_true, if_false]

end

/-- Settles O40, check by check. -/
theorem requestChecksInOrder : Obligations.RequestChecksInOrder := by
  unfold Obligations.RequestChecksInOrder
  intro s h r o hu t waits out
  have unit : t.head h = { hu with outstanding := some o } := s.head_withHead h _
  have present : (t.head h).outstanding = some o := by rw [unit]
  have state : (t.head h).state = hu.state := by rw [unit]
  have waiting : withHead t h { t.head h with outstanding := some { o with wait := .step } } = waits := by
    rw [unit]
    exact withHead_withHead s h _ _
  refine ⟨fun unbound => ?_, fun bound outside => ?_, fun bound inside kind => ?_, fun bound inside kind => ?_,
    fun k c bound copy names kind => ?_⟩
  · exact (State.becomeOutstanding_unbound unbound).trans (State.endRequest_some present ..)
  · exact (State.becomeOutstanding_outOfRange bound outside).trans (State.endRequest_some present ..)
  · have checks : s.becomeOutstanding h r = t.checkProbe h r := by simp only [State.becomeOutstanding, kind]; rfl
    rw [checks, State.checkProbe_bound present (by rwa [state]) inside, waiting, unit]
    rfl
  · have checks : s.becomeOutstanding h r = t.checkReport h r := by simp only [State.becomeOutstanding, kind]; rfl
    rw [checks, State.checkReport_bound present (by rwa [state]) inside, waiting, unit]
  · have checks : s.becomeOutstanding h r = t.checkRelease h r := by simp only [State.becomeOutstanding, kind]; rfl
    rw [checks, State.checkRelease_bound present rfl (by rwa [state]) (by rw [unit]; exact copy) names]
    rfl

/-! ## The directory step (R25, R60) -/

/-- R60: the request joins the copy-wait list. -/
theorem State.parkCopy_eq {s : State} {h : HeadNo} {o : Outstanding} (present : (s.head h).outstanding = some o) :
    s.parkCopy h = { withHead s h { s.head h with outstanding := some { o with wait := .copy } } with
      engine := { s.engine with waiting := s.engine.waiting ++ [h] } } := by
  have shape : s.parkCopy h = { withHead s h { s.head h with
      outstanding := (s.head h).outstanding.map (fun o => { o with wait := .copy }) } with
        engine := { s.engine with waiting := s.engine.waiting ++ [h] } } := rfl
  rw [shape, present]
  rfl

/-- Settles O41, by the entry and its state. -/
theorem directoryStepDecides : Obligations.DirectoryStepDecides := by
  unfold Obligations.DirectoryStepDecides
  intro s h o k c outstanding copy names o1 t
  have unit : t.head h = { s.head h with outstanding := some o1 } := s.head_withHead h _
  have present : (t.head h).outstanding = some o1 := by rw [unit]
  have key := cellKey_of_namesCell names
  have entry : t.entry k = s.entry k := rfl
  have step : s.directoryStep h = match t.entry k with
      | none => t.endRequest h .notLoaded 0 0
      | some e =>
        match e.state with
        | .filling => t.endRequest h .notReady 0 0
        | .copying => t.parkCopy h
        | .live => if (t.copy k.copy).shared then t.claimStep h k else t.proceed h
        | .done => t.proceed h := by
    simp only [State.directoryStep, outstanding, copy, key] <;> rfl
  rw [step, entry]
  refine ⟨fun absent => ?_, fun e resident => ⟨fun filling => ?_, fun copying => ?_, fun live shared => ?_,
    fun live unshared => ?_, fun done => ?_⟩⟩
  · rw [absent]
    exact State.endRequest_some present ..
  · simp only [resident, filling]
    exact State.endRequest_some present ..
  · simp only [resident, copying]
    rw [State.parkCopy_eq present, unit]
    exact congrArg (fun u => { u with engine := { s.engine with waiting := s.engine.waiting ++ [h] } })
      (withHead_withHead s h _ _)
  · simp only [resident, live]
    exact if_pos shared
  · simp only [resident, live]
    exact (if_neg (Bool.eq_false_iff.1 unshared)).trans (t.proceed_eq h)
  · simp only [resident, done]
    exact t.proceed_eq h

end Sys2Proof.Machine
end

section
/-! PROOFS. R19, R26, R65, R81, R111, R122, R158: the store's grant goes round the ring, and a head's unit looks at its
entry again before it serves. -/

namespace Sys2Proof.Machine

open Sys2Proof.Safety

/-! ## The ring (R19) -/

theorem Requester.ringAfter_eq (r : Requester) : r.ringAfter = ringFrom r := by
  have heads : ∀ h : HeadNo, (Requester.hu h).ringAfter = ringFrom (.hu h) := by decide
  cases r with
  | hu h => exact heads h
  | cp => decide
  | ce => decide

theorem State.nextGrant_eq (s : State) (last : Requester) :
    s.nextGrant last = (ringFrom last).find? (fun r => s.presents r) :=
  congrArg (List.find? _) last.ringAfter_eq

theorem Requester.ringIndex_lt (r : Requester) : r.ringIndex < 10 := by
  cases r with
  | hu h => exact h.isLt.trans (by decide)
  | cp => decide
  | ce => decide

theorem Requester.eq_of_ringIndex {r r' : Requester} (same : r.ringIndex = r'.ringIndex) : r = r' := by
  have low : ∀ h : HeadNo, (Requester.hu h).ringIndex = h.val := fun _ => rfl
  cases r <;> cases r' <;> simp_all [Requester.ringIndex, Fin.ext_iff] <;> omega

/-- A requester's distance from the last grant, in the order of the ring. -/
theorem idxOf_ringFrom (last r : Requester) : (ringFrom last).idxOf r = (r.ringIndex + 9 - last.ringIndex) % 10 := by
  have heads : ∀ g h : HeadNo, (ringFrom (.hu g)).idxOf (.hu h) = (h.val + 9 - g.val) % 10 := by decide
  have port : ∀ g : HeadNo, (ringFrom (.hu g)).idxOf .cp = (8 + 9 - g.val) % 10 ∧
      (ringFrom (.hu g)).idxOf .ce = (9 + 9 - g.val) % 10 ∧ (ringFrom .cp).idxOf (.hu g) = (g.val + 9 - 8) % 10 ∧
      (ringFrom .ce).idxOf (.hu g) = (g.val + 9 - 9) % 10 := by decide
  cases last with
  | hu g =>
    cases r with
    | hu h => exact heads g h
    | cp => exact (port g).1
    | ce => exact (port g).2.1
  | cp =>
    cases r with
    | hu h => exact (port h).2.2.1
    | cp => decide
    | ce => decide
  | ce =>
    cases r with
    | hu h => exact (port h).2.2.2
    | cp => decide
    | ce => decide

/-- The ring finds the nearest that presents. -/
theorem State.idxOf_nextGrant_lt {s : State} {last next r : Requester} (presents : s.presents r = true)
    (grant : s.nextGrant last = some next) (other : next ≠ r) :
    (ringFrom last).idxOf next < (ringFrom last).idxOf r := by
  rw [State.nextGrant_eq] at grant
  obtain ⟨-, before, after, split, absent⟩ := List.find?_eq_some_iff_append.1 grant
  have notBefore : r ∉ before := fun listed => by simpa [presents] using absent r listed
  have first : (ringFrom last).idxOf next ≤ before.length := by
    rw [split, List.idxOf_append]
    split_ifs with listed
    · exact (List.idxOf_lt_length_of_mem listed).le
    · simp
  have second : (ringFrom last).idxOf r = (next :: after).idxOf r + before.length := by
    rw [split, List.idxOf_append, if_neg notBefore]
  have later : (next :: after).idxOf r = (after.idxOf r).succ := List.idxOf_cons_ne _ other
  omega

/-- R19: each grant to another brings one that waits nearer. -/
theorem State.nextGrant_nearer {s : State} {last next r : Requester} (presents : s.presents r = true)
    (grant : s.nextGrant last = some next) (other : next ≠ r) :
    (ringFrom next).idxOf r < (ringFrom last).idxOf r := by
  have nearer := State.idxOf_nextGrant_lt presents grant other
  have differ : next.ringIndex ≠ r.ringIndex := fun same => other (Requester.eq_of_ringIndex same)
  have := next.ringIndex_lt
  have := last.ringIndex_lt
  have := r.ringIndex_lt
  rw [idxOf_ringFrom, idxOf_ringFrom] at nearer ⊢
  omega

theorem State.presents_hu (s : State) (h : HeadNo) : s.presents (.hu h) = true ↔
    ∃ o, (s.head h).outstanding = some o ∧ o.wait = .inService := by
  cases outstanding : (s.head h).outstanding <;> simp [State.presents, HeadUnit.inService, outstanding]

/-! ## The re-check (R26) -/

section

variable {s : State} {h : HeadNo} {o : Outstanding} {k : TileKey} {e : Entry}
  (serve : State → HeadNo → Outstanding → Entry → State)

/-- R26: an entry that is gone, or a later one under the same key. -/
theorem State.recheck_gone (outstanding : (s.head h).outstanding = some o)
    (gone : o.orphaned = true ∨ ∀ e, s.entry k = some e → e.state = .filling) :
    s.recheck h o k serve = answered s h o .notLoaded 0 0 := by
  have nothing : s.requestEntry o k = none := by
    rw [State.requestEntry]
    split_ifs with orphaned
    · rfl
    · cases entry : s.entry k with
      | none => rfl
      | some e => exact if_pos (gone.resolve_left orphaned e entry)
  rw [State.recheck, nothing]
  exact State.endRequest_some outstanding ..

theorem State.requestEntry_some (present : o.orphaned = false) (resident : s.entry k = some e)
    (loaded : e.state ≠ .filling) : s.requestEntry o k = some e := by
  rw [State.requestEntry, present, resident]
  exact if_neg loaded

/-- R26, R122, R158: a unit that meets its entry COPYING. -/
theorem State.recheck_copying_ends (outstanding : (s.head h).outstanding = some o) (present : o.orphaned = false)
    (resident : s.entry k = some e) (copying : e.state = .copying)
    (ends : (s.head h).state = .unbound ∨ o.silent = true) :
    s.recheck h o k serve = answered s h o .unbound 0 0 := by
  have found := State.requestEntry_some (s := s) (k := k) present resident (by rw [copying]; decide)
  have test : (o.silent || decide ((s.head h).state = .unbound)) = true := by simpa [or_comm] using ends
  rw [State.recheck, found]
  exact (if_pos copying).trans ((if_pos test).trans (State.endRequest_some outstanding ..))

theorem State.recheck_copying_parks (outstanding : (s.head h).outstanding = some o) (present : o.orphaned = false)
    (resident : s.entry k = some e) (copying : e.state = .copying) (bound : (s.head h).state ≠ .unbound)
    (loud : o.silent = false) : s.recheck h o k serve =
      { withHead s h { s.head h with outstanding := some { o with wait := .copy } } with
        engine := { s.engine with waiting := s.engine.waiting ++ [h] } } := by
  have found := State.requestEntry_some (s := s) (k := k) present resident (by rw [copying]; decide)
  have test : ¬(o.silent || decide ((s.head h).state = .unbound)) = true := by simp [loud, bound]
  rw [State.recheck, found]
  exact (if_pos copying).trans ((if_neg test).trans (State.parkCopy_eq outstanding))

/-- R26: a tile of a shared copy that is not the head's own goes back to the claim step. -/
theorem State.recheck_claims (present : o.orphaned = false) (resident : s.entry k = some e) (live : e.state = .live)
    (shared : (s.copy k.copy).shared = true) (other : e.owner ≠ some h) :
    s.recheck h o k serve = s.claimStep h k := by
  have found := State.requestEntry_some (s := s) (k := k) present resident (by rw [live]; decide)
  rw [State.recheck, found]
  exact (if_neg (by rw [live]; decide)).trans (if_pos ⟨live, shared, other⟩)

end

/-! ## The unit around it -/

/-- R111, R158: the claim of a report carried on is released where the report ends. -/
def State.carriedOn (s : State) (h : HeadNo) (o : Outstanding) (k : TileKey) : State :=
  if o.silent = true ∧ o.req.kind = .report ∧ (s.head h).outstanding = none ∧ s.ownerOf k = some h then s.release h k
  else s

theorem State.releaseCarriedOn_eq {o : Outstanding} (report : o.req.kind = .report) (s : State) (h : HeadNo)
    (k : TileKey) : s.releaseCarriedOn h o k = s.carriedOn h o k := by
  simp only [State.releaseCarriedOn, State.carriedOn, report, Bool.and_eq_true, decide_eq_true_eq, true_and, and_assoc,
    Option.isNone_iff_eq_none]

theorem State.carriedOn_probe {o : Outstanding} (probe : o.req.kind = .probe) (s : State) (h : HeadNo) (k : TileKey) :
    s.carriedOn h o k = s :=
  if_neg (by simp [probe])

/-- R20: the row of a probe's store unit runs it where the head holds the grant. -/
theorem exec_probeUnit {s : State} {h : HeadNo} {o : Outstanding} {k : TileKey} (granted : HeadUnitGranted s h o k)
    (kind : o.req.kind = .probe) : exec (.probeUnit h) s = .next (s.probeUnit h o k) := by
  obtain ⟨outstanding, service, key, grant⟩ := granted
  simp only [exec, execProbeUnit, State.headUnitStep, outstanding, key, grant, service, kind, and_self, if_true]

/-- R65, R86: both units are the re-check with the service of their kind, and what follows it. -/
theorem exec_headUnit {s : State} {h : HeadNo} {o : Outstanding} {k : TileKey} (granted : HeadUnitGranted s h o k)
    {row : Instr} (unit : (row = .probeUnit h ∧ o.req.kind = .probe) ∨ (row = .reportUnit h ∧ o.req.kind = .report)) :
    ∃ serve, exec row s = .next (afterHeadUnit ((s.recheck h o k serve).carriedOn h o k) h) := by
  obtain ⟨rfl, probe⟩ | ⟨rfl, report⟩ := unit
  · refine ⟨State.serveProbe, ?_⟩
    rw [exec_probeUnit granted probe, State.carriedOn_probe probe]
    rfl
  · refine ⟨State.serveReport, ?_⟩
    rw [exec_reportUnit granted report, ← State.releaseCarriedOn_eq report]
    rfl

/-- Settles O43: the re-check by the entry, and the ring. -/
theorem headUnitRechecks : Obligations.HeadUnitRechecks := by
  unfold Obligations.HeadUnitRechecks
  refine ⟨fun s h o k granted row unit => ?_, State.nextGrant_eq, State.presents_hu, fun s => ⟨Iff.rfl, Iff.rfl⟩,
    fun s last next r => State.nextGrant_nearer⟩
  intro released tail
  obtain ⟨serve, runs⟩ := exec_headUnit granted unit
  have outstanding := granted.1
  rw [runs]
  have ends : ∀ t, s.recheck h o k serve = t →
      Host.Outcome.next (afterHeadUnit ((s.recheck h o k serve).carriedOn h o k) h) =
        (Host.Outcome.next (tail t) : Result) := by
    rintro _ rfl
    rfl
  refine ⟨fun gone => ends _ (State.recheck_gone serve outstanding gone), fun e present resident =>
    ⟨fun copying unbound => ends _ (State.recheck_copying_ends serve outstanding present resident copying unbound),
      fun copying bound loud => ?_,
      fun live shared other => ends _ (State.recheck_claims serve present resident live shared other)⟩⟩
  rw [State.recheck_copying_parks serve outstanding present resident copying bound loud, State.carriedOn, if_neg]
  simp [loud]

/-! ## A PROBE's unit (R65, R81, R122) -/

/-- R65: the service of a probe, on the named cell. -/
theorem State.serveProbe_eq {s : State} {h : HeadNo} {o : Outstanding} {k : TileKey} {e : Entry} {c : Nat} {b : Fin 8}
    (outstanding : (s.head h).outstanding = some o) (resident : s.entry k = some e)
    (names : NamesCell o.req.row o.req.col k c) (takes : BandTakes s k.copy o.req.row b) :
    s.serveProbe h o e =
      (let v := probeVerdict (decide (e.state = .done)) (s.store.read (e.slot * 64 + c)) (s.copy k.copy)
        (s.band k.copy b) (s.head h) (s.monitor h)
       if (s.head h).state = .unbound then answered s h o .unbound 0 0 else answered s h o v.status v.value v.dwell) := by
  have key : e.key = k := (State.entry_eq_some resident).2
  simp only [State.serveProbe, State.endRequest_some outstanding, cellIndex_of_namesCell names, key,
    State.bandRecord_of_bandTakes names takes]
  rfl

/-- Settles O44. -/
theorem probeUnitAnswers : Obligations.ProbeUnitAnswers := by
  unfold Obligations.ProbeUnitAnswers
  intro s h o k e c b granted probe present resident names takes ready v
  have checked := State.recheck_serves State.serveProbe present resident ready
  have served := State.serveProbe_eq granted.1 resident names takes
  rw [exec_probeUnit granted probe, State.probeUnit, checked, served]
  rfl

end Sys2Proof.Machine
end

section
/-! PROOFS. R85 to R94, R111, R158: a REPORT's unit keeps or records. -/

namespace Sys2Proof.Machine

open Sys2Proof.Safety

/-! ## What a recorded report leaves of the reporting head -/

/-- A head that is not parked keeps its unit where a tile enters DONE (R107). -/
theorem State.serveWaiters_head_of_unparked {s : State} {h : HeadNo} (unparked : (s.head h).parked = false)
    (waiters : List HeadNo) : (s.serveWaiters waiters).head h = s.head h := by
  have same : (s.head h).outstanding.map (fun o => { o with wait := .inService }) = (s.head h).outstanding := by
    cases outstanding : (s.head h).outstanding with
    | none => rfl
    | some o =>
      rw [HeadUnit.parked_some outstanding, decide_eq_false_iff_not, not_not] at unparked
      exact congrArg some (by rw [← unparked])
  rw [State.serveWaiters_eq, State.head]
  simp only [Bank.at_ofFn, same]
  split <;> rfl

theorem State.enterDone_head_of_unparked {s : State} {h : HeadNo} (unparked : (s.head h).parked = false)
    (k : TileKey) : (s.enterDone k).head h = s.head h := by
  rw [State.enterDone]
  split <;> exact Eq.trans (State.serveWaiters_head_of_unparked (by exact unparked) _) rfl

theorem State.finishIfNone_head_of_unparked {s : State} {h : HeadNo} (unparked : (s.head h).parked = false)
    (k : TileKey) : (s.finishIfNone k).head h = s.head h := by
  rw [State.finishIfNone]
  split
  · rfl
  · split
    · exact State.enterDone_head_of_unparked (s := s.onEntry k _) unparked k
    · rfl

/-- R30, R31: a unit that can only finish a tile is followed by the entry's state. -/
theorem State.finishIfNone_resident {s : State} {k : TileKey} {e : Entry} (resident : s.entry k = some e) :
    s.finishIfNone k = if e.state = .live ∧ e.remaining = 0 then s.followCount k else s := by
  simp only [State.finishIfNone, State.followCount, resident]
  split_ifs <;> rfl

/-! ## The parts of a recorded report -/

theorem State.onHead_onHead (s : State) (h : HeadNo) (f g : HeadUnit → HeadUnit) :
    (s.onHead h f).onHead h g = withHead s h (g (f (s.head h))) := by
  simp [State.onHead, State.head, withHead]

/-- R87, R88: the wear grows, and the tool may wear out. -/
theorem State.growWear_eq (s : State) (h : HeadNo) (removed rate : Nat) : s.growWear h removed rate =
    (let wear := min ((s.head h).wear + removed * rate) 262143
     let wornOut := decide (0 < (s.head h).wearLimit) && !(s.head h).worn && decide ((s.head h).wearLimit ≤ wear / 256)
     { withHead s h { s.head h with wear := wear, worn := (s.head h).worn || wornOut } with
       attn := if wornOut then s.attn.raise .worn else s.attn }) := by
  have unit : (s.onHead h (fun hu => { hu with wear := grownWear hu.wear removed rate })).head h =
    { s.head h with wear := grownWear (s.head h).wear removed rate } := State.head_onHead_same ..
  have reaches : ((s.onHead h (fun hu => { hu with wear := grownWear hu.wear removed rate })).head h).reachesLimit =
      (decide (0 < (s.head h).wearLimit) && !(s.head h).worn &&
        decide ((s.head h).wearLimit ≤ min ((s.head h).wear + removed * rate) 262143 / 256)) := by rw [unit]; rfl
  simp only [State.growWear, reaches]
  cases wornOut : (decide (0 < (s.head h).wearLimit) && !(s.head h).worn &&
      decide ((s.head h).wearLimit ≤ min ((s.head h).wear + removed * rate) 262143 / 256)) with
  | true =>
    simp only [State.onHead_onHead, Bool.or_true, if_true]
    rfl
  | false =>
    simp only [Bool.or_false, Bool.false_eq_true, if_false]
    rfl

/-- R89, R90: a recorded report moves the counts by what the cell changed. -/
theorem Entry.countReport_recorded (x : Entry) (old : Cell) (r overTol finishTol : Nat) :
    x.countReport old (old.recorded r overTol) finishTol = { x with
      overcut := if decide (old.target + overTol < r) = true ∧ old.overcut = false then x.overcut + 1 else x.overcut
      remaining := if old.cut + finishTol < old.target ∧ old.target ≤ r + finishTol then x.remaining - 1
        else x.remaining } := by
  have finishes : (((old.recorded r overTol).finished finishTol && !old.finished finishTol) = true) ↔
      old.cut + finishTol < old.target ∧ old.target ≤ r + finishTol := by
    simp only [Bool.and_eq_true, Bool.not_eq_true', Cell.finished, decide_eq_true_eq, decide_eq_false_iff_not, Nat.not_le]
    exact and_comm
  have marks : (((old.recorded r overTol).overcut && !old.overcut) = true) ↔
      decide (old.target + overTol < r) = true ∧ old.overcut = false := by
    simp only [Cell.recorded, Bool.and_eq_true, Bool.not_eq_true']
    cases old.overcut <;> simp
  simp only [Entry.countReport, finishes, marks]

/-- R92, R93, R94: the hold captures or counts the violation, and its head halts. -/
theorem State.noteViolation_halts (s : State) (v : Violation) (h : HeadNo) :
    (s.noteViolation v).onHead h HeadUnit.haltByViolation =
      (let held := withHead s h { s.head h with
        state := if (s.head h).state = .unbound then .unbound else .halted }
       match s.hold.record with
       | none => { held with hold := { s.hold with record := some v }, attn := s.attn.raise .violation }
       | some _ => { held with hold := { s.hold with count := min (s.hold.count + 1) 255 } }) := by
  have halts : ∀ hu : HeadUnit, hu.haltByViolation =
      { hu with state := if hu.state = .unbound then .unbound else .halted } := by
    intro hu
    rw [HeadUnit.haltByViolation]
    split
    next unbound => exact congrArg (fun t => { hu with state := t }) unbound
    next => rfl
  cases record : s.hold.record with
  | none =>
    simp only [State.noteViolation, record, State.onHead, halts]
    rfl
  | some _ =>
    simp only [State.noteViolation, record, State.onHead, halts]
    rfl

/-! ## The service (R85, R86) -/

/-- R86 to R90: what a recorded report does to the cell, the head, the counts and the flags. -/
def State.recorded (s : State) (h : HeadNo) (k : TileKey) (e : Entry) (c r rate : Nat) : State :=
  let old := s.store.read (e.slot * 64 + c)
  let cr := s.copy k.copy
  let hu := s.head h
  let deep := decide (old.target + cr.overTol < r)
  let wear := min (hu.wear + (r - old.cut) * rate) 262143
  let wornOut := decide (0 < hu.wearLimit) && !hu.worn && decide (hu.wearLimit ≤ wear / 256)
  { withHead s h { hu with wear := wear, worn := hu.worn || wornOut } with
    store := s.store.write (e.slot * 64 + c) { old with cut := r, overcut := old.overcut || deep }
    attn := if wornOut then s.attn.raise .worn else s.attn
    dir := s.dir.map (fun x => if x.key = k then
      { x with
        overcut := if deep = true ∧ old.overcut = false then x.overcut + 1 else x.overcut
        remaining := if old.cut + cr.finishTol < old.target ∧ old.target ≤ r + cr.finishTol then x.remaining - 1
          else x.remaining } else x) }

section

variable {s : State} {h : HeadNo} {o : Outstanding} {k : TileKey} {e : Entry} {c : Nat} {b : Fin 8}

/-- R86: the violation, if the depth makes one, comes after the tile may have finished. -/
theorem State.record_eq (resident : s.entry k = some e) (names : NamesCell o.req.row o.req.col k c)
    (takes : BandTakes s k.copy o.req.row b) : s.record h o e =
      (let old := s.store.read (e.slot * 64 + c)
       let limit := classBound (s.head h).toolClass (s.copy k.copy) old
       let t := (s.recorded h k e c o.req.depth (s.band k.copy b).wearRate).finishIfNone k
       match violationOf o.req.depth limit old.target (s.copy k.copy).overTol with
       | none => t
       | some kind => (t.noteViolation { head := h, tile := k, cell := c, reached := o.req.depth, limit := limit
                                         kind := kind }).onHead h HeadUnit.haltByViolation) := by
  have key : e.key = k := (State.entry_eq_some resident).2
  have recorded : (((s.onCell e c (fun _ => (s.cell e c).recorded o.req.depth (s.copy k.copy).overTol)).growWear h
      (o.req.depth - (s.cell e c).cut) (s.band k.copy b).wearRate).onEntry k (fun x => x.countReport (s.cell e c)
        ((s.cell e c).recorded o.req.depth (s.copy k.copy).overTol) (s.copy k.copy).finishTol)) =
      s.recorded h k e c o.req.depth (s.band k.copy b).wearRate := by
    simp only [State.growWear_eq, Entry.countReport_recorded]
    rfl
  simp only [State.record, cellIndex_of_namesCell names, key, State.bandRecord_of_bandTakes names takes, recorded,
    classLimit_eq_classBound]
  rfl

theorem State.serveReport_kept (outstanding : (s.head h).outstanding = some o) (names : NamesCell o.req.row o.req.col k c)
    (shallow : o.req.depth ≤ (s.store.read (e.slot * 64 + c)).cut) :
    s.serveReport h o e = answered s h o .kept (s.store.read (e.slot * 64 + c)).cut 0 := by
  simp only [State.serveReport, cellIndex_of_namesCell names, State.endRequest_some outstanding]
  exact if_pos shallow

/-- R86: a deeper report without a violation. -/
theorem State.serveReport_recorded (resident : s.entry k = some e) (names : NamesCell o.req.row o.req.col k c)
    (takes : BandTakes s k.copy o.req.row b) (deeper : (s.store.read (e.slot * 64 + c)).cut < o.req.depth)
    (violation : violationOf o.req.depth
      (classBound (s.head h).toolClass (s.copy k.copy) (s.store.read (e.slot * 64 + c)))
      (s.store.read (e.slot * 64 + c)).target (s.copy k.copy).overTol = none) : s.serveReport h o e =
      ((s.recorded h k e c o.req.depth (s.band k.copy b).wearRate).finishIfNone k).endRequest h .recorded o.req.depth 0 := by
  have key : e.key = k := (State.entry_eq_some resident).2
  have cell : s.cell e c = s.store.read (e.slot * 64 + c) := rfl
  have record := State.record_eq (h := h) resident names takes
  simp only [violation] at record
  simp only [State.serveReport, cellIndex_of_namesCell names, key, classLimit_eq_classBound, cell,
    violation, record]
  exact if_neg (Nat.not_le.2 deeper)

/-- R86, R91: a deeper report with one. -/
theorem State.serveReport_overcut {kind : ViolationKind} (resident : s.entry k = some e)
    (names : NamesCell o.req.row o.req.col k c) (takes : BandTakes s k.copy o.req.row b)
    (deeper : (s.store.read (e.slot * 64 + c)).cut < o.req.depth)
    (violation : violationOf o.req.depth
      (classBound (s.head h).toolClass (s.copy k.copy) (s.store.read (e.slot * 64 + c)))
      (s.store.read (e.slot * 64 + c)).target (s.copy k.copy).overTol = some kind) : s.serveReport h o e =
      ((((s.recorded h k e c o.req.depth (s.band k.copy b).wearRate).finishIfNone k).noteViolation
        { head := h, tile := k, cell := c, reached := o.req.depth
          limit := classBound (s.head h).toolClass (s.copy k.copy) (s.store.read (e.slot * 64 + c))
          kind := kind }).onHead h HeadUnit.haltByViolation).endRequest h .overcut o.req.depth 0 := by
  have key : e.key = k := (State.entry_eq_some resident).2
  have cell : s.cell e c = s.store.read (e.slot * 64 + c) := rfl
  have record := State.record_eq (h := h) resident names takes
  simp only [violation] at record
  simp only [State.serveReport, cellIndex_of_namesCell names, key, classLimit_eq_classBound, cell,
    violation, record]
  exact if_neg (Nat.not_le.2 deeper)

end

@[simp] theorem HeadUnit.haltByViolation_outstanding (hu : HeadUnit) :
    hu.haltByViolation.outstanding = hu.outstanding := by
  rw [HeadUnit.haltByViolation]
  split <;> rfl

/-- R91: the kinds of violation exclude each other. -/
theorem violationOf_none {r limit target overTol : Nat} (below : limit ≤ target) (inside : r ≤ limit + overTol) :
    violationOf r limit target overTol = none := by
  rw [violationOf, if_neg (by omega), if_neg (by omega)]

theorem violationOf_surface {r target overTol : Nat} (limit : Nat) (deep : target + overTol < r) :
    violationOf r limit target overTol = some .surface := if_pos deep

theorem violationOf_allowance {r limit target overTol : Nat} (past : limit + overTol < r)
    (shallow : r ≤ target + overTol) : violationOf r limit target overTol = some .allowance := by
  rw [violationOf, if_neg (by omega), if_pos past]

theorem answered_outstanding (s : State) (h : HeadNo) (o : Outstanding) (status : Status) (value dwell : Nat) :
    ((answered s h o status value dwell).head h).outstanding = none := by
  have ended : ((withHead s h { s.head h with outstanding := none }).head h).outstanding = none := by
    rw [State.head_withHead]
  rw [answered]
  split
  · exact ended
  · exact ended

/-- Settles O47: the service of the report by its depth, then the claim of a report carried on. -/
theorem reportUnitRecords : Obligations.ReportUnitRecords := by
  unfold Obligations.ReportUnitRecords
  refine ⟨fun s h o k e c b granted report present resident names takes ready => ?_,
    fun s k e resident => State.finishIfNone_resident resident⟩
  intro tail r old cr hu
  have outstanding := granted.1
  have unparked : (s.head h).parked = false := by rw [HeadUnit.parked_some outstanding]; simp [granted.2.1]
  have checked := State.recheck_serves State.serveReport present resident ready
  have runs : ∀ t status value, s.serveReport h o e = answered t h o status value 0 →
      exec (.reportUnit h) s = .next (tail (answered t h o status value 0)) := by
    intro t status value served
    rw [exec_reportUnit granted report, State.reportUnit, checked, served, State.releaseCarriedOn_eq report,
      State.carriedOn, answered_outstanding]
    simp only [report, true_and]
    rfl
  refine ⟨fun shallow => runs _ _ _ (State.serveReport_kept outstanding names shallow), fun deeper => ?_⟩
  intro limit deep new wear wornOut finishes recorded t violated
  have below : limit ≤ old.target := classBound_le_target _ _ _
  have recordedHead : recorded.head h = { hu with wear := wear, worn := hu.worn || wornOut } := State.head_withHead s h _
  have finished : t.head h = recorded.head h :=
    State.finishIfNone_head_of_unparked (s := recorded) (by rw [recordedHead]; exact unparked) k
  have still : (t.head h).outstanding = some o := by rw [finished, recordedHead]; exact outstanding
  have state : (t.head h).state = hu.state := by rw [finished, recordedHead]
  have hold : t.hold = s.hold := State.finishIfNone_hold recorded k
  have recorded_of_none : violationOf r limit old.target cr.overTol = none →
      s.serveReport h o e = answered t h o .recorded r 0 := by
    intro violation
    rw [State.serveReport_recorded resident names takes deeper violation]
    exact State.endRequest_some still ..
  have overcut_of_some : ∀ kind, violationOf r limit old.target cr.overTol = some kind →
      s.serveReport h o e = answered (violated kind) h o .overcut r 0 := by
    intro kind violation
    have violates : (t.noteViolation { head := h, tile := k, cell := c, reached := r, limit := limit
                                       kind := kind }).onHead h HeadUnit.haltByViolation = violated kind := by
      rw [State.noteViolation_halts, state, hold] <;> rfl
    have halted : ((violated kind).head h).outstanding = some o := by
      rw [← violates, State.head_onHead_same, HeadUnit.haltByViolation_outstanding, State.head, State.noteViolation_heads]
      exact still
    rw [State.serveReport_overcut resident names takes deeper violation, ← State.endRequest_some halted, ← violates]
    rfl
  exact ⟨fun inside => runs _ _ _ (recorded_of_none (violationOf_none below inside)),
    fun surface => runs _ _ _ (overcut_of_some .surface (violationOf_surface limit surface)),
    fun past inside => runs _ _ _ (overcut_of_some .allowance (violationOf_allowance past inside))⟩

end Sys2Proof.Machine
end

section
/-! PROOFS. R59, R63: a transfer, and the completion of a duplication. R157, R158, R111: LINK RESET. -/

namespace Sys2Proof.Machine

open Sys2Proof.Safety

/-! ## The transfers (R59, R63) -/

section

variable {s : State} {job : CopyJob} {src dst : Entry}

/-- R59: the cell that a transfer writes. -/
theorem State.transferCell_eq (source : s.entry job.source = some src) (dest : s.entry job.dest = some dst) :
    s.transferCell job = { s with
      store := s.store.write (dst.slot * 64 + s.engine.next) {
        target := (s.store.read (src.slot * 64 + s.engine.next)).target, cut := 0
        fence := (s.store.read (src.slot * 64 + s.engine.next)).fence, overcut := false } } := by
  rw [State.transferCell, source, dest]
  rfl

/-- R63, items 2 and 3: the destination is counted, and nothing waits for it. -/
theorem State.completeDest_eq {k : TileKey} (distinct : KeysDistinct s) (dest : s.entry k = some dst)
    (unowned : dst.owner = none) (unwaited : dst.waiters = []) {remaining : Nat}
    (count : remaining = s.store.countCells dst.slot (fun c => decide ((s.copy k.copy).finishTol < c.target))) :
    s.completeDest k = { s with
      dir := s.dir.map (fun x => if x.key = k then
        { x with state := if decide (remaining = 0) then .done else .live, remaining := remaining, overcut := 0 } else x)
      done := if decide (remaining = 0) then s.done ++ [k] else s.done
      attn := if decide (remaining = 0) then s.attn.raise .doneReady else s.attn } := by
  have counted : s.completeDest k =
      (if remaining = 0 then (s.onEntry k (fun x => { x with
          state := if remaining = 0 then .done else .live, remaining := remaining, overcut := 0 })).enterDone k
        else s.onEntry k (fun x => { x with
          state := if remaining = 0 then .done else .live, remaining := remaining, overcut := 0 })) := by
    rw [State.completeDest, dest, count]
  rw [counted]
  by_cases finished : remaining = 0
  · have moved : (s.onEntry k (fun x => { x with
        state := if remaining = 0 then .done else .live, remaining := remaining, overcut := 0 })).entry k = _ :=
      State.onEntry_entry dest fun _ => rfl
    have distinct' := State.keysDistinct_onEntry distinct k (f := fun x => { x with
        state := if remaining = 0 then .done else .live, remaining := remaining, overcut := 0 }) fun _ => rfl
    rw [if_pos finished, State.enterDone_unclaimed distinct' moved unowned unwaited]
    simp only [finished, decide_true, if_true]
    rfl
  · rw [if_neg finished]
    simp only [finished, decide_false, Bool.false_eq_true, if_false]
    rfl

/-- R63, items 1 to 5. -/
theorem State.copyCompleted_eq {before : TileState} (distinct : KeysDistinct s) (source : s.entry job.source = some src)
    (ret : src.ret = some before) (dest : s.entry job.dest = some dst) (other : job.source ≠ job.dest)
    (unowned : dst.owner = none) (unwaited : dst.waiters = []) {remaining : Nat}
    (count : remaining = s.store.countCells dst.slot (fun c => decide ((s.copy job.dest.copy).finishTol < c.target))) :
    s.completeCopy job = s.engine.waiting.foldl (fun t h => (t.directoryStep h).settle h) { s with
      dir := s.dir.map (fun x =>
        if x.key = job.source then { x with state := before, ret := none }
        else if x.key = job.dest then
          { x with state := if decide (remaining = 0) then .done else .live, remaining := remaining, overcut := 0 }
        else x)
      done := if decide (remaining = 0) then s.done ++ [job.dest] else s.done
      attn := (if decide (remaining = 0) then s.attn.raise .doneReady else s.attn).raise .copyDone
      engine := { job := none, next := 0, waiting := [] } } := by
  have returned : s.onEntry job.source Entry.returnFromCopy =
      s.onEntry job.source (fun x => { x with state := before, ret := none }) :=
    congrArg (fun dir => { s with dir := dir })
      (map_entry_congr distinct source (by simp only [Entry.returnFromCopy, ret, Option.getD_some]))
  have distinct' := State.keysDistinct_onEntry distinct job.source
    (f := fun x => { x with state := before, ret := none }) fun _ => rfl
  have dest' : (s.onEntry job.source (fun x => { x with state := before, ret := none })).entry job.dest = some dst :=
    State.onEntry_entry_other dest other.symm fun _ => rfl
  have completed := State.completeDest_eq distinct' dest' unowned unwaited (remaining := remaining) count
  have dir : (s.dir.map (fun x => if x.key = job.source then { x with state := before, ret := none } else x)).map
      (fun x => if x.key = job.dest then
        { x with state := if decide (remaining = 0) then .done else .live, remaining := remaining, overcut := 0 } else x) =
      s.dir.map (fun x =>
        if x.key = job.source then { x with state := before, ret := none }
        else if x.key = job.dest then
          { x with state := if decide (remaining = 0) then .done else .live, remaining := remaining, overcut := 0 }
        else x) := by
    rw [List.map_map]
    refine List.map_congr_left fun x _ => ?_
    by_cases isSource : x.key = job.source
    · have notDest : ¬job.source = job.dest := other
      simp [isSource, notDest]
    · simp [isSource]
  rw [State.completeCopy_eq, State.copyCompleted, returned, completed, State.onEntry_dir, dir]
  rfl

end

/-- Settles O35: the transfer, and what the last one completes. -/
theorem copyTransferCopiesCell : Obligations.CopyTransferCopiesCell := by
  unfold Obligations.CopyTransferCopiesCell
  intro s job src dst busy granted source dest i read fresh wrote handOn
  have transfer : s.transferCell job = wrote := State.transferCell_eq source dest
  have runs : exec .copyTransfer s = .next (handOn
      (if i + 1 < 64 then wrote.onEngine (fun g => { g with next := g.next + 1 }) else wrote.completeCopy job)) := by
    have step : exec .copyTransfer s = .next (s.copyUnit job) := by simp only [exec, execCopyTransfer, busy, granted]
    rw [step, State.copyUnit, transfer]
    rfl
  rw [runs]
  refine ⟨fun short => ?_, fun last before ret distinct other unowned unwaited => ?_⟩
  · exact congrArg (fun t => Host.Outcome.next (handOn t)) (if_pos (Nat.succ_lt_succ short))
  · intro remaining done completed
    refine congrArg (fun t => Host.Outcome.next (handOn t)) ((if_neg (by omega)).trans ?_)
    exact State.copyCompleted_eq (s := wrote) distinct source ret dest other unowned unwaited rfl

/-! ## LINK RESET (R157, R158, R111) -/

section

variable {s : State} {h : HeadNo} {o : Outstanding}

/-- R158: a parked request leaves its list. -/
theorem State.resetOutstanding_parked (outstanding : (s.head h).outstanding = some o) (parked : o.wait ≠ .inService) :
    s.resetOutstanding h = withHead (s.leaveWait h) h { (s.leaveWait h).head h with outstanding := none } := by
  rw [State.resetOutstanding, outstanding]
  exact if_pos parked

/-- R158: a report on its way is carried on. -/
theorem State.resetOutstanding_report (outstanding : (s.head h).outstanding = some o) (served : o.wait = .inService)
    (report : o.req.kind = .report) :
    s.resetOutstanding h = withHead s h { s.head h with outstanding := some { o with silent := true } } := by
  rw [State.resetOutstanding, outstanding]
  exact (if_neg (not_not.2 served)).trans (if_pos report)

/-- R158: any other withdraws its access. -/
theorem State.resetOutstanding_withdraws (outstanding : (s.head h).outstanding = some o) (served : o.wait = .inService)
    (other : o.req.kind ≠ .report) :
    s.resetOutstanding h = (withHead s h { s.head h with outstanding := none }).withdraw (.hu h) := by
  rw [State.resetOutstanding, outstanding]
  exact (if_neg (not_not.2 served)).trans (if_neg other)

/-- R111: with no request carried on, every claim is released. -/
theorem State.resetClaims_all (idle : (s.head h).outstanding = none) : s.resetClaims h = (s.claim h).slots := by
  rw [State.resetClaims, idle]

theorem State.resetClaims_but (outstanding : (s.head h).outstanding = some o) :
    s.resetClaims h = (s.claim h).slots.filter (fun k => decide (o.key ≠ some k)) := by
  rw [State.resetClaims, outstanding]

end

/-- Settles O42, by the outstanding request. -/
theorem linkResetDrops : Obligations.LinkResetDrops := by
  unfold Obligations.LinkResetDrops
  intro s h s0 dropped releasing
  have unit : s0.head h = { s.head h with buffer := none } := State.head_withHead ..
  have claims : s0.claim h = s.claim h := rfl
  have runs : ∀ t, s0.resetOutstanding h = t →
      exec (.linkReset h) s = .next (releasing t (t.resetClaims h)) := by
    rintro _ rfl
    rfl
  refine ⟨fun idle => ?_, fun o present => ?_⟩
  · have still : (s0.head h).outstanding = none := by rw [unit]; exact idle
    have nothing : s0.resetOutstanding h = s0 := by rw [State.resetOutstanding, still]
    rw [runs _ nothing, State.resetClaims_all still, claims]
  · have still : (s0.head h).outstanding = some o := by rw [unit]; exact present
    have emptied : ∀ t : State, ((dropped t).head h).outstanding = none := fun t => by rw [State.head_withHead]
    refine ⟨fun parked => ?_, fun served report => ?_, fun served other => ?_⟩
    · have slots : ((dropped (s0.leaveWait h)).claim h).slots = (s.claim h).slots := s0.leaveWait_slots h h
      rw [runs _ (State.resetOutstanding_parked still parked), State.resetClaims_all (emptied _), slots]
    · rw [runs _ (State.resetOutstanding_report still served report),
        State.resetClaims_but (o := { o with silent := true }) (by rw [State.head_withHead])]
      rfl
    · intro t granted
      have withdrawn := State.withdraw_eq t (.hu h)
      rw [runs _ ((State.resetOutstanding_withdraws still served other).trans withdrawn)]
      exact congrArg (fun keys => Host.Outcome.next (releasing { t with arb := { t.arb with granted := granted } } keys))
        (State.resetClaims_all (emptied s0))

end Sys2Proof.Machine
end

section
/-! PROOFS. R39, R64, R180: CLEAR WORK empties the work and answers the requests that wait. -/

namespace Sys2Proof.Machine

open Sys2Proof.Safety

/-! ## The waits that end (R39) -/

/-- R39: the request is in claim or copy wait. -/
def Outstanding.Waits (o : Outstanding) : Prop := o.wait = .claim ∨ o.wait = .copy

/-- R39: the head unit once its claim or copy wait has ended. -/
def HeadUnit.cancelled (hu : HeadUnit) : HeadUnit :=
  { hu with outstanding := hu.outstanding.bind (fun o => if o.wait = .claim ∨ o.wait = .copy then none else some o) }

/-- R39: the answer to the request that waits. -/
def HeadUnit.cancelAnswers (hu : HeadUnit) : List Answer :=
  match hu.outstanding with
  | some o => if o.wait = .claim ∨ o.wait = .copy then [plain o.req.tag .cancelled] else []
  | none => []

/-- What CLEAR WORK has emptied before it answers: no list holds a head, and no timer runs. -/
structure Emptied (s : State) : Prop where
  dir : s.dir = []
  waiting : s.engine.waiting = []
  timer : ∀ h : HeadNo, (s.claim h).timer = none

section

variable {s : State} (gone : Emptied s)

include gone

theorem Emptied.stopTimer (h : HeadNo) : s.stopTimer h = s := by
  have unit : ({ s.claim h with timer := none } : ClaimUnit) = s.claim h := congrArg (ClaimUnit.mk _) (gone.timer h).symm
  rw [State.stopTimer, State.onClaim, unit]
  exact congrArg (fun claims => { s with claims := claims }) (Bank.put_same s.claims h)

/-- No list holds the head any more. -/
theorem Emptied.leaveWait (h : HeadNo) : s.leaveWait h = s := by
  have dir : ∀ (k : TileKey) (f : Entry → Entry), s.onEntry k f = s := fun k f => by
    rw [State.onEntry, gone.dir, List.map_nil]
    exact congrArg (fun dir => { s with dir := dir }) gone.dir.symm
  have engine : s.onEngine (fun e => { e with waiting := e.waiting.filter (fun x => decide (x ≠ h)) }) = s := by
    have same : ({ s.engine with waiting := [] } : CopyEngine) = s.engine :=
      congrArg (CopyEngine.mk _ _) gone.waiting.symm
    rw [State.onEngine, gone.waiting, List.filter_nil, same]
  rw [State.leaveWait]
  split
  · rfl
  · split
    · rfl
    · rfl
    · exact engine
    · split
      · exact gone.stopTimer h
      · rw [dir, gone.stopTimer]

end

/-- Behind a wait stands neither a buffered request nor a LINK RESET. -/
structure WorkGone (s : State) : Prop extends Emptied s where
  buffer : ∀ (h : HeadNo) (o : Outstanding), (s.head h).outstanding = some o → o.Waits → (s.head h).buffer = none
  loud : ∀ (h : HeadNo) (o : Outstanding), (s.head h).outstanding = some o → o.Waits → o.silent = false

section

variable {s : State} (gone : WorkGone s)

include gone

theorem WorkGone.cancelWaits (h : HeadNo) : s.cancelWaits h =
    sent (withHead s h (s.head h).cancelled) h (s.head h).cancelAnswers := by
  cases outstanding : (s.head h).outstanding with
  | none =>
    have still : (s.head h).cancelled = s.head h := by
      rw [HeadUnit.cancelled, outstanding]
      exact congrArg (fun o => { s.head h with outstanding := o }) outstanding.symm
    simp only [State.cancelWaits, HeadUnit.cancelAnswers, outstanding, still, withHead_self, sent_nil]
  | some o =>
    by_cases waits : o.wait = .claim ∨ o.wait = .copy
    · have empty : ((sent (withHead s h { s.head h with outstanding := none }) h [plain o.req.tag .cancelled]).head h).buffer =
          none := (congrArg HeadUnit.buffer (State.head_withHead s h _)).trans (gone.buffer h o outstanding waits)
      rw [plain] at empty
      simp only [State.cancelWaits, HeadUnit.cancelAnswers, HeadUnit.cancelled, outstanding, if_pos waits, gone.toEmptied.leaveWait,
        State.endRequest_some outstanding, State.settle_none empty, answered_loud (gone.loud h o outstanding waits),
        Option.bind_some, plain]
    · have still : (s.head h).cancelled = s.head h := by
        rw [HeadUnit.cancelled, outstanding, Option.bind_some, if_neg waits]
        exact congrArg (fun o => { s.head h with outstanding := o }) outstanding.symm
      simp only [State.cancelWaits, HeadUnit.cancelAnswers, outstanding, if_neg waits, still, withHead_self, sent_nil]

theorem WorkGone.answered (h : HeadNo) (answers : List Answer) :
    WorkGone (sent (withHead s h (s.head h).cancelled) h answers) := by
  have unit : ∀ g o, ((sent (withHead s h (s.head h).cancelled) h answers).head g).outstanding = some o → o.Waits →
      ((sent (withHead s h (s.head h).cancelled) h answers).head g) = s.head g := by
    intro g o outstanding waits
    by_cases here : g = h
    · subst here
      have same : (sent (withHead s g (s.head g).cancelled) g answers).head g = (s.head g).cancelled :=
        State.head_withHead ..
      rw [same, HeadUnit.cancelled] at outstanding
      obtain ⟨o', -, kept⟩ := Option.bind_eq_some_iff.1 outstanding
      obtain ⟨stays, same⟩ := Option.ite_none_left_eq_some.1 kept
      obtain rfl := Option.some.inj same
      exact absurd waits stays
    · exact Bank.at_put_other _ _ _ _ here
  exact ⟨⟨gone.dir, gone.waiting, gone.timer⟩,
    fun g o outstanding waits => by
      have same := unit g o outstanding waits
      rw [same] at outstanding ⊢
      exact gone.buffer g o outstanding waits,
    fun g o outstanding waits => by
      rw [unit g o outstanding waits] at outstanding
      exact gone.loud g o outstanding waits⟩

end

/-- The waits of a list of heads end, none named twice. -/
theorem WorkGone.foldl_cancelWaits {heads : List HeadNo} (distinct : heads.Nodup) {s : State} (gone : WorkGone s) :
    heads.foldl State.cancelWaits s = { s with
      heads := Vector.ofFn (fun h : HeadNo => if h ∈ heads then (s.head h).cancelled else s.head h)
      links := Vector.ofFn (fun h : HeadNo => if h ∈ heads
        then { s.link h with tx := (s.link h).tx ++ (s.head h).cancelAnswers } else s.link h) } := by
  induction heads generalizing s with
  | nil =>
    have units : (Vector.ofFn (fun h : HeadNo => s.head h) : Bank HeadUnit) = s.heads := Bank.ofFn_at _
    have links : (Vector.ofFn (fun h : HeadNo => s.link h) : Bank Link) = s.links := Bank.ofFn_at _
    simp only [List.foldl_nil, List.not_mem_nil, if_false, units, links]
  | cons w rest ih =>
    obtain ⟨new, distinctRest⟩ := List.nodup_cons.1 distinct
    have unit : ∀ h, (sent (withHead s w (s.head w).cancelled) w (s.head w).cancelAnswers).head h =
      if h = w then (s.head w).cancelled else s.head h := fun h => Bank.at_put _ _ _ _
    have link : ∀ h, (sent (withHead s w (s.head w).cancelled) w (s.head w).cancelAnswers).link h =
      if h = w then { s.link w with tx := (s.link w).tx ++ (s.head w).cancelAnswers } else s.link h :=
      fun h => Bank.at_put _ _ _ _
    rw [List.foldl_cons, gone.cancelWaits w, ih distinctRest (gone.answered w _)]
    simp only [unit, link]
    have units : (Vector.ofFn (fun h : HeadNo => if h ∈ rest then (if h = w then (s.head w).cancelled else s.head h).cancelled
        else if h = w then (s.head w).cancelled else s.head h) : Bank HeadUnit) =
        Vector.ofFn (fun h : HeadNo => if h ∈ w :: rest then (s.head h).cancelled else s.head h) := by
      refine Bank.ext fun h => ?_
      by_cases here : h = w
      · subst here
        simp [new]
      · simp [here]
    have links : (Vector.ofFn (fun h : HeadNo => if h ∈ rest then
          { (if h = w then { s.link w with tx := (s.link w).tx ++ (s.head w).cancelAnswers } else s.link h) with
            tx := (if h = w then { s.link w with tx := (s.link w).tx ++ (s.head w).cancelAnswers } else s.link h).tx ++
              (if h = w then (s.head w).cancelled else s.head h).cancelAnswers }
        else if h = w then { s.link w with tx := (s.link w).tx ++ (s.head w).cancelAnswers } else s.link h) : Bank Link) =
        Vector.ofFn (fun h : HeadNo => if h ∈ w :: rest
          then { s.link h with tx := (s.link h).tx ++ (s.head h).cancelAnswers } else s.link h) := by
      refine Bank.ext fun h => ?_
      by_cases here : h = w
      · subst here
        simp [new]
      · simp [here]
    rw [units, links]
    rfl

/-! ## CLEAR WORK -/

/-- R26: with every entry gone, every key that was presented is marked. -/
theorem HeadUnit.orphan_all (hu : HeadUnit) : hu.orphan (fun _ => true) =
    { hu with outstanding := hu.outstanding.map (fun o => { o with orphaned := o.orphaned || o.key.isSome }) } := by
  cases outstanding : hu.outstanding with
  | none =>
    simp only [HeadUnit.orphan, outstanding]
    exact congrArg (fun o => { hu with outstanding := o }) outstanding
  | some o =>
    cases key : o.key with
    | none =>
      have unmarked : ({ o with orphaned := o.orphaned || o.key.isSome } : Outstanding) = o :=
        congrArg (fun b => { o with orphaned := b }) (by simp [key])
      have left : hu.orphan (fun _ => true) = hu := by simp only [HeadUnit.orphan, outstanding, key]
      rw [left, Option.map_some, unmarked]
      exact congrArg (fun o => { hu with outstanding := o }) outstanding
    | some k => simp [HeadUnit.orphan, outstanding, key]

/-- R180: CLEAR WORK clears four flags. -/
theorem Attention.clearWork_eq (a : Attention) : a.clearWork = { a with flags := a.flags &&& 0xCC } := by
  have mask : ~~~(EventFlag.doneReady.mask ||| EventFlag.violation.mask ||| EventFlag.contested.mask |||
      EventFlag.copyDone.mask) = 0xCC := by decide
  rw [Attention.clearWork, mask]

/-- The state that CLEAR WORK leaves but for RESULT and the grant. -/
def State.workCleared (s : State) : State := { s with
  dir := [], freeSlots := List.range 128, done := []
  load := { s.load with openTile := none }
  engine := { job := none, next := 0, waiting := [] }
  hold := { record := none, count := 0 }
  claims := Vector.ofFn (fun _ : HeadNo => { slots := [], timer := none })
  heads := Vector.ofFn (fun h : HeadNo => { s.head h with outstanding := (s.head h).outstanding.bind (fun o =>
    if o.wait = .claim ∨ o.wait = .copy then none else some { o with orphaned := o.orphaned || o.key.isSome }) })
  links := Vector.ofFn (fun h : HeadNo => { s.link h with tx := (s.link h).tx ++ (s.head h).cancelAnswers })
  attn := { s.attn with flags := s.attn.flags &&& 0xCC } }

theorem State.cleared_head (s : State) (h : HeadNo) : s.cleared.head h =
    { s.head h with outstanding :=
      (s.head h).outstanding.map (fun o => { o with orphaned := o.orphaned || o.key.isSome }) } :=
  (Bank.at_map ..).trans (HeadUnit.orphan_all _)

/-- The waits that end are those that stood before the entries were removed. -/
theorem State.cleared_head_cancelled (s : State) (h : HeadNo) : (s.cleared.head h).cancelled =
      { s.head h with outstanding := (s.head h).outstanding.bind (fun o =>
        if o.wait = .claim ∨ o.wait = .copy then none else some { o with orphaned := o.orphaned || o.key.isSome }) } ∧
    (s.cleared.head h).cancelAnswers = (s.head h).cancelAnswers := by
  rw [State.cleared_head]
  cases outstanding : (s.head h).outstanding with
  | none => simp [HeadUnit.cancelled, HeadUnit.cancelAnswers, outstanding]
  | some o => simp [HeadUnit.cancelled, HeadUnit.cancelAnswers, outstanding]

theorem State.head_withdraw (s : State) (r : Requester) (h : HeadNo) : (s.withdraw r).head h = s.head h := by
  rw [State.withdraw_eq]
  rfl

/-- R129, R158: a buffered request stands behind one in service, and a parked request is not carried on. -/
def WaitsPlain (s : State) : Prop :=
  ∀ h : HeadNo, ((s.head h).buffer.isSome = true → (s.head h).inService = true) ∧
    ∀ o, (s.head h).outstanding = some o → o.wait ≠ .inService → o.silent = false

theorem State.cleared_emptied (s : State) (r : Requester) : Emptied (s.cleared.withdraw r) := by
  rw [State.withdraw_eq]
  exact ⟨rfl, rfl, fun h => congrArg ClaimUnit.timer (Bank.at_map ..)⟩

theorem State.cleared_workGone {s : State} (waitsPlain : WaitsPlain s) (r : Requester) :
    WorkGone (s.cleared.withdraw r) := by
  have unit : ∀ h o, ((s.cleared.withdraw r).head h).outstanding = some o → o.Waits →
      ∃ o', (s.head h).outstanding = some o' ∧ o'.wait ≠ .inService ∧ o.silent = o'.silent := by
    intro h o outstanding waits
    rw [State.head_withdraw, State.cleared_head] at outstanding
    obtain ⟨o', present, rfl⟩ := Option.map_eq_some_iff.1 outstanding
    refine ⟨o', present, ?_, rfl⟩
    rcases waits with wait | wait
    · exact fun served => absurd (served.symm.trans wait) (by decide)
    · exact fun served => absurd (served.symm.trans wait) (by decide)
  refine ⟨s.cleared_emptied r, fun h o outstanding waits => ?_, fun h o outstanding waits => ?_⟩
  · obtain ⟨o', present, parked, -⟩ := unit h o outstanding waits
    have buffer : ((s.cleared.withdraw r).head h).buffer = (s.head h).buffer := by
      rw [State.head_withdraw, State.cleared_head]
    have unserved := State.not_inService_of_wait present parked
    rw [buffer, ← Option.not_isSome_iff_eq_none]
    exact fun full => absurd ((waitsPlain h).1 full) (by rw [unserved]; exact Bool.noConfusion)
  · obtain ⟨o', present, parked, silent⟩ := unit h o outstanding waits
    exact silent.trans ((waitsPlain h).2 o' present parked)

theorem State.presents_workCleared (s : State) (r : Requester) :
    s.cleared.presents r = s.workCleared.presents r := by
  cases r with
  | cp => rfl
  | ce => rfl
  | hu h =>
    have unit : s.workCleared.head h = _ := Bank.at_ofFn _ h
    rw [State.presents, State.presents, State.cleared_head, unit]
    cases outstanding : (s.head h).outstanding with
    | none => rfl
    | some o => cases wait : o.wait <;> simp [HeadUnit.inService, wait]

theorem State.nextGrant_workCleared (s : State) (last : Requester) :
    s.cleared.nextGrant last = s.workCleared.nextGrant last :=
  congrArg (List.find? · last.ringAfter) (funext s.presents_workCleared)

/-- R39, R64, R180: the whole of CLEAR WORK. -/
theorem State.clearWork_workCleared {s : State} (waitsPlain : WaitsPlain s) :
    s.clearWork = withResult { s.workCleared with arb := { s.arb with
      granted := if s.arb.granted = some .ce then s.workCleared.nextGrant s.arb.last else s.arb.granted } } .ok := by
  have heads : (Vector.ofFn (fun h : HeadNo => if h ∈ allHeads then ((s.cleared.withdraw .ce).head h).cancelled
      else (s.cleared.withdraw .ce).head h) : Bank HeadUnit) = s.workCleared.heads := by
    simp only [mem_allHeads, if_true, State.head_withdraw, (s.cleared_head_cancelled _).1]
    rfl
  have link : ∀ h, (s.cleared.withdraw .ce).link h = s.link h := fun h => by
    rw [State.withdraw_eq]
    rfl
  have links : (Vector.ofFn (fun h : HeadNo => if h ∈ allHeads
        then { (s.cleared.withdraw .ce).link h with tx := ((s.cleared.withdraw .ce).link h).tx ++
          ((s.cleared.withdraw .ce).head h).cancelAnswers }
        else (s.cleared.withdraw .ce).link h) : Bank Link) = s.workCleared.links := by
    simp only [mem_allHeads, if_true, State.head_withdraw, (s.cleared_head_cancelled _).2, link]
    rfl
  have claims : s.cleared.claims = s.workCleared.claims :=
    Bank.ext fun h => (Bank.at_map ..).trans (Bank.at_ofFn (fun _ => ({ slots := [], timer := none } : ClaimUnit)) h).symm
  have attn : s.cleared.attn = s.workCleared.attn := s.attn.clearWork_eq
  have withdrawn := s.cleared.withdraw_eq .ce
  rw [s.nextGrant_workCleared] at withdrawn
  rw [State.clearWork_eq, (State.cleared_workGone waitsPlain .ce).foldl_cancelWaits (by decide), heads, links, withdrawn,
    State.accept_eq]
  simp only [claims, attn]
  rfl

/-- Settles O36. -/
theorem clearWorkEmpties : Obligations.ClearWorkEmpties := by
  unfold Obligations.ClearWorkEmpties
  intro s followed rest takes waitsPlain waits cleared
  have acts : exec .clearWork s = .next (tookCode s .clearWork .complete followed rest).clearWork :=
    exec_parameterless takes (by decide) rfl
  have same : (tookCode s .clearWork .complete followed rest).workCleared = cleared := rfl
  rw [acts, State.clearWork_workCleared (s := tookCode s .clearWork .complete followed rest) waitsPlain, same]
  rfl

end Sys2Proof.Machine
end

section
/-! PROOFS. R103, R105, R106, R109: the claim owner and the wait list of a tile, operation by operation; the release of
a claim with its handoffs, of which there are at most eight; the chain of claim waits. -/

namespace Sys2Proof.Machine

open Sys2Proof.Safety

/-! ## Owners and wait lists (R99) -/

/-- An entry by its key, after a change of one entry that leaves the keys. -/
theorem State.entry_onEntry (s : State) (k : TileKey) {f : Entry → Entry} (key : ∀ x, (f x).key = x.key) (j : TileKey) :
    (s.onEntry k f).entry j = if j = k then (s.entry k).map f else s.entry j := by
  by_cases here : j = k
  · subst here
    rw [if_pos rfl]
    cases resident : s.entry j with
    | some e => exact State.onEntry_entry resident key
    | none =>
      rw [Option.map_none, State.entry_eq_none]
      intro e listed
      obtain ⟨x, old, rfl⟩ := List.mem_map.1 listed
      have other := State.entry_eq_none.1 resident x old
      rwa [if_neg other]
  · rw [if_neg here]
    cases resident : s.entry j with
    | some e => exact State.onEntry_entry_other resident here key
    | none =>
      rw [State.entry_eq_none]
      intro e listed
      obtain ⟨x, old, rfl⟩ := List.mem_map.1 listed
      have other := State.entry_eq_none.1 resident x old
      split
      · rw [key]
        exact other
      · exact other

section

variable (s : State) (g h : HeadNo) (k j : TileKey)

theorem State.waitersOf_onEntry {f : Entry → Entry} (key : ∀ x, (f x).key = x.key) (same : ∀ x, (f x).waiters = x.waiters) :
    (s.onEntry k f).waitersOf j = s.waitersOf j := by
  rw [State.waitersOf, State.waitersOf, State.entry_onEntry s k key]
  split
  case isTrue here =>
    subst here
    cases s.entry j <;> simp [same]
  case isFalse => rfl

theorem State.ownerOf_onEntry {f : Entry → Entry} (key : ∀ x, (f x).key = x.key) (same : ∀ x, (f x).owner = x.owner) :
    (s.onEntry k f).ownerOf j = s.ownerOf j := by
  rw [State.ownerOf, State.ownerOf, State.entry_onEntry s k key]
  split
  case isTrue here =>
    subst here
    cases s.entry j <;> simp [same]
  case isFalse => rfl

@[simp] theorem State.waitersOf_dropClaim : (s.dropClaim g k).waitersOf j = s.waitersOf j :=
  s.waitersOf_onEntry k j (fun _ => rfl) fun _ => rfl

@[simp] theorem State.waitersOf_giveClaim : (s.giveClaim h k).waitersOf j = s.waitersOf j :=
  s.waitersOf_onEntry k j (fun _ => rfl) fun _ => rfl

@[simp] theorem State.waitersOf_stopTimer : (s.stopTimer h).waitersOf j = s.waitersOf j := rfl

@[simp] theorem State.waitersOf_proceed : (s.proceed h).waitersOf j = s.waitersOf j := by
  simp only [State.waitersOf, State.entry, State.proceed_dir]

end

/-- R105, R106: the tile between the old owner and the first waiter, whom the list and the timer have let go. -/
def State.handing (s : State) (g : HeadNo) (k : TileKey) (w : HeadNo) (rest : List HeadNo) : State :=
  ((s.dropClaim g k).onEntry k (fun e => { e with waiters := rest })).stopTimer w

theorem State.waitersOf_handing {s : State} {g w w' : HeadNo} {k : TileKey} {rest more : List HeadNo}
    (first : s.waitersOf k = w' :: more) (j : TileKey) :
    (s.handing g k w rest).waitersOf j = if j = k then rest else s.waitersOf j := by
  have entry : (s.handing g k w rest).entry j =
      if j = k then ((s.entry k).map (fun e => { e with owner := none })).map (fun e => { e with waiters := rest })
      else s.entry j := by
    refine ((s.dropClaim g k).entry_onEntry k (f := fun e => { e with waiters := rest }) (fun _ => rfl) j).trans ?_
    have dropped : ∀ i, (s.dropClaim g k).entry i = if i = k then (s.entry k).map (fun e => { e with owner := none })
        else s.entry i := s.entry_onEntry k fun _ => rfl
    rw [dropped, dropped, if_pos rfl]
    split <;> rfl
  rw [State.waitersOf, entry]
  split
  case isTrue here =>
    cases resident : s.entry k with
    | none => simp [State.waitersOf, resident] at first
    | some e => rfl
  case isFalse => rfl

/-! ## A release (R105, R106) -/

/-- R106: the surplus claim of a head that is handed one. -/
def State.makeRoom (n : Nat) (s : State) (w : HeadNo) : State :=
  match s.surplusClaim w with
  | some oldest => s.releaseFrom n w oldest
  | none => s

theorem State.releaseFrom_nil {s : State} {k : TileKey} (unwaited : s.waitersOf k = []) (n : Nat) (g : HeadNo) :
    s.releaseFrom n g k = s.dropClaim g k := by
  cases n with
  | zero => rfl
  | succ n =>
    rw [State.releaseFrom, s.waitersOf_dropClaim, unwaited]

theorem State.releaseFrom_cons {s : State} {k : TileKey} {w : HeadNo} {rest : List HeadNo}
    (waited : s.waitersOf k = w :: rest) (n : Nat) (g : HeadNo) : s.releaseFrom (n + 1) g k =
      ((State.makeRoom n (s.handing g k w rest) w).giveClaim w k).proceed w := by
  rw [State.releaseFrom, s.waitersOf_dropClaim, waited]
  rfl

/-! ## At most eight handoffs (R106) -/

/-- No head stands on two wait lists, or twice on one. -/
structure Apart (waiters : TileKey → List HeadNo) : Prop where
  nodup : ∀ k, (waiters k).Nodup
  one : ∀ {h k j}, h ∈ waiters k → h ∈ waiters j → j = k

open Classical in
/-- The heads that stand on some wait list. -/
noncomputable def State.listed (s : State) : Finset HeadNo := Finset.univ.filter (fun h => ∃ k, h ∈ s.waitersOf k)

theorem State.mem_listed {s : State} {h : HeadNo} : h ∈ s.listed ↔ ∃ k, h ∈ s.waitersOf k := by
  simp [State.listed]

theorem State.listed_card_le (s : State) : s.listed.card ≤ 8 := s.listed.card_le_univ

section

variable {s : State} {k : TileKey} {w : HeadNo} {rest : List HeadNo}

theorem Apart.handing (apart : Apart s.waitersOf) (waited : s.waitersOf k = w :: rest) (g : HeadNo) :
    Apart (s.handing g k w rest).waitersOf := by
  have fewer : ∀ j h, h ∈ (s.handing g k w rest).waitersOf j → h ∈ s.waitersOf j := by
    intro j h
    rw [State.waitersOf_handing waited]
    split
    case isTrue here => subst here; exact fun later => waited ▸ List.mem_cons_of_mem w later
    case isFalse => exact id
  refine ⟨fun j => ?_, fun onk onj => apart.one (fewer _ _ onk) (fewer _ _ onj)⟩
  rw [State.waitersOf_handing waited]
  split
  · exact (List.nodup_cons.1 (waited ▸ apart.nodup k)).2
  · exact apart.nodup j

/-- R106: every handoff takes a head off the lists for good. -/
theorem State.listed_handing (apart : Apart s.waitersOf) (waited : s.waitersOf k = w :: rest) (g : HeadNo) :
    (s.handing g k w rest).listed.card < s.listed.card := by
  refine Finset.card_lt_card (Finset.ssubset_iff_of_subset ?_ |>.2 ⟨w, ?_, ?_⟩)
  · intro h on
    obtain ⟨j, on⟩ := State.mem_listed.1 on
    rw [State.waitersOf_handing waited] at on
    split at on
    · exact State.mem_listed.2 ⟨k, waited ▸ List.mem_cons_of_mem w on⟩
    · exact State.mem_listed.2 ⟨j, on⟩
  · exact State.mem_listed.2 ⟨k, waited ▸ List.mem_cons_self⟩
  · intro on
    obtain ⟨j, on⟩ := State.mem_listed.1 on
    rw [State.waitersOf_handing waited] at on
    split at on
    case isTrue => exact (List.nodup_cons.1 (waited ▸ apart.nodup k)).1 on
    case isFalse other => exact other (apart.one (waited ▸ List.mem_cons_self) on)

end

/-- R106: a bound that covers the listed heads is as good as any other. -/
theorem State.releaseFrom_bound {n m : Nat} {s : State} (apart : Apart s.waitersOf) (enough : s.listed.card ≤ n)
    (enough' : s.listed.card ≤ m) (g : HeadNo) (k : TileKey) : s.releaseFrom n g k = s.releaseFrom m g k := by
  induction n generalizing m s g k with
  | zero =>
    cases waited : s.waitersOf k with
    | nil => rw [State.releaseFrom_nil waited, State.releaseFrom_nil waited]
    | cons w rest => exact absurd (State.listed_handing apart waited g) (by omega)
  | succ n ih =>
    cases waited : s.waitersOf k with
    | nil => rw [State.releaseFrom_nil waited, State.releaseFrom_nil waited]
    | cons w rest =>
      have fewer := State.listed_handing apart waited g
      cases m with
      | zero => exact absurd fewer (by omega)
      | succ m =>
        have room : State.makeRoom n (s.handing g k w rest) w = State.makeRoom m (s.handing g k w rest) w := by
          rw [State.makeRoom, State.makeRoom]
          cases (s.handing g k w rest).surplusClaim w with
          | none => rfl
          | some oldest => exact ih (apart.handing waited g) (by omega) (by omega) w oldest
        rw [State.releaseFrom_cons waited, State.releaseFrom_cons waited, room]

theorem State.waitersOf_eq_nil_or (s : State) (k : TileKey) :
    s.waitersOf k = [] ∨ ∃ e ∈ s.dir, e.key = k ∧ s.waitersOf k = e.waiters := by
  cases resident : s.entry k with
  | none => exact .inl (by rw [State.waitersOf, resident]; rfl)
  | some e =>
    obtain ⟨listed, key⟩ := State.entry_eq_some resident
    exact .inr ⟨e, listed, key, State.waitersOf_some resident⟩

theorem ClaimsAgree.apart {s : State} (agree : ClaimsAgree s) : Apart s.waitersOf := by
  have key : ∀ {h k}, h ∈ s.waitersOf k → ∃ o, (s.head h).outstanding = some o ∧ o.key = some k := by
    intro h k on
    obtain nobody | ⟨e, listed, rfl, waiters⟩ := s.waitersOf_eq_nil_or k
    · simp [nobody] at on
    · obtain ⟨-, -, -, waits⟩ := agree.2 e listed
      obtain ⟨o, outstanding, -, key⟩ := waits h (waiters ▸ on)
      exact ⟨o, outstanding, key⟩
  refine ⟨fun k => ?_, fun onk onj => ?_⟩
  · obtain nobody | ⟨e, listed, -, waiters⟩ := s.waitersOf_eq_nil_or k
    · rw [nobody]
      exact List.nodup_nil
    · rw [waiters]
      exact (agree.2 e listed).1
  · obtain ⟨o, outstanding, keyk⟩ := key onk
    obtain ⟨o', outstanding', keyj⟩ := key onj
    obtain rfl := Option.some.inj (outstanding.symm.trans outstanding')
    exact Option.some.inj (keyj.symm.trans keyk)

/-! ## CLAIM BREAK (R109) and the release, written out -/

theorem State.surplusClaim_short {s : State} {w : HeadNo} (short : (s.claim w).slots.length < 2) :
    s.surplusClaim w = none := by
  rw [State.surplusClaim]
  split
  case h_1 slots => simp [slots] at short
  case h_2 => rfl

theorem State.surplusClaim_full {s : State} {w : HeadNo} {oldest second : TileKey} {more : List TileKey}
    (slots : (s.claim w).slots = oldest :: second :: more) : s.surplusClaim w = some oldest := by
  rw [State.surplusClaim, slots]

/-- R102, R106: a claim is given; the head's request goes to the arbiter. -/
theorem State.giveClaim_proceed (s : State) (h : HeadNo) (k : TileKey) : (s.giveClaim h k).proceed h = onItsWay { s with
    dir := s.dir.map (fun x => if x.key = k then { x with owner := some h } else x)
    claims := Bank.put s.claims h { s.claim h with slots := (s.claim h).slots ++ [k] } } h :=
  State.proceed_eq _ _

section

variable {s : State} {k : TileKey} {e : Entry} {g : HeadNo}

/-- R105: the claim of a tile that no head waits for. -/
theorem State.release_unwaited (distinct : KeysDistinct s) (resident : s.entry k = some e) (unwaited : e.waiters = []) :
    s.release g k = { s with
      dir := s.dir.map (fun x => if x.key = k then { x with owner := none, waiters := [] } else x)
      claims := Bank.put s.claims g { s.claim g with slots := (s.claim g).slots.filter (fun x => decide (x ≠ k)) } } := by
  have nobody : s.waitersOf k = [] := by rw [State.waitersOf_some resident, unwaited]
  have dir := map_entry_congr distinct resident (f := fun x => { x with owner := none })
    (g := fun x => { x with owner := none, waiters := [] }) (by rw [← unwaited])
  rw [State.release, State.releaseFrom_nil nobody, ← dir]
  rfl

/-- R105, R106: the state that hands a tile on. -/
theorem State.handing_eq (s : State) {w : HeadNo} (others : List HeadNo) (other : w ≠ g) : s.handing g k w others = { s with
    dir := s.dir.map (fun x => if x.key = k then { x with owner := none, waiters := others } else x)
    claims := Bank.put
      (Bank.put s.claims g { s.claim g with slots := (s.claim g).slots.filter (fun x => decide (x ≠ k)) }) w
      { slots := (s.claim w).slots, timer := none } } := by
  have dir : (s.dir.map (fun x => if x.key = k then { x with owner := none } else x)).map
      (fun x => if x.key = k then { x with waiters := others } else x) =
        s.dir.map (fun x => if x.key = k then { x with owner := none, waiters := others } else x) := by
    rw [List.map_map]
    refine List.map_congr_left fun x _ => ?_
    by_cases here : x.key = k <;> simp [here]
  have claim : Bank.at (Bank.put s.claims g
      { s.claim g with slots := (s.claim g).slots.filter (fun x => decide (x ≠ k)) }) w = s.claim w :=
    Bank.at_put_other _ _ _ _ other
  rw [← dir, ← claim]
  rfl

theorem State.waitersOf_cons {w : HeadNo} {others : List HeadNo} (resident : s.entry k = some e)
    (waiters : e.waiters = w :: others) : s.waitersOf k = w :: others := by
  rw [State.waitersOf_some resident, waiters]

end

section

variable {s : State} {k : TileKey}

theorem State.claimBreak_key : s.claimBreak k.copy.val k.row.val k.col.val =
    match s.entry k with
    | none => refusedWith s .notFound
    | some e => match e.owner with
      | none => withResult s .ok
      | some g => withResult (s.release g k) .ok := by
  simp only [State.claimBreak, keyOf_key]
  rfl

end

/-- Settles O37: CLAIM BREAK by its checks, the release by its wait list, and the bound of the handoffs. -/
theorem claimBreakReleases : Obligations.ClaimBreakReleases := by
  unfold Obligations.ClaimBreakReleases
  refine ⟨fun s y t u rest takes => ?command, fun s g k e distinct resident => ?release, fun s g k n distinct agree enough =>
    State.releaseFrom_bound (ClaimsAgree.apart agree) (s.listed_card_le.trans enough) s.listed_card_le g k⟩
  case command =>
    intro took
    have acts : exec .claimBreak s = .next (took.claimBreak y t u) := exec_action takes rfl rfl
    rw [acts]
    refine ⟨fun bad => ?_, ?_⟩
    · rw [State.claimBreak, keyOf_eq_none bad]
      rfl
    · rintro k rfl rfl rfl
      have entry : took.entry k = s.entry k := rfl
      rw [State.claimBreak_key, entry]
      refine ⟨fun absent => by rw [absent], fun e resident => ⟨fun unowned => ?_, fun g owned => ?_⟩⟩
      · simp only [resident, unowned]
      · simp only [resident, owned]
  case release =>
    intro freed owned
    refine ⟨fun unwaited => State.release_unwaited distinct resident unwaited, fun w others waiters other => ?_⟩
    have released := State.releaseFrom_cons (State.waitersOf_cons resident waiters) 7 g
    have claim : (s.handing g k w others).claim w = { slots := (s.claim w).slots, timer := none } := by
      rw [State.handing_eq s others other]
      exact Bank.at_put_same _ _ _
    refine ⟨fun short => ?_, fun oldest second more slots => ?_⟩
    · have room : State.makeRoom 7 (s.handing g k w others) w = s.handing g k w others := by
        rw [State.makeRoom, State.surplusClaim_short (by rw [claim]; exact short)]
      have dir : (s.dir.map (fun x => if x.key = k then { x with owner := none, waiters := others } else x)).map
          (fun x => if x.key = k then { x with owner := some w } else x) = owned (some w) others := by
        rw [List.map_map]
        refine List.map_congr_left fun x _ => ?_
        by_cases here : x.key = k <;> simp [here]
      refine released.trans ?_
      rw [room, State.giveClaim_proceed, claim, State.handing_eq s others other]
      simp only [dir, Bank.put_put]
      rfl
    · intro t
      have room : State.makeRoom 7 (s.handing g k w others) w = t := by
        rw [State.makeRoom, State.surplusClaim_full (by rw [claim]; exact slots)]
        exact congrArg (State.releaseFrom 7 · w oldest) (State.handing_eq s others other)
      rw [room, State.giveClaim_proceed] at released
      exact released

/-! ## The chain of claim waits (R103) -/

/-- R103: the head whose claim a head in claim wait waits for. -/
def State.behind (s : State) (g : HeadNo) : Option HeadNo :=
  match (s.head g).outstanding with
  | none => none
  | some o => if o.wait = .claim then o.key.bind (fun k => s.ownerOf k) else none

theorem State.chainReaches_succ (s : State) (n : Nat) (g h : HeadNo) : s.chainReaches (n + 1) g h = true ↔
    ∃ next, s.behind g = some next ∧ (next = h ∨ s.chainReaches n next h = true) := by
  rw [State.chainReaches, State.behind]
  cases (s.head g).outstanding with
  | none => simp
  | some o =>
    by_cases waits : o.wait = .claim
    · cases owner : o.key.bind (fun k => s.ownerOf k) with
      | none => simp [waits, owner]
      | some next => by_cases here : next = h <;> simp [waits, owner, here]
    · simp [waits]

theorem chainLeads_iff {s : State} {h g : HeadNo} :
    ChainLeads s h g ↔ ∃ next, s.behind g = some next ∧ (next = h ∨ ChainLeads s h next) := by
  have waits : ∀ next, s.behind g = some next ↔ ∃ o k, (s.head g).outstanding = some o ∧ o.wait = .claim ∧
      o.key = some k ∧ s.ownerOf k = some next := by
    intro next
    rw [State.behind]
    cases (s.head g).outstanding with
    | none => simp
    | some o => simp [Option.bind_eq_some_iff]
  constructor
  · rintro (⟨_, o, k, outstanding, claim, key, owner⟩ | ⟨_, next, o, k, outstanding, claim, key, owner, leads⟩)
    · exact ⟨h, (waits h).2 ⟨o, k, outstanding, claim, key, owner⟩, .inl rfl⟩
    · exact ⟨next, (waits next).2 ⟨o, k, outstanding, claim, key, owner⟩, .inr leads⟩
  · rintro ⟨next, behind, arrives⟩
    obtain ⟨o, k, outstanding, claim, key, owner⟩ := (waits next).1 behind
    obtain rfl | leads := arrives
    · exact .link g o k outstanding claim key owner
    · exact .next g next o k outstanding claim key owner leads

/-- The heads from which the chain leads to `h` in a number of steps. -/
def State.reaching (s : State) (h : HeadNo) (n : Nat) : Finset HeadNo :=
  Finset.univ.filter (fun g => s.chainReaches n g h = true)

theorem State.reaching_congr {s : State} {h : HeadNo} {n m : Nat} (same : s.reaching h n = s.reaching h m) :
    s.reaching h (n + 1) = s.reaching h (m + 1) := by
  have each : ∀ g, s.chainReaches n g h = true ↔ s.chainReaches m g h = true := by
    intro g
    simpa [State.reaching] using Finset.ext_iff.1 same g
  ext g
  simp only [State.reaching, Finset.mem_filter, Finset.mem_univ, true_and, State.chainReaches_succ, each]

theorem State.reaching_mono (s : State) (h : HeadNo) (n : Nat) : s.reaching h n ⊆ s.reaching h (n + 1) := by
  induction n with
  | zero => intro g reaches; simp [State.reaching, State.chainReaches] at reaches
  | succ n ih =>
    intro g reaches
    simp only [State.reaching, Finset.mem_filter, Finset.mem_univ, true_and] at reaches ih ⊢
    rw [State.chainReaches_succ] at reaches ⊢
    obtain ⟨next, behind, arrives⟩ := reaches
    exact ⟨next, behind, arrives.imp_right fun further =>
      (Finset.mem_filter.1 (ih (Finset.mem_filter.2 ⟨Finset.mem_univ _, further⟩))).2⟩

/-- Each step that still adds a head has added one, so that nine do not. -/
theorem State.reaching_stops (s : State) (h : HeadNo) (n : Nat) :
    s.reaching h n = s.reaching h (n + 1) ∨ n < (s.reaching h (n + 1)).card := by
  induction n with
  | zero =>
    by_cases same : s.reaching h 0 = s.reaching h 1
    · exact .inl same
    · exact .inr (Nat.zero_lt_of_lt (Finset.card_lt_card ((s.reaching_mono h 0).ssubset_of_ne same)))
  | succ n ih =>
    obtain same | grown := ih
    · exact .inl (State.reaching_congr same)
    · by_cases same : s.reaching h (n + 1) = s.reaching h (n + 2)
      · exact .inl same
      · have more := Finset.card_lt_card ((s.reaching_mono h (n + 1)).ssubset_of_ne same)
        exact .inr (by omega)

theorem State.reaching_eight (s : State) (h : HeadNo) : s.reaching h 9 = s.reaching h 8 := by
  obtain same | many := s.reaching_stops h 8
  · exact same.symm
  · have few : (s.reaching h (8 + 1)).card ≤ 8 := (s.reaching h (8 + 1)).card_le_univ
    omega

/-- R103: eight steps decide the wait cycle. -/
theorem State.waitCycle_iff {s : State} {h g : HeadNo} : s.waitCycle h g = true ↔ ChainLeads s h g := by
  have nine : ∀ g, s.chainReaches 9 g h = true → s.chainReaches 8 g h = true := by
    intro g reaches
    have member : g ∈ s.reaching h 8 :=
      s.reaching_eight h ▸ Finset.mem_filter.2 ⟨Finset.mem_univ g, reaches⟩
    exact (Finset.mem_filter.1 member).2
  constructor
  · have sound : ∀ n g, s.chainReaches n g h = true → ChainLeads s h g := by
      intro n
      induction n with
      | zero => intro g reaches; simp [State.chainReaches] at reaches
      | succ n ih =>
        intro g reaches
        obtain ⟨next, behind, arrives⟩ := (s.chainReaches_succ n g h).1 reaches
        exact chainLeads_iff.2 ⟨next, behind, arrives.imp_right (ih next)⟩
    exact sound 8 g
  · intro leads
    have step : ∀ g next, s.behind g = some next → (next = h ∨ s.chainReaches 8 next h = true) →
        s.chainReaches 8 g h = true :=
      fun g next behind arrives => nine g ((s.chainReaches_succ 8 g h).2 ⟨next, behind, arrives⟩)
    induction leads with
    | link g o k outstanding claim key owner =>
      exact step g h (by simp [State.behind, outstanding, claim, key, owner]) (.inl rfl)
    | next g next o k outstanding claim key owner _ ih =>
      exact step g next (by simp [State.behind, outstanding, claim, key, owner]) (.inr ih)

/-! ## The claim step (R101 to R104, R111) -/

section

variable {s : State} {h : HeadNo} {k : TileKey} {o : Outstanding}

theorem State.claimStep_bound (bound : (s.head h).state ≠ .unbound) (outstanding : (s.head h).outstanding = some o) :
    s.claimStep h k = match s.ownerOf k with
      | none => (s.takeClaim h k).proceed h
      | some g =>
        if g = h then s.proceed h
        else if o.silent = true then s.endRequest h .contested 0 0
        else if s.waitCycle h g then (s.raise .contested).endRequest h .contested 0 0
        else s.parkClaim h k := by
  rw [State.claimStep, if_neg bound, outstanding]
  rfl

/-- R104: the head joins the end of the wait list. -/
theorem State.parkClaim_eq (outstanding : (s.head h).outstanding = some o) : s.parkClaim h k =
    { withHead s h { s.head h with outstanding := some { o with wait := .claim } } with
      dir := s.dir.map (fun x => if x.key = k then { x with waiters := x.waiters ++ [h] } else x)
      claims := if 0 < (s.head h).holdTimeout
        then Bank.put s.claims h { s.claim h with timer := some 0 } else s.claims } := by
  have shape : (s.onEntry k (fun e => { e with waiters := e.waiters ++ [h] })).setWait h .claim =
      { withHead s h { s.head h with outstanding := some { o with wait := .claim } } with
        dir := s.dir.map (fun x => if x.key = k then { x with waiters := x.waiters ++ [h] } else x) } := by
    rw [State.setWait, State.onHead]
    have unit : ((s.onEntry k (fun e => { e with waiters := e.waiters ++ [h] })).head h).outstanding = some o := outstanding
    rw [unit]
    rfl
  rw [State.parkClaim, shape]
  split <;> rfl

end

/-- Settles O38, by the claim on the tile. -/
theorem claimStepDecides : Obligations.ClaimStepDecides := by
  unfold Obligations.ClaimStepDecides
  intro s h k o e distinct outstanding resident taken
  have owner : s.ownerOf k = e.owner := State.ownerOf_some resident
  refine ⟨fun unbound => ?_, fun bound => ?_⟩
  · rw [State.claimStep, if_pos unbound, State.endRequest_some outstanding]
  rw [State.claimStep_bound bound outstanding, owner]
  refine ⟨fun unowned short => ?_, fun oldest second more unowned slots => ?_, fun own => ?_, fun g owned other => ?_⟩
  · rw [unowned]
    have room : s.takeClaim h k = s.giveClaim h k := by rw [State.takeClaim, State.surplusClaim_short short]
    exact (congrArg (State.proceed · h) room).trans (State.giveClaim_proceed s h k)
  · rw [unowned]
    have room : s.takeClaim h k = (s.release h oldest).giveClaim h k := by
      rw [State.takeClaim, State.surplusClaim_full slots]
    exact (congrArg (State.proceed · h) room).trans (State.giveClaim_proceed _ h k)
  · rw [own]
    exact (if_pos rfl).trans (s.proceed_eq h)
  · rw [owned]
    have cycle : s.waitCycle h g = true ↔ ChainLeads s h g := State.waitCycle_iff
    refine ⟨fun silent => ?_, fun loud leads => ?_, fun loud free => ?_⟩
    · exact (if_neg other).trans ((if_pos silent).trans (State.endRequest_some outstanding ..))
    · refine (if_neg other).trans ((if_neg (by simp [loud])).trans ((if_pos (cycle.2 leads)).trans ?_))
      exact State.endRequest_some (s := s.raise .contested) outstanding ..
    · refine (if_neg other).trans ((if_neg (by simp [loud])).trans ((if_neg (cycle.not.2 free)).trans ?_))
      exact State.parkClaim_eq outstanding

end Sys2Proof.Machine
end

section
/-! PROOFS. R19, R56, R60, R99, R104, R112: claims, waits and grants as they stand (`Desk`), what it is for them to agree
while some tiles and heads are between two places (`Desk.Orderly`), and each single change that keeps it. -/

namespace Sys2Proof.Machine

open Sys2Proof.Safety

/-- What the claims, the waits and the store's grant are. -/
@[ext] structure Desk where
  owner : TileKey → Option HeadNo
  waiters : TileKey → List HeadNo
  claimable : TileKey → Prop
  slots : HeadNo → List TileKey
  timed : HeadNo → Bool
  wait : HeadNo → Option (WaitKind × Option TileKey)
  parked : List HeadNo
  granted : Option Requester
  port : Bool
  copying : Bool

/-- R99: a claim may stand on a tile of a shared copy that is LIVE or returns to LIVE. -/
def State.claimable (s : State) (k : TileKey) : Prop :=
  (s.copy k.copy).shared = true ∧ ∃ e, s.entry k = some e ∧ (e.state = .live ∨ e.ret = some .live)

/-- The desk of a state. -/
def State.desk (s : State) : Desk where
  owner := s.ownerOf
  waiters := s.waitersOf
  claimable := s.claimable
  slots h := (s.claim h).slots
  timed h := (s.claim h).timer.isSome
  wait h := (s.head h).outstanding.map (fun o => (o.wait, o.key))
  parked := s.engine.waiting
  granted := s.arb.granted
  port := s.port.unit.isSome
  copying := s.engine.job.isSome

namespace Desk

/-! ## The single changes -/

/-- The owner of a tile, set aside from the claim slots. -/
def drop (d : Desk) (g : HeadNo) (k : TileKey) : Desk := { d with
  owner := fun j => if j = k then none else d.owner j
  slots := fun h => if h = g then (d.slots h).filter (fun x => decide (x ≠ k)) else d.slots h }

/-- R102, R106. -/
def give (d : Desk) (h : HeadNo) (k : TileKey) : Desk := { d with
  owner := fun j => if j = k then some h else d.owner j
  slots := fun g => if g = h then d.slots g ++ [k] else d.slots g }

/-- Another wait list of a tile. -/
def list (d : Desk) (k : TileKey) (l : List HeadNo) : Desk := { d with
  waiters := fun j => if j = k then l else d.waiters j }

/-- A hold timer starts or stops. -/
def clock (d : Desk) (h : HeadNo) (runs : Bool) : Desk := { d with
  timed := fun g => if g = h then runs else d.timed g }

/-- Another outstanding request, or none. -/
def move (d : Desk) (h : HeadNo) (w : Option (WaitKind × Option TileKey)) : Desk := { d with
  wait := fun g => if g = h then w else d.wait g }

/-- Another copy-wait list. -/
def park (d : Desk) (l : List HeadNo) : Desk := { d with parked := l }

/-- R19: a requester presents an access to a free store. -/
def offer (d : Desk) (r : Requester) : Desk := { d with granted := d.granted.or (some r) }

/-- R31, R107: the claim and the waiters of a tile are let go. -/
def finish (d : Desk) (k : TileKey) : Desk := { d with
  owner := fun j => if j = k then none else d.owner j
  waiters := fun j => if j = k then [] else d.waiters j
  slots := fun h => if d.owner k = some h then (d.slots h).filter (fun x => decide (x ≠ k)) else d.slots h
  timed := fun h => if h ∈ d.waiters k then false else d.timed h
  wait := fun h => if h ∈ d.waiters k then (d.wait h).map (fun w => (.inService, w.2)) else d.wait h
  granted := d.granted.or ((d.waiters k).head?.map .hu) }

/-- Whether a requester presents an access (R19). -/
def Presents (d : Desk) (r : Requester) : Prop :=
  match r with
  | .hu h => ∃ k, d.wait h = some (.inService, k)
  | .cp => d.port = true
  | .ce => d.copying = true

/-- The head's request is in service. -/
def Serving (d : Desk) (h : HeadNo) : Prop := ∃ j, d.wait h = some (.inService, j)

/-- The head is in claim or copy wait. -/
def Waiting (d : Desk) (h : HeadNo) : Prop := ∃ j, d.wait h = some (.claim, j) ∨ d.wait h = some (.copy, j)

/-! ## The grant (R19) -/

/-- R19: the grant belongs to a requester that presents an access, and the store is free only while none does. The heads
`L` are left out of account. -/
def Granted (L : List HeadNo) (d : Desk) : Prop :=
  (∀ r, d.granted = some r → d.Presents r ∧ ∀ h ∈ L, r ≠ .hu h) ∧
  (d.granted = none → ∀ r, (∀ h ∈ L, r ≠ .hu h) → ¬d.Presents r)

section

variable {L : List HeadNo} {d : Desk} {h : HeadNo} {r : Requester} {w : Option (WaitKind × Option TileKey)}

theorem presents_move (other : r ≠ .hu h) : (d.move h w).Presents r ↔ d.Presents r := by
  cases r with
  | hu g =>
    have apart : g ≠ h := fun same => other (same ▸ rfl)
    simp [Presents, Desk.move, apart]
  | cp => rfl
  | ce => rfl

theorem Granted.aside (grant : d.Granted L) (unserved : ¬d.Serving h) : d.Granted (h :: L) := by
  obtain ⟨served, free⟩ := grant
  refine ⟨fun r is => ?_, fun none r other => free none r (List.forall_mem_cons.1 other).2⟩
  obtain ⟨presents, other⟩ := served r is
  refine ⟨presents, List.forall_mem_cons.2 ⟨?_, other⟩⟩
  rintro rfl
  exact unserved presents

theorem Granted.back (grant : d.Granted (h :: L)) (unserved : ¬d.Serving h) : d.Granted L := by
  obtain ⟨served, free⟩ := grant
  refine ⟨fun r is => (served r is).imp_right fun other => (List.forall_mem_cons.1 other).2, fun none r other => ?_⟩
  by_cases own : r = .hu h
  · exact own ▸ unserved
  · exact free none r (List.forall_mem_cons.2 ⟨own, other⟩)

theorem Granted.move (grant : d.Granted L) (aside : h ∈ L) : (d.move h w).Granted L := by
  obtain ⟨served, free⟩ := grant
  refine ⟨fun r is => ?_, fun none r other presents => free none r other ((presents_move (other h aside)).1 presents)⟩
  obtain ⟨presents, other⟩ := served r is
  exact ⟨(presents_move (other h aside)).2 presents, other⟩

/-- R19: a requester that comes to present an access offers it. -/
theorem Granted.offer_new {e : Desk} (grant : d.Granted []) (same : e.granted = d.granted)
    (more : ∀ q, d.Presents q → e.Presents q) (presents : e.Presents r) : (e.offer r).Granted [] := by
  have alone : ∀ h ∈ ([] : List HeadNo), r ≠ .hu h := fun _ aside => absurd aside List.not_mem_nil
  cases before : d.granted with
  | some q =>
    refine ⟨fun x is => ?_, fun none => by simp [Desk.offer, same, before] at none⟩
    obtain rfl : q = x := by simpa [Desk.offer, same, before] using is
    exact (grant.1 q before).imp_left (more q)
  | none =>
    refine ⟨fun x is => ?_, fun none => by simp [Desk.offer, same, before] at none⟩
    obtain rfl : r = x := by simpa [Desk.offer, same, before] using is
    exact ⟨presents, alone⟩

theorem Granted.offer (grant : d.Granted (h :: L)) (serving : d.Serving h) (new : h ∉ L) :
    (d.offer (.hu h)).Granted L := by
  have counted : ∀ g ∈ L, Requester.hu h ≠ .hu g := fun g aside same => new (Requester.hu.inj same ▸ aside)
  cases before : d.granted with
  | some q =>
    have same : d.offer (.hu h) = d := by rw [Desk.offer, before, Option.some_or, ← before]
    rw [same]
    exact ⟨fun r is => (grant.1 r is).imp_right fun other => (List.forall_mem_cons.1 other).2,
      fun none => nomatch before.symm.trans none⟩
  | none =>
    refine ⟨fun q is => ?_, fun none => ?_⟩
    · obtain rfl : Requester.hu h = q := by simpa [Desk.offer, before] using is
      exact ⟨serving, counted⟩
    · simp [Desk.offer] at none

/-- R19, R107: the first of the waiters is granted a free store. -/
theorem Granted.finish {k : TileKey} (grant : d.Granted L)
    (listed : ∀ h j, h ∈ d.waiters j → h ∉ L ∧ d.wait h = some (.claim, some j) ∧ d.owner j ≠ some h) :
    (d.finish k).Granted L := by
  obtain ⟨served, free⟩ := grant
  have still : ∀ r, d.Presents r → (d.finish k).Presents r := by
    intro r presents
    cases r with
    | hu h =>
      obtain ⟨j, wait⟩ := presents
      have off : h ∉ d.waiters k := fun on => by simp [(listed h k on).2.1] at wait
      exact ⟨j, (if_neg off).trans wait⟩
    | cp => exact presents
    | ce => exact presents
  cases before : d.granted with
  | some q =>
    have same : (d.finish k).granted = d.granted := by simp [Desk.finish, before]
    refine ⟨fun r is => ?_, fun none => nomatch (same.symm.trans none).symm.trans before⟩
    exact (served r (same ▸ is)).imp_left (still r)
  | none =>
    cases waiters : d.waiters k with
    | nil =>
      refine ⟨fun r is => by simp [Desk.finish, before, waiters] at is, fun _ r other presents => free before r other ?_⟩
      cases r <;> simpa [Desk.finish, Presents, waiters] using presents
    | cons w rest =>
      obtain ⟨counted, wait, -⟩ := listed w k (waiters ▸ List.mem_cons_self)
      refine ⟨fun r is => ?_, fun none => by simp [Desk.finish, before, waiters] at none⟩
      obtain rfl : Requester.hu w = r := by simpa [Desk.finish, before, waiters] using is
      refine ⟨⟨some k, ?_⟩, fun g aside same => counted (Requester.hu.inj same ▸ aside)⟩
      simp [Desk.finish, waiters, wait]

end

/-! ## The agreement -/

/-- Claims, waits and, where `A` holds, the grant agree, but for the tiles `K`, which may be waited for without an owner
and owned without being claimable, and for the heads `L`, which stand on no list with their timers stopped, whatever
their requests are. -/
structure Orderly (A : Prop) (K : List TileKey) (L : List HeadNo) (d : Desk) : Prop where
  distinct : ∀ h, (d.slots h).Nodup
  short : ∀ h, (d.slots h).length ≤ 2
  holds : ∀ h k, k ∈ d.slots h ↔ d.owner k = some h
  claimable : ∀ h k, d.owner k = some h → k ∉ K → d.claimable k
  timer : ∀ h, d.timed h = true → h ∉ L ∧ ∃ k, d.wait h = some (.claim, k)
  waits : ∀ h j, d.wait h = some (.claim, j) → h ∉ L → ∃ k, j = some k ∧ h ∈ d.waiters k
  listed : ∀ h k, h ∈ d.waiters k → h ∉ L ∧ d.wait h = some (.claim, some k) ∧ d.owner k ≠ some h
  once : ∀ k, (d.waiters k).Nodup
  behind : ∀ k, d.owner k = none → k ∉ K → d.waiters k = []
  parks : ∀ h, h ∈ d.parked ↔ h ∉ L ∧ ∃ k, d.wait h = some (.copy, k)
  parkedOnce : d.parked.Nodup
  grant : A → d.Granted L

section

variable {A : Prop} {K : List TileKey} {L : List HeadNo} {d : Desk} {h g : HeadNo} {k : TileKey}

/-- What holds of the grant may be left out. -/
theorem Orderly.ungranted (ord : d.Orderly A K L) : d.Orderly False K L := { ord with grant := False.elim }

theorem once_list (once : ∀ j, (d.waiters j).Nodup) {l : List HeadNo} (nodup : l.Nodup) (j : TileKey) :
    ((d.list k l).waiters j).Nodup := by
  simp only [list]
  split
  · exact nodup
  · exact once j

theorem Orderly.one (ord : d.Orderly A K L) {i j : TileKey} (oni : h ∈ d.waiters i) (onj : h ∈ d.waiters j) : j = i := by
  obtain ⟨-, waitsi, -⟩ := ord.listed h i oni
  obtain ⟨-, waitsj, -⟩ := ord.listed h j onj
  simpa using waitsj.symm.trans waitsi

/-- A head steps aside that stands on no list. -/
theorem Orderly.aside (ord : d.Orderly A K L) (idle : ¬d.Waiting h) (unserved : A → ¬d.Serving h) :
    d.Orderly A K (h :: L) := { ord with
  timer := by grind [ord.timer, Waiting]
  waits := by grind [ord.waits]
  listed := by grind [ord.listed, Waiting]
  parks := by grind [ord.parks, Waiting]
  grant := fun a => (ord.grant a).aside (unserved a) }

/-- It comes back as it is, if it stands on no list and presents nothing. -/
theorem Orderly.back (ord : d.Orderly A K (h :: L)) (idle : ¬d.Waiting h) (unserved : A → ¬d.Serving h) :
    d.Orderly A K L := { ord with
  timer := by grind [ord.timer]
  waits := by grind [ord.waits, Waiting]
  listed := by grind [ord.listed]
  parks := by grind [ord.parks, Waiting]
  grant := fun a => (ord.grant a).back (unserved a) }

/-- A head that is set aside may have any request. -/
theorem Orderly.move (ord : d.Orderly A K L) (aside : h ∈ L) (w : Option (WaitKind × Option TileKey)) :
    (d.move h w).Orderly A K L := { ord with
  timer := by simp only [Desk.move]; grind [ord.timer]
  waits := by simp only [Desk.move]; grind [ord.waits]
  listed := by simp only [Desk.move]; grind [ord.listed]
  parks := by simp only [Desk.move]; grind [ord.parks]
  grant := fun a => (ord.grant a).move aside }

theorem Orderly.stop (ord : d.Orderly A K L) (h : HeadNo) : (d.clock h false).Orderly A K L := { ord with
  timer := by simp only [clock]; grind [ord.timer] }

/-- R19: a head whose request is in service presents its access. -/
theorem Orderly.offer (ord : d.Orderly A K (h :: L)) (serving : d.Serving h) (new : h ∉ L) :
    (d.offer (.hu h)).Orderly A K L := { ord with
  timer := by simp only [Desk.offer]; grind [ord.timer]
  waits := by simp only [Desk.offer]; grind [ord.waits, Serving]
  listed := by simp only [Desk.offer]; grind [ord.listed]
  parks := by simp only [Desk.offer]; grind [ord.parks, Serving]
  grant := fun a => (ord.grant a).offer serving new }

/-- R104: the head joins the wait list of a tile that another owns. -/
theorem Orderly.parkClaim (ord : d.Orderly A K (h :: L)) (waits : d.wait h = some (.claim, some k))
    (owned : d.owner k = some g) (other : g ≠ h) (new : h ∉ L) (runs : Bool) :
    ((d.list k (d.waiters k ++ [h])).clock h runs).Orderly A K L := { ord with
  timer := by simp only [list, clock]; grind [ord.timer]
  waits := by simp only [list, clock]; grind [ord.waits]
  listed := by simp only [list, clock]; grind [ord.listed]
  once := once_list ord.once
    (List.nodup_append.2 ⟨ord.once k, List.nodup_singleton h, fun x on y own same =>
      (ord.listed x k on).1 (by rw [same, List.mem_singleton.1 own]; exact List.mem_cons_self)⟩)
  behind := by simp only [list, clock]; grind [ord.behind]
  parks := by simp only [list, clock]; grind [ord.parks]
  grant := fun a => (ord.grant a).back (by simp [Serving, waits]) }

/-- R60: the head joins the copy-wait list. -/
theorem Orderly.parkCopy (ord : d.Orderly A K (h :: L)) {j : Option TileKey} (waits : d.wait h = some (.copy, j))
    (new : h ∉ L) : (d.park (d.parked ++ [h])).Orderly A K L := { ord with
  timer := by simp only [park]; grind [ord.timer]
  waits := by simp only [park]; grind [ord.waits]
  listed := by simp only [park]; grind [ord.listed]
  parks := by simp only [park]; grind [ord.parks]
  parkedOnce := by simp only [park]; grind [ord.parkedOnce, ord.parks]
  grant := fun a => (ord.grant a).back (by simp [Serving, waits]) }

/-- R61, R105, R114: a head leaves the wait list. -/
theorem Orderly.unlist (ord : d.Orderly A K L) (waits : d.wait h = some (.claim, some k)) :
    ((d.list k ((d.waiters k).filter (fun x => decide (x ≠ h)))).clock h false).Orderly A K (h :: L) := { ord with
  timer := by simp only [list, clock]; grind [ord.timer]
  waits := by simp only [list, clock]; grind [ord.waits]
  listed := by simp only [list, clock]; grind [ord.listed]
  once := once_list ord.once ((ord.once k).filter _)
  behind := by simp only [list, clock]; grind [ord.behind]
  parks := by simp only [list, clock]; grind [ord.parks]
  grant := fun a => (ord.grant a).aside (by simp [Serving, waits]) }

/-- R61: a head leaves the copy-wait list. -/
theorem Orderly.unpark (ord : d.Orderly A K L) {j : Option TileKey} (waits : d.wait h = some (.copy, j)) :
    (d.park (d.parked.filter (fun x => decide (x ≠ h)))).Orderly A K (h :: L) := { ord with
  timer := by simp only [park]; grind [ord.timer]
  waits := by simp only [park]; grind [ord.waits]
  listed := by simp only [park]; grind [ord.listed]
  parks := by simp only [park]; grind [ord.parks]
  parkedOnce := by simp only [park]; grind [ord.parkedOnce]
  grant := fun a => (ord.grant a).aside (by simp [Serving, waits]) }

/-- R63: all leave the copy-wait list of an engine that is idle again. -/
theorem Orderly.unparkAll (ord : d.Orderly False K []) :
    ({ d with parked := [], copying := false } : Desk).Orderly False K d.parked := { ord with
  timer := by grind [ord.timer, ord.parks]
  waits := by grind [ord.waits]
  listed := by grind [ord.listed, ord.parks]
  parks := by grind [ord.parks]
  parkedOnce := List.nodup_nil
  grant := False.elim }

/-- R105: a claim is let go. -/
theorem Orderly.drop (ord : d.Orderly A K L) (owned : d.owner k = some g) : (d.drop g k).Orderly A (k :: K) L := { ord with
  distinct := fun h => by
    simp only [Desk.drop]
    split
    · exact (ord.distinct h).filter _
    · exact ord.distinct h
  short := fun h => by
    have before := ord.short h
    have fewer := List.length_filter_le (fun x => decide (x ≠ k)) (d.slots h)
    simp only [Desk.drop]
    grind
  holds := by simp only [Desk.drop]; grind [ord.holds]
  claimable := by simp only [Desk.drop]; grind [ord.claimable]
  listed := by simp only [Desk.drop]; grind [ord.listed]
  behind := by simp only [Desk.drop]; grind [ord.behind] }

/-- R102, R106: a claim is taken or handed on. -/
theorem Orderly.give (ord : d.Orderly A (k :: K) L) (unowned : d.owner k = none) (aside : h ∈ L)
    (room : (d.slots h).length < 2) (may : k ∉ K → d.claimable k) : (d.give h k).Orderly A K L := { ord with
  distinct := by simp only [Desk.give]; grind [ord.distinct, ord.holds]
  short := fun g => by
    have before := ord.short g
    simp only [Desk.give]
    grind
  holds := by simp only [Desk.give]; grind [ord.holds]
  claimable := by simp only [Desk.give]; grind [ord.claimable]
  listed := by simp only [Desk.give]; grind [ord.listed]
  behind := by simp only [Desk.give]; grind [ord.behind] }

/-- R31, R107: a tile that is DONE has no owner and no waiters. -/
theorem Orderly.finish (ord : d.Orderly A (k :: K) L) : (d.finish k).Orderly A K L := { ord with
  distinct := fun h => by
    simp only [Desk.finish]
    split
    · exact (ord.distinct h).filter _
    · exact ord.distinct h
  short := fun h => by
    have before := ord.short h
    have fewer := List.length_filter_le (fun x => decide (x ≠ k)) (d.slots h)
    simp only [Desk.finish]
    grind
  holds := by simp only [Desk.finish]; grind [ord.holds]
  claimable := by simp only [Desk.finish]; grind [ord.claimable]
  timer := by simp only [Desk.finish]; grind [ord.timer]
  waits := fun h j waits counted => by
    have off : h ∉ d.waiters k := fun on => by simp [Desk.finish, on, (ord.listed h k on).2.1] at waits
    obtain ⟨i, key, on⟩ := ord.waits h j (by simpa [Desk.finish, off] using waits) counted
    refine ⟨i, key, ?_⟩
    have other : i ≠ k := fun same => off (same ▸ on)
    simpa [Desk.finish, other] using on
  listed := fun h j on => by
    have other : j ≠ k := fun same => by simp [Desk.finish, same] at on
    have onj : h ∈ d.waiters j := by simpa [Desk.finish, other] using on
    have off : h ∉ d.waiters k := fun onk => other (ord.one onk onj)
    simpa [Desk.finish, other, off] using ord.listed h j onj
  once := fun j => by
    simp only [Desk.finish]
    split
    · exact List.nodup_nil
    · exact ord.once j
  behind := by simp only [Desk.finish]; grind [ord.behind]
  parks := fun h => by
    refine (ord.parks h).trans (and_congr_right fun _ => ?_)
    by_cases on : h ∈ d.waiters k
    · simp [Desk.finish, on, (ord.listed h k on).2.1]
    · simp [Desk.finish, on]
  grant := fun a => (ord.grant a).finish ord.listed }

theorem Orderly.weaken (ord : d.Orderly A K L) (k : TileKey) : d.Orderly A (k :: K) L := { ord with
  claimable := by grind [ord.claimable]
  behind := by grind [ord.behind] }

/-- A tile between two places is there where its owner, if it has one, may have it, and no head waits for it without. -/
theorem Orderly.settled (ord : d.Orderly A (k :: K) L) (unwaited : d.owner k = none → d.waiters k = [])
    (may : ∀ h, d.owner k = some h → d.claimable k) : d.Orderly A K L := { ord with
  claimable := by grind [ord.claimable]
  behind := by grind [ord.behind] }

end

end Desk

end Sys2Proof.Machine
end

section
/-! PROOFS. What the operations of the model are on the desk; the agreement of R19, R56, R60, R99, R104 and R112 as the
order of the desk. -/

namespace Sys2Proof.Machine

open Sys2Proof.Safety

/-! ## Claimable tiles (R99) -/

theorem State.entry_bare (s : State) (k : TileKey) :
    (s.entry k).map Entry.bare = (s.dir.map Entry.bare).find? (fun e => decide (e.key = k)) := by
  rw [State.entry, List.find?_map]
  rfl

theorem State.claimable_iff_bare {s : State} {k : TileKey} : s.claimable k ↔ (s.copy k.copy).shared = true ∧
    ∃ e, (s.entry k).map Entry.bare = some e ∧ (e.state = .live ∨ e.ret = some .live) := by
  simp only [State.claimable, Option.map_eq_some_iff, and_congr_right_iff]
  intro _
  constructor
  · rintro ⟨e, resident, live⟩
    exact ⟨e.bare, ⟨e, resident, rfl⟩, live⟩
  · rintro ⟨_, ⟨e, resident, rfl⟩, live⟩
    exact ⟨e, resident, live⟩

theorem claimable_of_base {s t : State} (same : t.base = s.base) : t.claimable = s.claimable := by
  funext k
  rw [eq_iff_iff, State.claimable_iff_bare, State.claimable_iff_bare, State.entry_bare, State.entry_bare,
    bare_of_base same, State.copy, copies_of_base same, State.copy]

/-! ## The operations on the desk -/

section

variable (s : State) (g h : HeadNo) (k : TileKey)

theorem State.ownerOf_setOwner (o : Option HeadNo) (resident : (s.entry k).isSome = true ∨ o = none) (j : TileKey) :
    (s.onEntry k (fun e => { e with owner := o })).ownerOf j = if j = k then o else s.ownerOf j := by
  rw [State.ownerOf, s.entry_onEntry k (f := fun e => { e with owner := o }) (fun _ => rfl), State.ownerOf]
  split
  · cases entry : s.entry k with
    | none => simpa [entry, eq_comm] using resident.symm
    | some e => rfl
  · rfl

/-- One part of a claim unit after a change of one of the eight. -/
theorem State.claim_onClaim {β : Type} (part : ClaimUnit → β) (f : ClaimUnit → ClaimUnit) :
    part ((s.onClaim h f).claim g) = if g = h then part (f (s.claim g)) else part (s.claim g) := by
  rw [State.claim, State.onClaim, Bank.at_put]
  split
  case isTrue here => rw [here]
  case isFalse => rfl

theorem State.desk_dropClaim : (s.dropClaim g k).desk = s.desk.drop g k := by
  ext1
  case owner => exact funext (s.ownerOf_setOwner k none (.inr rfl))
  case waiters => exact funext (s.waitersOf_dropClaim g k)
  case claimable => exact claimable_of_base (s.dropClaim_base g k)
  case slots => exact funext fun h => State.claim_onClaim _ h g (·.slots) _
  case timed =>
    refine funext fun h => (State.claim_onClaim _ h g (·.timer.isSome) _).trans ?_
    split <;> rfl
  all_goals rfl

theorem State.desk_giveClaim (resident : (s.entry k).isSome = true) : (s.giveClaim h k).desk = s.desk.give h k := by
  ext1
  case owner => exact funext (s.ownerOf_setOwner k (some h) (.inl resident))
  case waiters => exact funext (s.waitersOf_giveClaim h k)
  case claimable => exact claimable_of_base (s.giveClaim_base h k)
  case slots => exact funext fun g => State.claim_onClaim _ g h (·.slots) _
  case timed =>
    refine funext fun g => (State.claim_onClaim _ g h (·.timer.isSome) _).trans ?_
    split <;> rfl
  all_goals rfl

theorem State.desk_setWaiters (f : Entry → List HeadNo) {l : List HeadNo}
    (list : ((s.entry k).map f).getD [] = l) :
    (s.onEntry k (fun e => { e with waiters := f e })).desk = s.desk.list k l := by
  ext1
  case owner => exact funext fun j => s.ownerOf_onEntry k j (fun _ => rfl) fun _ => rfl
  case waiters =>
    funext j
    simp only [State.desk, Desk.list, State.waitersOf]
    rw [s.entry_onEntry k (f := fun e => { e with waiters := f e }) (fun _ => rfl)]
    split
    · rw [← list]
      cases s.entry k <;> rfl
    · rfl
  case claimable => exact claimable_of_base (s.setWaiters_base k f)
  all_goals rfl

theorem State.desk_setTimer (timer : Option Nat) :
    (s.onClaim h (fun c => { c with timer := timer })).desk = s.desk.clock h timer.isSome := by
  ext1
  case slots =>
    refine funext fun g => (State.claim_onClaim _ g h (·.slots) _).trans ?_
    split <;> rfl
  case timed => exact funext fun g => State.claim_onClaim _ g h (·.timer.isSome) _
  all_goals rfl

theorem State.desk_stopTimer : (s.stopTimer h).desk = s.desk.clock h false := s.desk_setTimer h none

/-- A change of a head unit reaches the desk by its outstanding request alone. -/
theorem State.desk_onHead (f : HeadUnit → HeadUnit) : (s.onHead h f).desk =
    s.desk.move h ((f (s.head h)).outstanding.map (fun o => (o.wait, o.key))) := by
  ext1
  case wait =>
    funext g
    simp only [State.desk, Desk.move, State.head, State.onHead, Bank.at_put]
    split <;> rfl
  all_goals rfl

theorem Desk.move_same (d : Desk) (h : HeadNo) : d.move h (d.wait h) = d := by
  ext1
  case wait =>
    funext g
    simp only [Desk.move]
    split
    case isTrue here => rw [here]
    case isFalse => rfl
  all_goals rfl

theorem Desk.clock_same {d : Desk} {h : HeadNo} {runs : Bool} (same : d.timed h = runs) : d.clock h runs = d := by
  ext1
  case timed =>
    funext g
    simp only [Desk.clock]
    split
    case isTrue here => rw [here, same]
    case isFalse => rfl
  all_goals rfl

theorem State.desk_onHead_same {f : HeadUnit → HeadUnit} (same : ∀ hu, (f hu).outstanding = hu.outstanding) :
    (s.onHead h f).desk = s.desk := by
  rw [State.desk_onHead, same]
  exact s.desk.move_same h

theorem State.desk_setOutstanding (o : Option Outstanding) :
    (s.setOutstanding h o).desk = s.desk.move h (o.map (fun o => (o.wait, o.key))) :=
  s.desk_onHead h _

theorem State.desk_setWait (w : WaitKind) :
    (s.setWait h w).desk = s.desk.move h ((s.desk.wait h).map (fun x => (w, x.2))) := by
  rw [State.setWait, State.desk_onHead]
  congr 1
  simp only [State.desk, Option.map_map]
  rfl

theorem State.desk_present (r : Requester) : (s.present r).desk = s.desk.offer r := by
  cases free : s.arb.granted with
  | none => ext1 <;> simp [State.present, free, Desk.offer, State.desk] <;> rfl
  | some q => ext1 <;> simp [State.present, free, Desk.offer, State.desk]

theorem State.desk_endRequest (status : Status) (value dwell : Nat) :
    (s.endRequest h status value dwell).desk = s.desk.move h none := by
  cases outstanding : (s.head h).outstanding with
  | none =>
    have idle : s.desk.wait h = none := by simp [State.desk, outstanding]
    rw [State.endRequest, outstanding, ← idle, s.desk.move_same]
  | some o =>
    have ended : ∀ t : State, t.desk = (s.setOutstanding h none).desk → t.desk = s.desk.move h none := fun t same =>
      same.trans (s.desk_setOutstanding h none)
    rw [State.endRequest, outstanding]
    refine ended _ ?_
    dsimp only
    split <;> rfl

theorem State.desk_proceed : (s.proceed h).desk =
    (s.desk.move h ((s.desk.wait h).map (fun x => (.inService, x.2)))).offer (.hu h) := by
  rw [State.proceed, State.desk_present, State.desk_setWait]

theorem State.desk_parkCopy : (s.parkCopy h).desk =
    (s.desk.park (s.engine.waiting ++ [h])).move h ((s.desk.wait h).map (fun x => (.copy, x.2))) :=
  State.desk_setWait _ h .copy

end

/-! ## The agreement of the state -/

theorem State.entry_of_mem {s : State} (distinct : KeysDistinct s) {e : Entry} (listed : e ∈ s.dir) :
    s.entry e.key = some e := by
  obtain ⟨x, found⟩ := Option.isSome_iff_exists.1 (State.entry_isSome_iff.2 ⟨e, listed, rfl⟩)
  obtain ⟨there, key⟩ := State.entry_eq_some found
  rw [found, List.inj_on_of_nodup_map distinct there listed key]

theorem State.presents_iff (s : State) (r : Requester) : s.presents r = true ↔ s.desk.Presents r := by
  cases r with
  | hu h =>
    rw [State.presents_hu]
    simp only [Desk.Presents, State.desk, Option.map_eq_some_iff, Prod.mk.injEq]
    constructor
    · rintro ⟨o, outstanding, wait⟩
      exact ⟨o.key, o, outstanding, wait, rfl⟩
    · rintro ⟨_, o, outstanding, wait, -⟩
      exact ⟨o, outstanding, wait⟩
  | cp => rfl
  | ce => rfl

theorem arbiterInOrder_iff {s : State} : ArbiterInOrder s ↔ s.desk.Granted [] := by
  have presents : ∀ r, s.presents r = false ↔ ¬s.desk.Presents r := fun r => by
    rw [← s.presents_iff r, Bool.not_eq_true]
  have granted : s.desk.granted = s.arb.granted := rfl
  rw [ArbiterInOrder, Desk.Granted, granted]
  cases s.arb.granted with
  | none => simp [presents]
  | some r => simp [State.presents_iff]

/-- R56: outside a duplication no entry has a return state. -/
theorem ret_eq_none_of_live {s : State} (exact : DirectoryExact s) {e : Entry} (listed : e ∈ s.dir)
    (live : e.state = .live) : e.ret = none := by
  obtain ⟨-, -, -, ⟨-, -, copying, source, -⟩, -⟩ := exact
  by_contra some
  obtain ⟨job, busy, key⟩ := (source e listed).1 (Option.isSome_iff_ne_none.2 some)
  exact nomatch live.symm.trans ((copying e listed).2 ⟨job, busy, .inl key⟩)

theorem State.wait_iff {s : State} {h : HeadNo} {w : WaitKind} {j : Option TileKey} :
    s.desk.wait h = some (w, j) ↔ ∃ o, (s.head h).outstanding = some o ∧ o.wait = w ∧ o.key = j := by
  simp [State.desk]

theorem State.copyWait_iff {s : State} {h : HeadNo} :
    (∃ j, s.desk.wait h = some (.copy, j)) ↔ ∃ o, (s.head h).outstanding = some o ∧ o.wait = .copy := by
  simp only [State.wait_iff]
  constructor
  · rintro ⟨_, o, outstanding, waits, -⟩
    exact ⟨o, outstanding, waits⟩
  · rintro ⟨o, outstanding, waits⟩
    exact ⟨o.key, o, outstanding, waits, rfl⟩

theorem State.desk_owner {s : State} (distinct : KeysDistinct s) {e : Entry} (listed : e ∈ s.dir) :
    s.desk.owner e.key = e.owner :=
  State.ownerOf_some (State.entry_of_mem distinct listed)

theorem State.desk_waiters {s : State} (distinct : KeysDistinct s) {e : Entry} (listed : e ∈ s.dir) :
    s.desk.waiters e.key = e.waiters :=
  State.waitersOf_some (State.entry_of_mem distinct listed)

section

variable {s : State} {A : Prop}

/-- R99, R104: claims agree where the desk is in order. -/
theorem Desk.Orderly.claimsAgree (ord : s.desk.Orderly A [] []) (exact : DirectoryExact s) : ClaimsAgree s := by
  obtain ⟨distinct, -⟩ := id exact
  refine ⟨fun h => ⟨ord.distinct h, ord.short h, fun k slot => (ord.holds h k).1 slot, fun timer => ?_,
    fun o outstanding waits => ?_⟩, fun e listed => ?_⟩
  · obtain ⟨-, k, waits⟩ := ord.timer h timer
    obtain ⟨o, outstanding, waits, -⟩ := State.wait_iff.1 waits
    exact ⟨o, outstanding, waits⟩
  · exact ord.waits h o.key (State.wait_iff.2 ⟨o, outstanding, waits, rfl⟩) List.not_mem_nil
  · have owner := State.desk_owner distinct listed
    have waiters := State.desk_waiters distinct listed
    refine ⟨waiters ▸ ord.once e.key, fun h owned => ?_, fun unowned => ?_, fun h on => ?_⟩
    · have owned : s.desk.owner e.key = some h := owner.trans owned
      obtain ⟨shared, x, found, live⟩ := ord.claimable h e.key owned List.not_mem_nil
      obtain rfl := Option.some.inj ((State.entry_of_mem distinct listed).symm.trans found)
      refine ⟨(ord.holds h e.key).2 owned, fun on => ?_, shared, ?_⟩
      · obtain ⟨-, -, other⟩ := ord.listed h e.key (waiters ▸ on)
        exact other owned
      · rw [Entry.standing]
        obtain live | ret := live
        · rw [ret_eq_none_of_live exact listed live]
          exact live
        · rw [ret]
          rfl
    · exact waiters.symm.trans (ord.behind e.key (owner.trans unowned) List.not_mem_nil)
    · obtain ⟨-, waits, -⟩ := ord.listed h e.key (waiters ▸ on)
      exact State.wait_iff.1 waits

/-- R56, R60. -/
theorem Desk.Orderly.copyWaitAgrees (ord : s.desk.Orderly A [] []) : CopyWaitAgrees s := by
  refine ⟨ord.parkedOnce, fun h => (ord.parks h).trans ?_⟩
  simp only [List.not_mem_nil, not_false_eq_true, true_and, State.copyWait_iff]

/-- R19, R56, R60, R99, R104: the desk is in order where the state's own predicates hold. -/
theorem orderly_of_agree (distinct : KeysDistinct s) (claims : ClaimsAgree s) (copies : CopyWaitAgrees s)
    (arbiter : A → ArbiterInOrder s) : s.desk.Orderly A [] [] := by
  obtain ⟨heads, entries⟩ := claims
  obtain ⟨parkedOnce, parks⟩ := copies
  have listed_of_owner : ∀ {k h}, s.desk.owner k = some h → ∃ e ∈ s.dir, e.key = k ∧ e.owner = some h := by
    intro k h owned
    obtain ⟨e, resident, owner⟩ := Option.bind_eq_some_iff.1 owned
    obtain ⟨listed, key⟩ := State.entry_eq_some resident
    exact ⟨e, listed, key, owner⟩
  constructor
  case distinct | short =>
    intro h
    obtain ⟨once, short, -⟩ := heads h
    assumption
  case holds =>
    intro h k
    obtain ⟨-, -, owner, -⟩ := heads h
    refine ⟨owner k, fun owned => ?_⟩
    obtain ⟨e, listed, rfl, owner⟩ := listed_of_owner owned
    obtain ⟨-, owners, -⟩ := entries e listed
    obtain ⟨slot, -⟩ := owners h owner
    exact slot
  case claimable =>
    intro h k owned _
    obtain ⟨e, listed, rfl, owner⟩ := listed_of_owner owned
    obtain ⟨-, owners, -⟩ := entries e listed
    obtain ⟨-, -, shared, live⟩ := owners h owner
    refine ⟨shared, e, State.entry_of_mem distinct listed, ?_⟩
    rw [Entry.standing] at live
    cases ret : e.ret with
    | none => exact .inl (by simpa [ret] using live)
    | some x => exact .inr (by simpa [ret] using live)
  case timer =>
    intro h runs
    obtain ⟨-, -, -, timer, -⟩ := heads h
    obtain ⟨o, outstanding, claim⟩ := timer runs
    exact ⟨List.not_mem_nil, o.key, State.wait_iff.2 ⟨o, outstanding, claim, rfl⟩⟩
  case waits =>
    intro h j waits _
    obtain ⟨-, -, -, -, onList⟩ := heads h
    obtain ⟨o, outstanding, claim, rfl⟩ := State.wait_iff.1 waits
    exact onList o outstanding claim
  case listed =>
    intro h k on
    obtain nobody | ⟨e, listed, rfl, waiters⟩ := s.waitersOf_eq_nil_or k
    · exact absurd (nobody ▸ on : h ∈ []) List.not_mem_nil
    · obtain ⟨-, owners, -, waits⟩ := entries e listed
      have onList : h ∈ e.waiters := waiters ▸ on
      refine ⟨List.not_mem_nil, State.wait_iff.2 (waits h onList), fun owned => ?_⟩
      rw [State.desk_owner distinct listed] at owned
      obtain ⟨-, off, -⟩ := owners h owned
      exact off onList
  case once =>
    intro k
    obtain nobody | ⟨e, listed, rfl, waiters⟩ := s.waitersOf_eq_nil_or k
    · exact (nobody.symm ▸ List.nodup_nil : (s.waitersOf k).Nodup)
    · obtain ⟨once, -⟩ := entries e listed
      exact (waiters.symm ▸ once : (s.waitersOf e.key).Nodup)
  case behind =>
    intro k unowned _
    obtain nobody | ⟨e, listed, rfl, waiters⟩ := s.waitersOf_eq_nil_or k
    · exact nobody
    · obtain ⟨-, -, unwaited, -⟩ := entries e listed
      exact waiters.trans (unwaited ((State.desk_owner distinct listed).symm.trans unowned))
  case parks =>
    intro h
    refine (parks h).trans ?_
    simp only [List.not_mem_nil, not_false_eq_true, true_and, State.copyWait_iff]
  case parkedOnce => exact parkedOnce
  case grant => exact fun a => arbiterInOrder_iff.1 (arbiter a)

/-- R19, R56, R60, R99, R104: the order of the desk. -/
theorem orderly_iff (exact : DirectoryExact s) : s.desk.Orderly A [] [] ↔
    ClaimsAgree s ∧ CopyWaitAgrees s ∧ (A → ArbiterInOrder s) := by
  obtain ⟨distinct, -⟩ := id exact
  exact ⟨fun ord => ⟨ord.claimsAgree exact, ord.copyWaitAgrees, fun a => arbiterInOrder_iff.2 (ord.grant a)⟩,
    fun ⟨claims, copies, arbiter⟩ => orderly_of_agree distinct claims copies arbiter⟩

end

end Sys2Proof.Machine
end

section
/-! PROOFS. R101 to R107: claims that are released, handed on and taken keep the desk in order. -/

namespace Sys2Proof.Machine

open Sys2Proof.Safety

section

variable {A : Prop} {K : List TileKey} {L : List HeadNo} {s : State} {g h w : HeadNo} {k : TileKey}

/-! ## A head that comes back -/

theorem orderly_endRequest (ord : s.desk.Orderly A K (h :: L)) (status : Status) (value dwell : Nat) :
    (s.endRequest h status value dwell).desk.Orderly A K L := by
  rw [State.desk_endRequest]
  exact (ord.move List.mem_cons_self none).back (by simp [Desk.Waiting, Desk.move]) fun _ => by
    simp [Desk.Serving, Desk.move]

theorem orderly_proceed (ord : s.desk.Orderly A K (h :: L)) (new : h ∉ L) {x : WaitKind × Option TileKey}
    (outstanding : s.desk.wait h = some x) : (s.proceed h).desk.Orderly A K L := by
  rw [State.desk_proceed, outstanding]
  exact (ord.move List.mem_cons_self _).offer ⟨x.2, if_pos rfl⟩ new

theorem orderly_parkCopy (ord : s.desk.Orderly A K (h :: L)) (new : h ∉ L) {x : WaitKind × Option TileKey}
    (outstanding : s.desk.wait h = some x) : (s.parkCopy h).desk.Orderly A K L := by
  rw [State.desk_parkCopy, outstanding]
  exact (ord.move List.mem_cons_self _).parkCopy (if_pos rfl) new

/-! ## A release (R105, R106) -/

/-- A head that stands on no wait list. -/
def Desk.Off (d : Desk) (h : HeadNo) : Prop := ∀ j, h ∉ d.waiters j

theorem Desk.Orderly.off_of_aside {d : Desk} (ord : d.Orderly A K L) (aside : h ∈ L) : d.Off h :=
  fun j on => (ord.listed h j on).1 aside

theorem Desk.Orderly.off_of_wait {d : Desk} (ord : d.Orderly A K L) (other : ∀ j, d.wait h ≠ some (.claim, j)) : d.Off h :=
  fun j on => other _ (ord.listed h j on).2.1

/-- What a release of head `g`'s claim on a tile leaves: a tile without an owner gets none, and a head on no wait list
keeps its request, its claims but for the one released, and stays off the lists. -/
structure Released (g : HeadNo) (k : TileKey) (d e : Desk) : Prop where
  unowned : ∀ j, d.owner j = none → e.owner j = none
  slots : ∀ h, d.Off h → e.slots h = if h = g then (d.slots h).filter (fun x => decide (x ≠ k)) else d.slots h
  wait : ∀ h, d.Off h → e.wait h = d.wait h
  off : ∀ h, d.Off h → e.Off h

theorem State.entry_isSome_of_base {t : State} (same : t.base = s.base) (k : TileKey) :
    (t.entry k).isSome = (s.entry k).isSome := by
  rw [← Option.isSome_map (f := Entry.bare), ← Option.isSome_map (f := Entry.bare) (x := s.entry k), t.entry_bare,
    s.entry_bare, bare_of_base same]

theorem State.resident_of_owner (owned : s.desk.owner k = some g) : (s.entry k).isSome = true := by
  obtain ⟨e, resident, -⟩ := Option.bind_eq_some_iff.1 owned
  simp [resident]

theorem State.desk_handing (s : State) (g : HeadNo) (resident : (s.entry k).isSome = true) (rest : List HeadNo) :
    (s.handing g k w rest).desk = ((s.desk.drop g k).list k rest).clock w false := by
  have still := (State.entry_isSome_of_base (s.dropClaim_base g k) k).trans resident
  rw [State.handing, State.desk_stopTimer, State.desk_setWaiters _ k (fun _ => rest), State.desk_dropClaim]
  obtain ⟨e, found⟩ := Option.isSome_iff_exists.1 still
  simp [found]

/-- R105: the first waiter steps aside, and the tile is between two owners. -/
theorem orderly_handing (ord : s.desk.Orderly A K L) (owned : s.desk.owner k = some g) {rest : List HeadNo}
    (waited : s.desk.waiters k = w :: rest) : (s.handing g k w rest).desk.Orderly A (k :: K) (w :: L) := by
  have waits : s.desk.wait w = some (.claim, some k) := (ord.listed w k (waited ▸ List.mem_cons_self)).2.1
  have once := ord.once k
  rw [waited, List.nodup_cons] at once
  have left : (s.desk.waiters k).filter (fun x => decide (x ≠ w)) = rest := by
    rw [waited, List.filter_cons_of_neg (by simp)]
    refine List.filter_eq_self.2 fun x later => decide_eq_true ?_
    rintro rfl
    exact once.1 later
  rw [s.desk_handing g (State.resident_of_owner owned)]
  have dropped := (ord.drop owned).unlist waits
  rwa [show (s.desk.drop g k).waiters k = s.desk.waiters k from rfl, left] at dropped

theorem Desk.Orderly.apart (ord : s.desk.Orderly A K L) : Apart s.waitersOf :=
  ⟨ord.once, fun oni onj => ord.one oni onj⟩

theorem State.surplusClaim_cases (s : State) (w : HeadNo) :
    (∃ oldest second more, (s.claim w).slots = oldest :: second :: more ∧ s.surplusClaim w = some oldest) ∨
      ((s.claim w).slots.length < 2 ∧ s.surplusClaim w = none) := by
  match slots : (s.claim w).slots with
  | [] => exact .inr ⟨by simp, State.surplusClaim_short (by simp [slots])⟩
  | [_] => exact .inr ⟨by simp, State.surplusClaim_short (by simp [slots])⟩
  | oldest :: second :: more => exact .inl ⟨oldest, second, more, rfl, State.surplusClaim_full slots⟩

/-- R106: room for one claim more: as `Released`, and the head holds one claim at most. -/
structure Roomed (h : HeadNo) (d e : Desk) : Prop where
  unowned : ∀ j, d.owner j = none → e.owner j = none
  room : (e.slots h).length < 2
  slots : ∀ x, d.Off x → x ≠ h → e.slots x = d.slots x
  wait : ∀ x, d.Off x → e.wait x = d.wait x
  off : ∀ x, d.Off x → e.Off x

theorem Released.roomed {d e : Desk} (ord : d.Orderly A K L) {oldest : TileKey} {rest : List TileKey}
    (slots : d.slots h = oldest :: rest) (released : Released h oldest d e) (off : d.Off h) : Roomed h d e where
  unowned := released.unowned
  room := by
    have short := ord.short h
    have fewer := List.length_filter_le (fun x => decide (x ≠ oldest)) rest
    rw [released.slots h off, if_pos rfl]
    rw [slots] at short ⊢
    rw [List.filter_cons_of_neg (by simp)]
    simp only [List.length_cons] at short
    omega
  slots x aside other := (released.slots x aside).trans (if_neg other)
  wait := released.wait
  off := released.off

/-- R106: what a bounded release does, it does for a head that makes room for a claim. -/
theorem orderly_makeRoom {n : Nat} (ord : s.desk.Orderly A K L) (off : s.desk.Off w)
    (release : ∀ j, s.desk.owner j = some w → (s.releaseFrom n w j).desk.Orderly A K L ∧
      Released w j s.desk (s.releaseFrom n w j).desk) :
    (s.makeRoom n w).desk.Orderly A K L ∧ Roomed w s.desk (s.makeRoom n w).desk := by
  obtain ⟨oldest, second, more, slots, surplus⟩ | ⟨short, surplus⟩ := s.surplusClaim_cases w
  · have owned : s.desk.owner oldest = some w := (ord.holds w oldest).1 (by
      rw [show s.desk.slots w = oldest :: second :: more from slots]
      exact List.mem_cons_self)
    obtain ⟨ord', released⟩ := release oldest owned
    rw [State.makeRoom, surplus]
    exact ⟨ord', released.roomed ord slots off⟩
  · rw [State.makeRoom, surplus]
    exact ⟨ord, fun _ => id, short, fun _ _ _ => rfl, fun _ _ => rfl, fun _ => id⟩

theorem State.makeRoom_base (n : Nat) (s : State) (w : HeadNo) : (s.makeRoom n w).base = s.base := by
  rw [State.makeRoom]
  split
  · exact State.releaseFrom_base ..
  · rfl

theorem released_drop {d : Desk} (g : HeadNo) (k : TileKey) : Released g k d (d.drop g k) where
  unowned j none := by simp [Desk.drop, none]
  slots _ _ := rfl
  wait _ _ := rfl
  off _ := id

/-- R105: the claim of a tile that no head waits for. -/
theorem orderly_dropClaim (ord : s.desk.Orderly A K L) (owned : s.desk.owner k = some g)
    (unwaited : s.waitersOf k = []) :
    (s.dropClaim g k).desk.Orderly A K L ∧ Released g k s.desk (s.dropClaim g k).desk := by
  rw [State.desk_dropClaim]
  exact ⟨(ord.drop owned).settled (fun _ => unwaited) fun _ owned => (nomatch (if_pos rfl).symm.trans owned), released_drop g k⟩

/-- R106: a tile whose first waiter has stepped aside and has room is handed to it. -/
theorem orderly_handed {t : State} (ord : s.desk.Orderly A K L) (owned : s.desk.owner k = some g) {rest : List HeadNo}
    (waited : s.desk.waiters k = w :: rest) (base : t.base = s.base) (ord' : t.desk.Orderly A (k :: K) (w :: L))
    (roomed : Roomed w (s.handing g k w rest).desk t.desk) :
    ((t.giveClaim w k).proceed w).desk.Orderly A K L ∧ Released g k s.desk ((t.giveClaim w k).proceed w).desk := by
  have resident : (t.entry k).isSome = true := (State.entry_isSome_of_base base k).trans (State.resident_of_owner owned)
  obtain ⟨new, waits, other⟩ := ord.listed w k (waited ▸ List.mem_cons_self)
  have handing := s.desk_handing (w := w) g (State.resident_of_owner owned) rest
  have aside := (orderly_handing ord owned waited).off_of_aside (h := w) List.mem_cons_self
  have unowned : t.desk.owner k = none := roomed.unowned k (by rw [handing]; exact if_pos rfl)
  have still : t.desk.wait w = some (.claim, some k) := by
    rw [roomed.wait w aside, handing]
    exact waits
  have given := ord'.give unowned List.mem_cons_self roomed.room fun fresh => by
    rw [show t.desk.claimable = s.desk.claimable from claimable_of_base base]
    exact ord.claimable g k owned fresh
  rw [← t.desk_giveClaim w k resident] at given
  have outstanding : (t.giveClaim w k).desk.wait w = some (.claim, some k) := by rwa [t.desk_giveClaim w k resident]
  refine ⟨orderly_proceed given new outstanding, ?_⟩
  rw [State.desk_proceed, t.desk_giveClaim w k resident]
  have notWaiter : ∀ h, s.desk.Off h → h ≠ w := fun h off same => off k (by rw [waited, same]; exact List.mem_cons_self)
  have offHanding : ∀ h, s.desk.Off h → (s.handing g k w rest).desk.Off h := by
    intro h off j on
    rw [handing] at on
    simp only [Desk.clock, Desk.list] at on
    split at on
    · exact off k (waited ▸ List.mem_cons_of_mem w on)
    · exact off j on
  constructor
  case unowned =>
    intro j none
    have different : j ≠ k := by
      rintro rfl
      exact nomatch none.symm.trans owned
    refine (if_neg different).trans (roomed.unowned j ?_)
    rw [handing]
    exact (if_neg different).trans none
  case slots =>
    intro h off
    refine (if_neg (notWaiter h off)).trans ((roomed.slots h (offHanding h off) (notWaiter h off)).trans ?_)
    rw [handing]
    rfl
  case wait =>
    intro h off
    refine (if_neg (notWaiter h off)).trans ((roomed.wait h (offHanding h off)).trans ?_)
    rw [handing]
    rfl
  case off => exact fun h off => roomed.off h (offHanding h off)

/-- R105, R106: a release with its handoffs, by induction on the bound. -/
theorem orderly_releaseFrom {n : Nat} (enough : s.listed.card ≤ n) (ord : s.desk.Orderly A K L)
    (owned : s.desk.owner k = some g) :
    (s.releaseFrom n g k).desk.Orderly A K L ∧ Released g k s.desk (s.releaseFrom n g k).desk := by
  induction n generalizing s g k K L with
  | zero =>
    cases waited : s.waitersOf k with
    | nil =>
      rw [State.releaseFrom_nil waited]
      exact orderly_dropClaim ord owned waited
    | cons w rest => exact absurd (State.listed_handing ord.apart waited g) (by omega)
  | succ n ih =>
    cases waited : s.waitersOf k with
    | nil =>
      rw [State.releaseFrom_nil waited]
      exact orderly_dropClaim ord owned waited
    | cons w rest =>
      have fewer := State.listed_handing ord.apart waited g
      have handing := orderly_handing ord owned waited
      obtain ⟨ord', roomed⟩ := orderly_makeRoom (n := n) handing (handing.off_of_aside List.mem_cons_self) fun _ own =>
        ih (by omega) handing own
      have base : ((s.handing g k w rest).makeRoom n w).base = s.base :=
        (State.makeRoom_base ..).trans (by simp [State.handing])
      rw [State.releaseFrom_cons waited]
      exact orderly_handed ord owned waited base ord' roomed

theorem orderly_release (ord : s.desk.Orderly A K L) (owned : s.desk.owner k = some g) :
    (s.release g k).desk.Orderly A K L ∧ Released g k s.desk (s.release g k).desk :=
  orderly_releaseFrom s.listed_card_le ord owned

/-- R110, R111: claims of a head on no wait list are released one by one. -/
theorem orderly_releaseAll {keys : List TileKey} (nodup : keys.Nodup) (own : ∀ j ∈ keys, j ∈ s.desk.slots g)
    (off : s.desk.Off g) (ord : s.desk.Orderly A K L) :
    (s.releaseAll g keys).desk.Orderly A K L ∧ ∀ h, s.desk.Off h → (s.releaseAll g keys).desk.wait h = s.desk.wait h := by
  induction keys generalizing s with
  | nil => exact ⟨ord, fun _ _ => rfl⟩
  | cons k rest ih =>
    obtain ⟨new, nodup⟩ := List.nodup_cons.1 nodup
    obtain ⟨ord', released⟩ := orderly_release ord ((ord.holds g k).1 (own k List.mem_cons_self))
    have left : ∀ j ∈ rest, j ∈ (s.release g k).desk.slots g := by
      intro j later
      rw [released.slots g off, if_pos rfl, List.mem_filter]
      refine ⟨own j (List.mem_cons_of_mem k later), decide_eq_true ?_⟩
      rintro rfl
      exact new later
    obtain ⟨ord'', wait⟩ := ih nodup left (released.off g off) ord'
    exact ⟨ord'', fun h aside => (wait h (released.off h aside)).trans (released.wait h aside)⟩

/-! ## The claim step (R101 to R104) -/

/-- R102: a head set aside takes an unowned tile. -/
theorem orderly_takeClaim (ord : s.desk.Orderly A K (h :: L)) (unowned : s.desk.owner k = none) (may : s.claimable k) :
    (s.takeClaim h k).desk.Orderly A K (h :: L) ∧ (s.takeClaim h k).desk.wait h = s.desk.wait h := by
  have off := ord.off_of_aside (h := h) List.mem_cons_self
  obtain ⟨ord', roomed⟩ := orderly_makeRoom (n := 8) ord off fun _ own => orderly_release ord own
  obtain ⟨-, e, resident, -⟩ := id may
  have still : ((s.makeRoom 8 h).entry k).isSome = true := by
    rw [State.entry_isSome_of_base (s.makeRoom_base 8 h), resident]
    rfl
  have taken : (s.takeClaim h k).desk = (s.makeRoom 8 h).desk.give h k := (s.makeRoom 8 h).desk_giveClaim h k still
  rw [taken]
  refine ⟨(ord'.weaken k).give (roomed.unowned k unowned) List.mem_cons_self roomed.room fun _ => ?_, roomed.wait h off⟩
  rwa [show (s.makeRoom 8 h).desk.claimable = s.desk.claimable from claimable_of_base (s.makeRoom_base 8 h)]

theorem orderly_parkClaim (ord : s.desk.Orderly A K (h :: L)) (new : h ∉ L) {x : WaitKind}
    (outstanding : s.desk.wait h = some (x, some k)) (owned : s.desk.owner k = some g) (other : g ≠ h) :
    (s.parkClaim h k).desk.Orderly A K L := by
  have resident := State.resident_of_owner owned
  obtain ⟨e, found⟩ := Option.isSome_iff_exists.1 resident
  have list : ((s.entry k).map (fun e => e.waiters ++ [h])).getD [] = s.desk.waiters k ++ [h] := by
    simp [found, State.desk, State.waitersOf]
  have joined : ((s.onEntry k (fun e => { e with waiters := e.waiters ++ [h] })).setWait h .claim).desk =
      (s.desk.move h (some (.claim, some k))).list k (s.desk.waiters k ++ [h]) := by
    rw [State.desk_setWait, s.desk_setWaiters k (fun e => e.waiters ++ [h]) list]
    simp only [Desk.list, Desk.move, outstanding, Option.map_some]
  have parked := fun runs => (ord.move List.mem_cons_self (some (.claim, some k))).parkClaim (if_pos rfl) owned other new runs
  rw [State.parkClaim]
  split
  · rw [State.desk_setTimer, joined]
    exact parked true
  · rw [joined]
    have stopped : s.desk.timed h = false := by
      by_contra runs
      exact (ord.timer h (by simpa using runs)).1 List.mem_cons_self
    have still : ((s.desk.move h (some (.claim, some k))).list k (s.desk.waiters k ++ [h])).timed h = false := stopped
    rw [← Desk.clock_same still]
    exact parked false

/-- R101: the claim step of a head set aside. -/
theorem orderly_claimStep (ord : s.desk.Orderly A K (h :: L)) (new : h ∉ L) {x : WaitKind}
    (outstanding : s.desk.wait h = some (x, some k)) (may : s.claimable k) : (s.claimStep h k).desk.Orderly A K L := by
  rw [State.claimStep]
  split
  · exact orderly_endRequest ord ..
  · cases owner : s.ownerOf k with
    | none =>
      obtain ⟨taken, wait⟩ := orderly_takeClaim ord owner may
      exact orderly_proceed taken new (wait.trans outstanding)
    | some g =>
      dsimp only
      split_ifs with own silent cycle
      · exact orderly_proceed ord new outstanding
      · exact orderly_endRequest ord ..
      · exact orderly_endRequest (s := s.raise .contested) ord ..
      · exact orderly_parkClaim ord new outstanding owner own

end

end Sys2Proof.Machine
end

section
/-! PROOFS. R25, R60, R61, R108, R112, R114, R121, R129 to R132, R157, R158: a head's request on its way keeps the desk in
order. -/

namespace Sys2Proof.Machine

open Sys2Proof.Safety

section

variable {A : Prop} {K : List TileKey} {L : List HeadNo} {s : State} {g h w : HeadNo} {k : TileKey}

/-! ## A head set aside (R25, R108, R131, R132) -/

theorem Desk.Orderly.back_idle {d : Desk} (ord : d.Orderly A K (h :: L)) (idle : d.wait h = none) : d.Orderly A K L :=
  ord.back (by simp [Desk.Waiting, idle]) fun _ => by simp [Desk.Serving, idle]

theorem Desk.Orderly.aside_idle {d : Desk} (ord : d.Orderly A K L) (idle : d.wait h = none) : d.Orderly A K (h :: L) :=
  ord.aside (by simp [Desk.Waiting, idle]) fun _ => by simp [Desk.Serving, idle]

/-- R25: the directory step of a head set aside. -/
theorem orderly_directoryStep (ord : s.desk.Orderly A K (h :: L)) (new : h ∉ L) :
    (s.directoryStep h).desk.Orderly A K L := by
  rw [State.directoryStep]
  split
  case h_1 outstanding => exact ord.back_idle (by simp [State.desk, outstanding])
  case h_2 => exact orderly_endRequest ord ..
  case h_3 o y _ _ =>
    dsimp only
    have keyed : ∀ x : Outstanding, (s.setOutstanding h (some x)).desk.Orderly A K (h :: L) ∧
        (s.setOutstanding h (some x)).desk.wait h = some (x.wait, x.key) := fun x => by
      rw [State.desk_setOutstanding]
      exact ⟨ord.move List.mem_cons_self _, if_pos rfl⟩
    generalize asked : ({ o with wait := .inService, key := some (cellKey y o.req.row o.req.col), orphaned := false } :
      Outstanding) = x
    obtain ⟨ord', outstanding⟩ := keyed x
    split
    case h_1 => exact orderly_endRequest ord' ..
    case h_2 e resident =>
      split
      case h_1 => exact orderly_endRequest ord' ..
      case h_2 => exact orderly_parkCopy ord' new outstanding
      case h_3 live =>
        split_ifs with shared
        · exact orderly_claimStep ord' new (by rw [outstanding, ← asked]) ⟨shared, e, resident, .inl live⟩
        · exact orderly_proceed ord' new outstanding
      case h_4 => exact orderly_proceed ord' new outstanding

/-- R128: a request in step wait. -/
theorem orderly_setStep (ord : s.desk.Orderly A K (h :: L)) : (s.setWait h .step).desk.Orderly A K L := by
  rw [State.desk_setWait]
  refine (ord.move List.mem_cons_self _).back ?_ fun _ => ?_ <;>
    simp [Desk.Waiting, Desk.Serving, Desk.move]

theorem orderly_serveRelease (ord : s.desk.Orderly A K (h :: L)) (r : Request) :
    (s.serveRelease h r).desk.Orderly A K L := by
  rw [State.serveRelease]
  split
  case h_1 => exact orderly_endRequest ord ..
  case h_2 y _ =>
    dsimp only
    split_ifs with held
    · have owned := (ord.holds h _).1 (List.contains_iff_mem.1 held)
      exact orderly_endRequest (orderly_release ord owned).1 ..
    · exact orderly_endRequest ord ..

/-- R131, R132: the checks of a request that becomes outstanding. -/
theorem orderly_becomeOutstanding (ord : s.desk.Orderly A K L) (new : h ∉ L) (idle : s.desk.wait h = none) (r : Request) :
    (s.becomeOutstanding h r).desk.Orderly A K L := by
  have arrived : (s.setOutstanding h (some r.arrived)).desk.Orderly A K (h :: L) := by
    rw [State.desk_setOutstanding]
    exact (ord.aside_idle idle).move List.mem_cons_self _
  rw [State.becomeOutstanding_eq]
  split
  · rw [State.checkProbe]
    split_ifs
    · exact orderly_endRequest arrived ..
    · exact orderly_endRequest arrived ..
    · exact orderly_endRequest arrived ..
    · exact orderly_endRequest arrived ..
    · exact orderly_endRequest arrived ..
    · exact orderly_setStep arrived
    · exact orderly_directoryStep arrived new
  · rw [State.checkReport]
    split_ifs
    · exact orderly_endRequest arrived ..
    · exact orderly_endRequest arrived ..
    · exact orderly_setStep arrived
    · exact orderly_directoryStep arrived new
  · rw [State.checkRelease]
    split_ifs
    · exact orderly_endRequest arrived ..
    · exact orderly_endRequest arrived ..
    · exact orderly_serveRelease arrived r

/-! ## Waits that end (R61, R114, R129) -/

/-- R61, R114: a parked head leaves its list. -/
theorem orderly_leaveWait (ord : s.desk.Orderly A K L) (new : h ∉ L) (parked : (s.head h).parked = true) :
    (s.leaveWait h).desk.Orderly A K (h :: L) := by
  rw [State.leaveWait]
  split
  case h_1 outstanding => simp [HeadUnit.parked, outstanding] at parked
  case h_2 o outstanding =>
    have waits : s.desk.wait h = some (o.wait, o.key) := by simp [State.desk, outstanding]
    split
    case h_1 service => simp [HeadUnit.parked, outstanding, service] at parked
    case h_2 step =>
      rw [step] at waits
      exact ord.aside (by simp [Desk.Waiting, waits]) fun _ => by simp [Desk.Serving, waits]
    case h_3 copy =>
      rw [copy] at waits
      exact ord.unpark waits
    case h_4 claim =>
      rw [claim] at waits
      obtain ⟨k, key, on⟩ := ord.waits h _ waits new
      rw [key] at waits
      rw [key]
      have resident : ∃ e, s.entry k = some e := by
        cases found : s.entry k with
        | none => simp [State.desk, State.waitersOf, found] at on
        | some e => exact ⟨e, rfl⟩
      obtain ⟨e, found⟩ := resident
      dsimp only
      rw [State.desk_stopTimer, s.desk_setWaiters k (fun e => e.waiters.filter (fun x => decide (x ≠ h)))
        (l := (s.desk.waiters k).filter (fun x => decide (x ≠ h)))
        (by simp [found, State.desk, State.waitersOf])]
      exact ord.unlist waits

theorem orderly_endParked (ord : s.desk.Orderly A K L) (new : h ∉ L) (status : Status) :
    (s.endParked h status).desk.Orderly A K L ∧
      ((s.head h).inService = false → (s.endParked h status).desk.wait h = none) ∧
      ((s.head h).inService = true → s.endParked h status = s) := by
  rw [State.endParked]
  split_ifs with parked
  · refine ⟨orderly_endRequest (orderly_leaveWait ord new parked) .., fun _ => ?_, fun served => ?_⟩
    · rw [State.desk_endRequest]
      exact if_pos rfl
    · cases outstanding : (s.head h).outstanding <;> simp_all [HeadUnit.parked, HeadUnit.inService]
  · refine ⟨ord, fun unserved => ?_, fun _ => rfl⟩
    cases outstanding : (s.head h).outstanding <;> simp_all [HeadUnit.parked, HeadUnit.inService, State.desk]

/-- R129, R130: the buffered request follows. -/
theorem orderly_settle (ord : s.desk.Orderly A K L) (new : h ∉ L) : (s.settle h).desk.Orderly A K L := by
  rw [State.settle]
  split
  case h_1 => exact ord
  case h_2 r _ =>
    split_ifs with served
    · exact ord
    · obtain ⟨ord', idle, -⟩ := orderly_endParked ord new .cancelled
      have emptied : ((s.endParked h .cancelled).onHead h (fun hu => { hu with buffer := none })).desk =
          (s.endParked h .cancelled).desk := State.desk_onHead_same _ h fun _ => rfl
      refine orderly_becomeOutstanding (by rwa [emptied]) new ?_ r
      rw [emptied]
      exact idle (by simpa using served)

/-- R129: a request arrives. -/
theorem orderly_requestArrives (ord : s.desk.Orderly A K L) (new : h ∉ L) (r : Request) :
    (s.requestArrives h r).desk.Orderly A K L := by
  rw [State.requestArrives]
  split_ifs with served
  · split
    · rwa [State.desk_onHead_same (f := fun hu => { hu with buffer := some r }) _ h fun _ => rfl]
    · exact ord
  · obtain ⟨ord', idle, -⟩ := orderly_endParked ord new .cancelled
    exact orderly_becomeOutstanding ord' new (idle (by simpa using served)) r

/-- R127, R128: a request leaves step wait. -/
theorem orderly_leaveStepWait (ord : s.desk.Orderly A K L) (new : h ∉ L) (waits : (s.head h).inStepWait = true) :
    (s.leaveStepWait h).desk.Orderly A K L := by
  have step : ∃ j, s.desk.wait h = some (.step, j) := by
    cases outstanding : (s.head h).outstanding <;> simp_all [HeadUnit.inStepWait, State.desk]
  obtain ⟨j, step⟩ := step
  have aside := ord.aside (h := h) (by simp [Desk.Waiting, step]) fun _ => by simp [Desk.Serving, step]
  exact orderly_settle (orderly_directoryStep aside new) new

/-- R112: the expiry of a running hold timer. -/
theorem orderly_holdExpiry (ord : s.desk.Orderly A K L) (new : h ∉ L) (brink : s.holdAtBrink h = true) :
    (s.holdExpiry h).desk.Orderly A K L := by
  have runs : s.desk.timed h = true := by
    rw [State.holdAtBrink] at brink
    split at brink
    · cases brink
    · next running => simp [State.desk, running]
  obtain ⟨-, k, waits⟩ := ord.timer h runs
  have parked : (s.head h).parked = true := by
    cases outstanding : (s.head h).outstanding <;> simp_all [HeadUnit.parked, State.desk]
  have left := (orderly_leaveWait ord new parked).stop h
  rw [← State.desk_stopTimer] at left
  exact orderly_settle (orderly_endRequest (s := ((s.leaveWait h).stopTimer h).raise .contested) left ..) new

end

end Sys2Proof.Machine
end

section
/-! PROOFS. R19, R112, R121, R125, R135, R157, R158: ticks, unbinding, halts and LINK RESET keep the desk in order, and
so do the next grants. -/

namespace Sys2Proof.Machine

open Sys2Proof.Safety

section

variable {A : Prop} {K : List TileKey} {L : List HeadNo} {s : State} {g h w : HeadNo} {k : TileKey}

/-! ## Ticks (R112, R135) -/

theorem orderly_holdTick (ord : s.desk.Orderly A K []) (h : HeadNo) : (s.holdTick h).desk.Orderly A K [] := by
  rw [State.holdTick]
  split_ifs with brink
  · exact orderly_holdExpiry ord List.not_mem_nil brink
  · have counted : (s.onClaim h (fun c => { c with timer := c.timer.map (fun n => n + 1) })).desk = s.desk := by
      refine (s.desk_setTimer h ((s.claim h).timer.map (fun n => n + 1))).trans (Desk.clock_same ?_)
      simp [State.desk]
    rwa [counted]

theorem orderly_tick (ord : s.desk.Orderly A K []) : s.tick.desk.Orderly A K [] := by
  obtain ⟨m, a, monitors⟩ := s.monitorTicks_eq allHeads
  rw [State.tick, monitors]
  have ticked : ∀ (heads : List HeadNo) (t : State), t.desk.Orderly A K [] →
      (heads.foldl State.holdTick t).desk.Orderly A K [] := by
    intro heads
    induction heads with
    | nil => exact fun _ => id
    | cons h rest ih => exact fun t kept => ih _ (orderly_holdTick kept h)
  exact ticked allHeads _ ord

/-! ## The grant (R19) -/

theorem mem_ringFrom (last r : Requester) : r ∈ ringFrom last := by
  have ring : r ∈ ([.hu 0, .hu 1, .hu 2, .hu 3, .hu 4, .hu 5, .hu 6, .hu 7, .cp, .ce] : List Requester) := by
    have heads : ∀ h : HeadNo, Requester.hu h ∈
        ([.hu 0, .hu 1, .hu 2, .hu 3, .hu 4, .hu 5, .hu 6, .hu 7, .cp, .ce] : List Requester) := by decide
    cases r with
    | hu h => exact heads h
    | cp => decide
    | ce => decide
  rw [← List.take_append_drop (last.ringIndex + 1) [_, _, _, _, _, _, _, _, _, _]] at ring
  exact List.mem_append.2 (List.mem_append.1 ring).symm

/-- R19: whatever was granted, the next grant goes to a requester that presents an access, if there is one. -/
theorem granted_nextGrant {d : Desk} {last : Requester} (grant : d.granted = s.nextGrant last)
    (presents : ∀ r, d.Presents r ↔ s.desk.Presents r) : d.Granted [] := by
  rw [State.nextGrant_eq] at grant
  refine ⟨fun r is => ⟨?_, fun _ aside => absurd aside List.not_mem_nil⟩, fun none r _ presented => ?_⟩
  · exact (presents r).2 ((s.presents_iff r).1 (by simpa using List.find?_some (grant.symm.trans is)))
  · exact List.find?_eq_none.1 (grant.symm.trans none) r (mem_ringFrom last r)
      ((s.presents_iff r).2 ((presents r).1 presented))

/-- R19, R20: the unit ends, and the next grant is decided. -/
theorem orderly_endUnit (ord : s.desk.Orderly False K []) (r : Requester) : (s.endUnit r).desk.Orderly A K [] :=
  { ord with grant := fun _ => granted_nextGrant (s := s) rfl fun _ => Iff.rfl }

/-- R19: an access is withdrawn by a requester that presents none any more. -/
theorem granted_withdraw {r : Requester} (served : ∀ q, s.desk.granted = some q → q ≠ r → s.desk.Presents q)
    (free : s.desk.granted = none → ∀ q, ¬s.desk.Presents q) : (s.withdraw r).desk.Granted [] := by
  rw [State.withdraw_eq]
  by_cases own : s.arb.granted = some r
  · exact granted_nextGrant (s := s) (if_pos own) fun _ => Iff.rfl
  · refine ⟨fun q is => ⟨?_, fun _ aside => absurd aside List.not_mem_nil⟩, fun none q _ => ?_⟩
    · have is : s.arb.granted = some q := (if_neg own).symm.trans is
      exact served q is fun same => own (same ▸ is)
    · exact free ((if_neg own).symm.trans none) q

theorem orderly_withdraw {r : Requester} (ord : s.desk.Orderly False K [])
    (grant : A → (s.withdraw r).desk.Granted []) : (s.withdraw r).desk.Orderly A K [] := by
  rw [State.withdraw_eq] at grant ⊢
  exact { ord with grant := grant }

/-- R19, R21: the Command Port asks for a store unit. -/
theorem orderly_requestUnit (ord : s.desk.Orderly A K []) (u : PortUnit) : (s.requestUnit u).desk.Orderly A K [] := by
  rw [State.requestUnit, State.desk_present]
  refine { ord with grant := fun a => (ord.grant a).offer_new rfl (fun q presents => ?_) rfl }
  cases q with
  | hu h => exact presents
  | cp => rfl
  | ce => exact presents

/-! ## Unbinding and LINK RESET (R110, R111, R121, R157, R158) -/

theorem off_of_inService (ord : s.desk.Orderly A K L) (served : (s.head h).inService = true) : s.desk.Off h := by
  refine ord.off_of_wait fun _ waits => ?_
  cases outstanding : (s.head h).outstanding <;> simp_all [HeadUnit.inService, State.desk]

theorem off_of_idle {d : Desk} (ord : d.Orderly A K L) (idle : d.wait h = none) : d.Off h :=
  ord.off_of_wait fun _ waits => nomatch idle.symm.trans waits

theorem orderly_unbind (ord : s.desk.Orderly A K []) (h : HeadNo) : (s.unbind h).desk.Orderly A K [] := by
  obtain ⟨ended, idle, stays⟩ := orderly_endParked ord (List.not_mem_nil (a := h)) .unbound
  have off : (s.endParked h .unbound).desk.Off h := by
    by_cases served : (s.head h).inService = true
    · rw [stays served]
      exact off_of_inService ord served
    · exact off_of_idle ended (idle (by simpa using served))
  have emptied : ((s.endParked h .unbound).unbindBuffer h).desk = (s.endParked h .unbound).desk := by
    rw [State.unbindBuffer]
    split
    · rfl
    · exact State.desk_onHead_same _ h fun _ => rfl
  rw [← emptied] at ended off
  have released := (orderly_releaseAll (ended.distinct h) (fun _ own => own) off ended).1.stop h
  rw [← State.desk_stopTimer] at released
  rw [State.unbind]
  rw [State.desk_onHead_same (f := fun hu => { hu with state := .unbound, boundCopy := none }) _ h fun _ => rfl]
  exact released

theorem orderly_halt (ord : s.desk.Orderly A K []) (h : HeadNo) :
    ((s.onHead h (fun hu => { hu with state := .halted })).endParked h .halted).desk.Orderly A K [] := by
  have halted : (s.onHead h (fun hu => { hu with state := .halted })).desk = s.desk := s.desk_onHead_same h fun _ => rfl
  exact (orderly_endParked (by rwa [halted]) List.not_mem_nil _).1

/-- R158: what becomes of the outstanding request. -/
theorem orderly_resetOutstanding (ord : s.desk.Orderly A K []) (h : HeadNo) :
    (s.resetOutstanding h).desk.Orderly A K [] ∧ (s.resetOutstanding h).desk.Off h := by
  rw [State.resetOutstanding]
  split
  case h_1 outstanding => exact ⟨ord, off_of_idle ord (by simp [State.desk, outstanding])⟩
  case h_2 o outstanding =>
    have waits : s.desk.wait h = some (o.wait, o.key) := by simp [State.desk, outstanding]
    split_ifs with parked report
    · have left := orderly_leaveWait ord (List.not_mem_nil (a := h))
        (by simpa [HeadUnit.parked, outstanding] using parked)
      have dropped := left.move List.mem_cons_self none
      have idle : ((s.leaveWait h).desk.move h none).wait h = none := if_pos rfl
      rw [State.desk_setOutstanding]
      exact ⟨dropped.back_idle idle, off_of_idle (dropped.back_idle idle) idle⟩
    · have silent : (s.setOutstanding h (some { o with silent := true })).desk = s.desk := by
        rw [State.desk_setOutstanding]
        exact (congrArg (s.desk.move h) waits.symm).trans (s.desk.move_same h)
      have served : (s.head h).inService = true := by simpa [HeadUnit.inService, outstanding] using parked
      rw [silent]
      exact ⟨ord, off_of_inService ord served⟩
    · have service : s.desk.wait h = some (.inService, o.key) := by rw [waits, not_not.1 parked]
      have dropped := (ord.ungranted.aside (h := h) (by simp [Desk.Waiting, service]) False.elim).move List.mem_cons_self none
      have idle : (s.desk.move h none).wait h = none := if_pos rfl
      have moved := s.desk_setOutstanding h none
      have back := dropped.back_idle idle
      rw [← show (s.setOutstanding h none).desk = s.desk.move h none from moved] at back
      have withdrawn := orderly_withdraw (A := A) (r := .hu h) back fun a => by
        obtain ⟨served, free⟩ := ord.grant a
        refine granted_withdraw (fun q is other => ?_) fun none q presents => ?_ <;> rw [moved] at *
        · exact (Desk.presents_move other).2 (served q is).1
        by_cases own : q = .hu h
        · subst own
          simp [Desk.Presents, Desk.move] at presents
        · exact free none q (fun _ aside => absurd aside List.not_mem_nil) ((Desk.presents_move own).1 presents)
      refine ⟨withdrawn, off_of_idle withdrawn ?_⟩
      rw [State.withdraw_eq]
      exact (congrFun (congrArg Desk.wait moved) h).trans idle

theorem orderly_linkReset (ord : s.desk.Orderly A K []) (h : HeadNo) : (s.linkReset h).desk.Orderly A K [] := by
  have emptied : (s.onHead h (fun hu => { hu with buffer := none })).desk = s.desk := s.desk_onHead_same h fun _ => rfl
  obtain ⟨reset, off⟩ := orderly_resetOutstanding (s := s.onHead h (fun hu => { hu with buffer := none }))
    (by rwa [emptied]) h
  rw [State.linkReset]
  have slots : ∀ t : State, (t.resetClaims h).Sublist (t.claim h).slots := fun t => by
    rw [State.resetClaims]
    split
    · exact .refl _
    · exact List.filter_sublist
  exact (orderly_releaseAll ((slots _).nodup (reset.distinct h)) (fun j own => (slots _).subset own) off reset).1

end

end Sys2Proof.Machine
end

section
/-! PROOFS. R27 to R32, R52, R58, R59, R63, R107: what the store units and the directory's commands do to an entry keeps the
desk in order. -/

namespace Sys2Proof.Machine

open Sys2Proof.Safety

section

variable {A : Prop} {K : List TileKey} {L : List HeadNo} {s : State} {g h w : HeadNo} {k : TileKey}

/-! ## Entries that change (R22) -/

theorem State.claimable_onEntry (k : TileKey) {f : Entry → Entry} (key : ∀ x, (f x).key = x.key) (j : TileKey) :
    (s.onEntry k f).claimable j ↔ (s.copy j.copy).shared = true ∧
      ∃ e, s.entry j = some e ∧ ((if j = k then f e else e).state = .live ∨ (if j = k then f e else e).ret = some .live) := by
  rw [State.claimable, s.entry_onEntry k key]
  refine and_congr_right fun _ => ?_
  by_cases here : j = k
  · subst here
    simp
  · simp [here]

/-- A change of an entry that leaves its key, its owner and its wait list may change what may be claimed. -/
theorem State.desk_onEntry (s : State) (k : TileKey) {f : Entry → Entry} (key : ∀ x, (f x).key = x.key)
    (owner : ∀ x, (f x).owner = x.owner) (waiters : ∀ x, (f x).waiters = x.waiters) :
    (s.onEntry k f).desk = { s.desk with claimable := (s.onEntry k f).claimable } := by
  ext1
  case owner => exact funext fun j => s.ownerOf_onEntry k j key owner
  case waiters => exact funext fun j => s.waitersOf_onEntry k j key waiters
  all_goals rfl

/-- A change of an entry sets its tile aside. -/
theorem orderly_onEntry (ord : s.desk.Orderly A K L) {f : Entry → Entry} (key : ∀ x, (f x).key = x.key)
    (owner : ∀ x, (f x).owner = x.owner) (waiters : ∀ x, (f x).waiters = x.waiters) :
    (s.onEntry k f).desk.Orderly A (k :: K) L := by
  rw [s.desk_onEntry k key owner waiters]
  refine { ord.weaken k with claimable := fun h j owned away => ?_ }
  obtain ⟨other, outside⟩ := not_or.1 (List.mem_cons.not.1 away)
  refine (State.claimable_onEntry k key j).2 ?_
  obtain ⟨shared, e, resident, live⟩ := ord.claimable h j owned outside
  exact ⟨shared, e, resident, by rwa [if_neg other]⟩

/-- A change of an entry that leaves it claimable if it was. -/
theorem orderly_onEntry_live (ord : s.desk.Orderly A K L) (inside : k ∉ K) {f : Entry → Entry}
    (key : ∀ x, (f x).key = x.key) (owner : ∀ x, (f x).owner = x.owner) (waiters : ∀ x, (f x).waiters = x.waiters)
    (live : ∀ e, s.entry k = some e → e.state = .live ∨ e.ret = some .live →
      (f e).state = .live ∨ (f e).ret = some .live) : (s.onEntry k f).desk.Orderly A K L := by
  have changed := orderly_onEntry (k := k) ord key owner waiters
  have desk := s.desk_onEntry k key owner waiters
  refine changed.settled (fun unowned => ?_) fun h owned => ?_
  · rw [desk] at unowned ⊢
    exact ord.behind k unowned inside
  · rw [desk] at owned
    obtain ⟨shared, e, resident, before⟩ := ord.claimable h k owned inside
    exact (State.claimable_onEntry k key k).2 ⟨shared, e, resident, by simpa using live e resident before⟩

/-! ## Entering DONE (R31, R107) -/

theorem State.desk_serveWaiters (s : State) (waiters : List HeadNo) : (s.serveWaiters waiters).desk = { s.desk with
    timed := fun h => if h ∈ waiters then false else s.desk.timed h
    wait := fun h => if h ∈ waiters then (s.desk.wait h).map (fun x => (.inService, x.2)) else s.desk.wait h
    granted := s.desk.granted.or (waiters.head?.map .hu) } := by
  rw [State.serveWaiters_eq]
  ext1
  case slots => exact funext fun h => (congrArg ClaimUnit.slots (Bank.at_ofFn _ h)).trans rfl
  case timed =>
    funext h
    refine (congrArg (fun c : ClaimUnit => c.timer.isSome) (Bank.at_ofFn _ h)).trans ?_
    dsimp only
    split <;> rfl
  case wait =>
    funext h
    refine (congrArg (fun u : HeadUnit => u.outstanding.map (fun o => (o.wait, o.key))) (Bank.at_ofFn _ h)).trans ?_
    dsimp only
    split
    · simp [State.desk, Function.comp_def]
    · rfl
  case granted =>
    simp only [State.desk]
    cases s.arb.granted <;> simp
  all_goals rfl

theorem State.desk_enterDone (s : State) (k : TileKey) : (s.enterDone k).desk = s.desk.finish k := by
  have emptied : ∀ t : State, (t.onEntry k (fun e => { e with waiters := [] })).desk = t.desk.list k [] := fun t =>
    t.desk_setWaiters k (fun _ => []) (by cases t.entry k <;> rfl)
  have marked : ({ s with done := s.done ++ [k] }.raise .doneReady).ownerOf k = s.desk.owner k := rfl
  rw [State.enterDone, marked]
  cases owner : s.desk.owner k with
  | none =>
    dsimp only
    rw [State.desk_serveWaiters, emptied]
    ext1
    case owner =>
      funext j
      simp only [Desk.finish, Desk.list]
      split
      case isTrue here => rw [here]; exact owner
      case isFalse => rfl
    case slots => simp only [Desk.finish, owner]; rfl
    all_goals rfl
  | some g =>
    dsimp only
    rw [State.desk_serveWaiters, emptied, State.desk_dropClaim, State.waitersOf_dropClaim]
    ext1
    case slots =>
      funext h
      simp only [Desk.finish, owner, Desk.list, Desk.drop, Option.some.injEq, eq_comm (a := g)]
      rfl
    all_goals rfl

/-- R31: a tile that is set aside enters DONE. -/
theorem orderly_enterDone (ord : s.desk.Orderly A (k :: K) L) : (s.enterDone k).desk.Orderly A K L := by
  rw [State.desk_enterDone]
  exact ord.finish

/-- R30 to R32: the state of an entry follows its count. -/
theorem orderly_followCount (ord : s.desk.Orderly A [] L) (k : TileKey) : (s.followCount k).desk.Orderly A [] L := by
  rw [State.followCount]
  split
  case h_1 => exact ord
  case h_2 e _ =>
    split_ifs
    · exact orderly_enterDone (orderly_onEntry ord (fun _ => rfl) (fun _ => rfl) fun _ => rfl)
    · exact orderly_onEntry_live ord List.not_mem_nil (f := fun x => { x with state := .live }) (fun _ => rfl)
        (fun _ => rfl) (fun _ => rfl) fun _ _ _ => .inl rfl
    · exact ord

theorem orderly_finishIfNone (ord : s.desk.Orderly A [] L) (k : TileKey) : (s.finishIfNone k).desk.Orderly A [] L := by
  rw [State.finishIfNone]
  split
  case h_1 => exact ord
  case h_2 e _ =>
    split_ifs
    · exact orderly_enterDone (orderly_onEntry ord (fun _ => rfl) (fun _ => rfl) fun _ => rfl)
    · exact ord

/-! ## The store units of the Command Port (R20, R21) -/

theorem State.desk_onCells (s : State) (e : Entry) (cells : List Nat) (f : Nat → Cell → Cell) :
    (s.onCells e cells f).desk = s.desk := rfl

theorem State.desk_onLoad (s : State) (f : LoadUnit → LoadUnit) : (s.onLoad f).desk = s.desk := rfl

theorem State.desk_accept (s : State) : s.accept.desk = s.desk := rfl

theorem orderly_tileSealUnit (ord : s.desk.Orderly A [] L) : s.tileSealUnit.desk.Orderly A [] L := by
  rw [State.tileSealUnit]
  split
  case h_1 => exact ord
  case h_2 k _ =>
    split
    case h_1 => exact ord
    case h_2 e _ =>
      dsimp only
      have cells := s.desk_onCells e cellIndices (fun _ c => c.sealed (s.copy k.copy).overTol)
      generalize s.onCells e cellIndices (fun _ c => c.sealed (s.copy k.copy).overTol) = t at *
      rw [← cells] at ord
      generalize t.store.countCells e.slot (fun c => !c.finished (s.copy k.copy).finishTol) = remaining
      generalize t.store.countCells e.slot (fun c => c.overcut) = overcut
      split_ifs
      · exact orderly_enterDone (s := (t.onEntry k _).closeTile)
          (orderly_onEntry ord (fun _ => rfl) (fun _ => rfl) fun _ => rfl)
      · exact orderly_onEntry_live ord List.not_mem_nil (fun _ => rfl) (fun _ => rfl) (fun _ => rfl)
          fun _ _ _ => .inl rfl

theorem orderly_tileEditUnit (ord : s.desk.Orderly A [] L) (k : TileKey) (cell depth : Nat) :
    (s.tileEditUnit k cell depth).desk.Orderly A [] L := by
  rw [State.tileEditUnit]
  split
  case h_1 => exact ord
  case h_2 e _ =>
    split_ifs
    · exact ord
    · dsimp only
      split_ifs
      · exact ord
      · refine orderly_followCount (s := (State.onCell _ _ _ _).onEntry k _) ?_ k
        refine orderly_onEntry_live (s := State.onCell s e cell _) ord List.not_mem_nil (fun _ => rfl) (fun _ => rfl)
          (fun _ => rfl) fun _ _ live => live

/-- R20, R21: a store unit of the Command Port, up to the next grant. -/
theorem orderly_runUnit (ord : s.desk.Orderly False [] []) (u : PortUnit) :
    (s.runUnit u).endPortUnit.desk.Orderly A [] [] := by
  have ended : ∀ t : State, t.desk.Orderly False [] [] → t.endPortUnit.desk.Orderly A [] [] := fun t kept =>
    orderly_endUnit (s := t.onPort (fun p => { p with unit := none })) { kept with grant := False.elim } .cp
  refine ended _ ?_
  cases u with
  | tileOpen k =>
    simp only [State.runUnit, State.tileOpenUnit]
    split
    · exact ord
    · rwa [State.desk_accept, State.desk_onCells]
  | targetValue d =>
    simp only [State.runUnit, State.streamUnit]
    split
    · exact ord
    · exact ord
  | cutValue d =>
    simp only [State.runUnit, State.streamUnit]
    split
    · exact ord
    · exact ord
  | fill d =>
    simp only [State.runUnit, State.fillUnit]
    split
    · exact ord
    · rwa [State.desk_accept, State.desk_onLoad, State.desk_onCells]
  | tileSeal => exact orderly_tileSealUnit ord
  | fenceWrite k rows =>
    simp only [State.runUnit, State.fenceWriteUnit]
    split
    · exact ord
    · split_ifs
      · exact ord
      · rwa [State.desk_accept, State.desk_onCells]
  | tileEdit k c d => exact orderly_tileEditUnit ord k c d
  | tileRead k f =>
    simp only [State.runUnit, State.tileReadUnit]
    split
    · exact ord
    · split_ifs
      · exact ord
      · exact ord

end

end Sys2Proof.Machine
end

section
/-! PROOFS. R24, R26, R36, R58, R63, R65, R86, R111: entries that come and go, and the units of the heads and of the Copy
Engine, keep the desk in order. -/

namespace Sys2Proof.Machine

open Sys2Proof.Safety

section

variable {A : Prop} {K : List TileKey} {L : List HeadNo} {s : State} {g h w : HeadNo} {k : TileKey}

/-! ## Entries created and removed (R24, R26) -/

theorem State.entry_createEntry (absent : s.entry k = none) (state : TileState) (j : TileKey) :
    (s.createEntry k state).entry j = s.entry j ∨
      j = k ∧ ∃ slot, (s.createEntry k state).entry j = some (Entry.fresh k slot state) := by
  rw [State.createEntry]
  split
  case h_1 => exact .inl rfl
  case h_2 slot pool _ =>
    have appended : ({ s with dir := s.dir ++ [Entry.fresh k slot state], freeSlots := pool } : State).entry j =
        (s.entry j).or (if k = j then some (Entry.fresh k slot state) else none) := by
      simp only [State.entry, List.find?_append, List.find?_singleton, decide_eq_true_eq]
      rfl
    rw [appended]
    by_cases here : k = j
    · subst here
      exact .inr ⟨rfl, slot, by simp [absent]⟩
    · exact .inl (by simp [here])

/-- R24: a new entry that is not LIVE has no claim and no waiters, and may not be claimed. -/
theorem State.desk_createEntry (absent : s.entry k = none) {state : TileState} (notLive : state ≠ .live) :
    (s.createEntry k state).desk = s.desk := by
  have entry := State.entry_createEntry (s := s) absent state
  have part : ∀ {β : Type} (f : Option Entry → β) (j : TileKey),
      (∀ slot, f (some (Entry.fresh k slot state)) = f none) → f ((s.createEntry k state).entry j) = f (s.entry j) := by
    intro β f j fresh
    obtain same | ⟨rfl, slot, created⟩ := entry j
    · rw [same]
    · rw [created, fresh, absent]
  ext1
  case owner => exact funext fun j => part (fun e => e.bind (fun e => e.owner)) j fun _ => rfl
  case waiters => exact funext fun j => part (fun x : Option Entry => (x.map Entry.waiters).getD []) j fun _ => rfl
  case claimable =>
    funext j
    have copies : (s.createEntry k state).copy = s.copy := by
      rw [State.createEntry]
      split <;> rfl
    simp only [State.desk, State.claimable, copies]
    refine part (fun x => ((s.copy j.copy).shared = true ∧ ∃ e, x = some e ∧ (e.state = .live ∨ e.ret = some .live))) j fun slot => ?_
    simp [Entry.fresh, notLive]
  all_goals
    simp only [State.desk, State.createEntry]
    split <;> rfl

theorem State.entry_removeEntry {e : Entry} (distinct : KeysDistinct s) (resident : s.entry k = some e) (j : TileKey) :
    (s.removeEntry k).entry j = if j = k then none else s.entry j := by
  rw [State.removeEntry_eq distinct resident]
  simp only [State.entry, List.find?_filter]
  split
  case isTrue here =>
    subst here
    simp
  case isFalse other =>
    congr 1
    funext x
    by_cases own : x.key = j
    · simp [own, other]
    · simp [own]

/-- R36: an entry that no head owns is removed. -/
theorem orderly_removeEntry (ord : s.desk.Orderly A [] []) {e : Entry} (distinct : KeysDistinct s)
    (resident : s.entry k = some e) (unowned : s.desk.owner k = none) : (s.removeEntry k).desk.Orderly A [] [] := by
  have entry := State.entry_removeEntry distinct resident
  have unwaited := ord.behind k unowned List.not_mem_nil
  have desk : (s.removeEntry k).desk = { s.desk with claimable := (s.removeEntry k).claimable } := by
    ext1
    case owner =>
      funext j
      simp only [State.desk, State.ownerOf, entry]
      split
      case isTrue here => rw [here]; exact unowned.symm
      case isFalse => rfl
    case waiters =>
      funext j
      simp only [State.desk, State.waitersOf, entry]
      split
      case isTrue here => rw [here]; exact unwaited.symm
      case isFalse => rfl
    case wait =>
      funext h
      simp only [State.desk]
      rw [State.removeEntry_eq distinct resident]
      simp only [State.head, Bank.at_map, Option.map_map]
      congr 1
      funext o
      simp only [Function.comp]
      split <;> rfl
    all_goals
      rw [State.removeEntry_eq distinct resident]
      rfl
  rw [desk]
  refine { ord with claimable := fun h j owned away => ?_ }
  have other : j ≠ k := by
    rintro rfl
    exact nomatch unowned.symm.trans owned
  obtain ⟨shared, x, found, live⟩ := ord.claimable h j owned away
  refine ⟨?_, x, (entry j).trans ((if_neg other).trans found), live⟩
  rw [State.removeEntry_eq distinct resident]
  exact shared

/-! ## TILE DUPLICATE (R58) and the Copy Engine (R59, R63) -/

/-- R58: the source keeps what may be claimed, and the engine presents its first access. -/
theorem orderly_acceptDuplicate (ord : s.desk.Orderly A [] []) {src dst : TileKey} {e : Entry}
    (resident : s.entry src = some e) (settled : e.ret = none) (absent : s.entry dst = none) :
    (s.acceptDuplicate src dst).desk.Orderly A [] [] := by
  have marked := orderly_onEntry_live (k := src) (f := Entry.asSource) ord List.not_mem_nil (fun _ => rfl) (fun _ => rfl)
    (fun _ => rfl) fun x found live => by
      obtain rfl := Option.some.inj (resident.symm.trans found)
      exact .inr (congrArg some (live.resolve_right (by simp [settled])))
  have absent' : (s.onEntry src Entry.asSource).entry dst = none := by
    rw [s.entry_onEntry src (f := Entry.asSource) fun _ => rfl]
    split
    case isTrue here => exact nomatch (here ▸ absent).symm.trans resident
    case isFalse => exact absent
  rw [← State.desk_createEntry absent' (state := .copying) nofun] at marked
  have begun : (s.acceptDuplicate src dst).desk = Desk.offer
      { ((s.onEntry src Entry.asSource).createEntry dst .copying).desk with copying := true } .ce :=
    State.desk_present _ .ce
  rw [begun]
  refine { marked with grant := fun a => (marked.grant a).offer_new rfl (fun q presents => ?_) rfl }
  cases q with
  | hu h => exact presents
  | cp => exact presents
  | ce => rfl

/-- R63, items 2 and 3. -/
theorem orderly_completeDest (ord : s.desk.Orderly A [] L) (dst : TileKey) : (s.completeDest dst).desk.Orderly A [] L := by
  rw [State.completeDest]
  split
  case h_1 => exact ord
  case h_2 e _ =>
    dsimp only
    generalize s.store.countCells e.slot (fun c => decide ((s.copy dst.copy).finishTol < c.target)) = remaining
    split_ifs with finished
    · exact orderly_enterDone (orderly_onEntry ord (fun _ => rfl) (fun _ => rfl) fun _ => rfl)
    · exact orderly_onEntry_live ord List.not_mem_nil (fun _ => rfl) (fun _ => rfl) (fun _ => rfl)
        fun _ _ _ => .inl rfl

/-- R63, item 6: the requests of the copy-wait list go on. -/
theorem orderly_resumeAll {waiting : List HeadNo} (once : waiting.Nodup) (ord : s.desk.Orderly A K waiting) :
    (waiting.foldl State.resumeCopyWait s).desk.Orderly A K [] := by
  induction waiting generalizing s with
  | nil => exact ord
  | cons h rest ih =>
    obtain ⟨new, once⟩ := List.nodup_cons.1 once
    exact ih once (orderly_settle (orderly_directoryStep ord new) new)

/-- R59, R63: a transfer, and the completion. -/
theorem orderly_copyUnit (ord : s.desk.Orderly False [] []) {job : CopyJob}
    (source : ∀ e, s.entry job.source = some e → e.state = .copying) : (s.copyUnit job).desk.Orderly A [] [] := by
  have transferred : (s.transferCell job).desk = s.desk := by
    rw [State.transferCell]
    split <;> rfl
  have source' : ∀ e, (s.transferCell job).entry job.source = some e → e.state = .copying := by
    rw [State.transferCell]
    split <;> exact source
  refine orderly_endUnit ?_ .ce
  split_ifs
  · exact (transferred ▸ ord : (s.transferCell job).desk.Orderly False [] [])
  · rw [State.completeCopy_eq]
    have returned := orderly_onEntry_live (k := job.source) (f := Entry.returnFromCopy) (s := s.transferCell job)
      (by rwa [transferred]) List.not_mem_nil (fun _ => rfl) (fun _ => rfl) (fun _ => rfl) fun e found live => by
        have ret := live.resolve_left (by simp [source' e found])
        exact .inl (by simp [Entry.returnFromCopy, ret])
    have completed := orderly_completeDest returned job.dest
    exact orderly_resumeAll completed.parkedOnce completed.unparkAll

/-! ## The units of the heads (R26, R65, R86, R111) -/

/-- R26: the re-check, whose service ends the request. -/
theorem orderly_recheck (ord : s.desk.Orderly A K [h]) {o : Outstanding} (waits : s.desk.wait h = some (.inService, some k))
    {serve : State → HeadNo → Outstanding → Entry → State}
    (served : ∀ e, (serve s h o e).desk.Orderly A K []) : (s.recheck h o k serve).desk.Orderly A K [] := by
  have new : h ∉ ([] : List HeadNo) := List.not_mem_nil
  rw [State.recheck]
  split
  case h_1 => exact orderly_endRequest ord ..
  case h_2 e found =>
    split_ifs with copying claims
    · rw [State.meetCopying]
      split_ifs
      · exact orderly_endRequest ord ..
      · exact orderly_parkCopy ord new waits
    · obtain ⟨live, shared, -⟩ := claims
      have resident : s.entry k = some e := by
        rw [State.requestEntry] at found
        split_ifs at found
        split at found
        · cases found
        · split_ifs at found
          rwa [← Option.some.inj found]
      exact orderly_claimStep ord new waits ⟨shared, e, resident, .inl live⟩
    · exact served e

theorem orderly_record (ord : s.desk.Orderly A [] L) (h : HeadNo) (o : Outstanding) (e : Entry) :
    (s.record h o e).desk.Orderly A [] L := by
  have grown : ∀ (t : State) (removed rate : Nat), (t.growWear h removed rate).desk = t.desk := fun t removed rate => by
    have worn := t.desk_onHead_same h (f := fun hu => { hu with wear := grownWear hu.wear removed rate }) fun _ => rfl
    rw [State.growWear]
    split
    · exact (State.desk_onHead_same (f := fun hu => { hu with worn := true }) _ h fun _ => rfl).trans worn
    · exact worn
  have noted : ∀ (t : State) (v : Violation), (t.noteViolation v).desk = t.desk := fun t v => by
    rw [State.noteViolation]
    split <;> rfl
  have counted : ∀ t : State, t.desk.Orderly A [] L → ∀ (k : TileKey) (old new : Cell) (finishTol : Nat),
      ((t.onEntry k (fun x => x.countReport old new finishTol)).finishIfNone k).desk.Orderly A [] L :=
    fun t kept k old new finishTol => orderly_finishIfNone (orderly_onEntry_live
      (f := fun x => x.countReport old new finishTol) kept List.not_mem_nil (fun _ => rfl) (fun _ => rfl) (fun _ => rfl)
      fun _ _ live => live) k
  have halts : ∀ hu : HeadUnit, hu.haltByViolation.outstanding = hu.outstanding := HeadUnit.haltByViolation_outstanding
  rw [State.record]
  split
  · exact counted _ (by rw [grown]; exact ord) ..
  · rw [State.desk_onHead_same _ h halts, noted]
    exact counted _ (by rw [grown]; exact ord) ..

theorem orderly_serveReport (ord : s.desk.Orderly A [] (h :: L)) (o : Outstanding) (e : Entry) :
    (s.serveReport h o e).desk.Orderly A [] L := by
  rw [State.serveReport]
  split
  · exact orderly_endRequest ord ..
  · split <;> exact orderly_endRequest (orderly_record ord ..) ..

/-- The head whose unit holds the grant, set aside. -/
theorem orderly_unit (ord : s.desk.Orderly False [] []) {o : Outstanding} (granted : HeadUnitGranted s h o k) :
    s.desk.wait h = some (.inService, some k) ∧ s.desk.Orderly False [] [h] := by
  obtain ⟨outstanding, service, key, -⟩ := granted
  have waits : s.desk.wait h = some (.inService, some k) := by simp [State.desk, outstanding, service, key]
  exact ⟨waits, ord.aside (by simp [Desk.Waiting, waits]) False.elim⟩

/-- R65. -/
theorem orderly_probeUnit (ord : s.desk.Orderly False [] []) {o : Outstanding} (granted : HeadUnitGranted s h o k) :
    (s.probeUnit h o k).desk.Orderly A [] [] := by
  obtain ⟨waits, aside⟩ := orderly_unit ord granted
  refine orderly_endUnit (orderly_settle (orderly_recheck aside waits fun e => ?_) List.not_mem_nil) _
  rw [State.serveProbe]
  split
  · exact orderly_endRequest aside ..
  · exact orderly_endRequest aside ..

/-- R86, R111. -/
theorem orderly_reportUnit (ord : s.desk.Orderly False [] []) {o : Outstanding} (granted : HeadUnitGranted s h o k) :
    (s.reportUnit h o k).desk.Orderly A [] [] := by
  obtain ⟨waits, aside⟩ := orderly_unit ord granted
  have checked := orderly_recheck aside waits fun e => orderly_serveReport aside o e
  refine orderly_endUnit (orderly_settle ?_ List.not_mem_nil) _
  rw [State.releaseCarriedOn]
  split_ifs with carried
  · have owned : (s.recheck h o k State.serveReport).desk.owner k = some h := by
      simp only [Bool.and_eq_true, decide_eq_true_eq] at carried
      exact carried.2
    exact (orderly_release checked owned).1
  · exact checked

end

end Sys2Proof.Machine
end

section
/-! PROOFS. R39, R64: CLEAR WORK keeps the desk in order. With the directory and the lists empty, each wait that ends
touches its own head alone. -/

namespace Sys2Proof.Machine

open Sys2Proof.Safety

/-- `Emptied`, and no head holds a claim. -/
structure Bare (s : State) : Prop extends Emptied s where
  slots : ∀ h : HeadNo, (s.claim h).slots = []

/-- Head `h` has no request any more, or one in step wait, and only its unit and its link have changed. -/
def Ends (h : HeadNo) (s t : State) : Prop := ∃ hu l, (∀ o, hu.outstanding = some o → o.wait = .step) ∧
  t = { s with heads := Bank.put s.heads h hu, links := Bank.put s.links h l }

section

variable {h : HeadNo} {s t u : State}

theorem Ends.of_idle (idle : ∀ o, (s.head h).outstanding = some o → o.wait = .step) : Ends h s s := by
  refine ⟨s.head h, s.link h, idle, ?_⟩
  rw [State.head, State.link, Bank.put_same, Bank.put_same]

theorem Ends.trans (first : Ends h s t) (second : Ends h t u) : Ends h s u := by
  obtain ⟨_, _, -, rfl⟩ := first
  obtain ⟨hu, l, idle, rfl⟩ := second
  refine ⟨hu, l, idle, ?_⟩
  simp only [Bank.put_put]

theorem Ends.head (ends : Ends h s t) {o : Outstanding} (outstanding : (t.head h).outstanding = some o) : o.wait = .step := by
  obtain ⟨hu, l, idle, rfl⟩ := ends
  refine idle o ?_
  rw [← outstanding]
  exact congrArg HeadUnit.outstanding (Bank.at_put_same _ _ _).symm

/-- A change of the head's own unit comes before. -/
theorem Ends.onHead {f : HeadUnit → HeadUnit} (ends : Ends h (s.onHead h f) t) : Ends h s t := by
  obtain ⟨hu, l, idle, rfl⟩ := ends
  refine ⟨hu, l, idle, ?_⟩
  simp only [State.onHead, Bank.put_put]

theorem Bare.of_ends (bare : Bare s) (ends : Ends h s t) : Bare t := by
  obtain ⟨_, _, -, rfl⟩ := ends
  exact ⟨⟨bare.dir, bare.waiting, bare.timer⟩, bare.slots⟩

theorem Bare.onHead (bare : Bare s) (f : HeadUnit → HeadUnit) : Bare (s.onHead h f) :=
  ⟨⟨bare.dir, bare.waiting, bare.timer⟩, bare.slots⟩

theorem ends_queueAnswer (idle : ∀ o, (s.head h).outstanding = some o → o.wait = .step) (a : Answer) :
    Ends h s (s.queueAnswer h a) := by
  refine ⟨s.head h, { s.link h with tx := (s.link h).tx ++ [a] }, idle, ?_⟩
  rw [State.head, Bank.put_same]
  rfl

theorem ends_endRequest (s : State) (h : HeadNo) (status : Status) (value dwell : Nat) :
    Ends h s (s.endRequest h status value dwell) := by
  rw [State.endRequest]
  split
  case h_1 outstanding => exact .of_idle (by simp [outstanding])
  case h_2 o _ =>
    refine Ends.onHead (f := fun hu => { hu with outstanding := none }) ?_
    have freed : ∀ o, ((s.setOutstanding h none).head h).outstanding = some o → o.wait = .step := by
      simp [State.setOutstanding]
    dsimp only
    split
    · exact .of_idle freed
    · exact ends_queueAnswer freed _

theorem ends_setStep (s : State) (h : HeadNo) : Ends h s (s.setWait h .step) := by
  refine Ends.onHead (.of_idle fun o outstanding => ?_)
  rw [State.head_onHead_same] at outstanding
  obtain ⟨_, -, rfl⟩ := Option.map_eq_some_iff.1 outstanding
  rfl

/-! ## A request that becomes outstanding finds nothing (R25, R108) -/

theorem ends_directoryStep (bare : Bare s) (h : HeadNo) : Ends h s (s.directoryStep h) := by
  rw [State.directoryStep]
  split
  case h_1 outstanding => exact .of_idle (by simp [outstanding])
  case h_2 => exact ends_endRequest ..
  case h_3 o y _ _ =>
    have absent : ∀ x k, (s.setOutstanding h x).entry k = none := fun x k => by
      rw [State.entry, State.setOutstanding_dir, bare.dir]
      rfl
    simp only [absent]
    exact Ends.onHead (ends_endRequest ..)

theorem ends_becomeOutstanding (bare : Bare s) (h : HeadNo) (r : Request) : Ends h s (s.becomeOutstanding h r) := by
  have arrived := bare.onHead (h := h) (fun hu => { hu with outstanding := some r.arrived })
  rw [State.becomeOutstanding_eq]
  refine Ends.onHead (f := fun hu => { hu with outstanding := some r.arrived }) ?_
  change Bare (s.setOutstanding h (some r.arrived)) at arrived
  change Ends h (s.setOutstanding h (some r.arrived)) _
  generalize s.setOutstanding h (some r.arrived) = t at *
  split
  · rw [State.checkProbe]
    split_ifs
    · exact ends_endRequest ..
    · exact ends_endRequest ..
    · exact ends_endRequest ..
    · exact ends_endRequest ..
    · exact ends_endRequest ..
    · exact ends_setStep ..
    · exact ends_directoryStep arrived h
  · rw [State.checkReport]
    split_ifs
    · exact ends_endRequest ..
    · exact ends_endRequest ..
    · exact ends_setStep ..
    · exact ends_directoryStep arrived h
  · rw [State.checkRelease]
    split_ifs
    · exact ends_endRequest ..
    · exact ends_endRequest ..
    · simp only [State.serveRelease, arrived.slots]
      split <;> exact ends_endRequest ..

/-! ## The waits that end (R39) -/

theorem ends_settle (bare : Bare s) (idle : ∀ o, (s.head h).outstanding = some o → o.wait = .step) :
    Ends h s (s.settle h) := by
  have ended : Ends h s (s.endParked h .cancelled) := by
    rw [State.endParked, bare.toEmptied.leaveWait]
    split
    · exact ends_endRequest ..
    · exact .of_idle idle
  rw [State.settle]
  split
  case h_1 => exact .of_idle idle
  case h_2 r _ =>
    split
    · exact .of_idle idle
    · exact ended.trans (Ends.onHead (ends_becomeOutstanding ((bare.of_ends ended).onHead _) h r))

theorem ends_cancelWaits (bare : Bare s) (h : HeadNo) :
    Ends h s (s.cancelWaits h) ∧ (s.head h).inService = false ∨
    s.cancelWaits h = s ∧ ∀ o, (s.head h).outstanding = some o → ¬o.Waits := by
  rw [State.cancelWaits]
  split
  case h_1 outstanding => exact .inr ⟨rfl, by simp [outstanding]⟩
  case h_2 o outstanding =>
    split
    case isTrue waits =>
      rw [bare.toEmptied.leaveWait]
      have ended := ends_endRequest s h .cancelled 0 0
      refine .inl ⟨ended.trans (ends_settle (bare.of_ends ended) fun _ => ended.head), ?_⟩
      refine State.not_inService_of_wait outstanding fun served => ?_
      simp [served] at waits
    case isFalse calm =>
      refine .inr ⟨rfl, fun o' same => ?_⟩
      rwa [← Option.some.inj (outstanding.symm.trans same)]

/-- R39: with the waits of the listed heads ended, the rest is as it was. -/
structure Cancelled (heads : List HeadNo) (s t : State) : Prop where
  rest : ∃ units links, t = { s with heads := units, links := links }
  calm : ∀ h ∈ heads, ∀ o, (t.head h).outstanding = some o → ¬o.Waits
  served : ∀ h, (t.head h).inService = (s.head h).inService
  others : ∀ h ∉ heads, t.head h = s.head h

theorem Cancelled.bare {heads : List HeadNo} (cancelled : Cancelled heads s t) (bare : Bare s) : Bare t := by
  obtain ⟨_, _, rfl⟩ := cancelled.rest
  exact ⟨⟨bare.dir, bare.waiting, bare.timer⟩, bare.slots⟩

theorem Cancelled.granted {heads : List HeadNo} (cancelled : Cancelled heads s t) (grant : s.desk.Granted []) :
    t.desk.Granted [] := by
  obtain ⟨units, links, rest⟩ := cancelled.rest
  have granted : t.desk.granted = s.desk.granted := by rw [rest]; rfl
  have presents : ∀ q, t.desk.Presents q ↔ s.desk.Presents q := by
    intro q
    cases q with
    | hu h => rw [← State.presents_iff, ← State.presents_iff, State.presents, State.presents, cancelled.served]
    | cp => rw [rest]; rfl
    | ce => rw [rest]; rfl
  simp only [Desk.Granted, granted, presents]
  exact grant

theorem cancelled_cancelWaits (bare : Bare s) (h : HeadNo) : Cancelled [h] s (s.cancelWaits h) := by
  obtain ⟨⟨hu, l, idle, ended⟩, unserved⟩ | ⟨same, calm⟩ := ends_cancelWaits bare h
  · have own : (s.cancelWaits h).head h = hu := by
      rw [ended]
      exact Bank.at_put_same _ _ _
    have other : ∀ g, g ≠ h → (s.cancelWaits h).head g = s.head g := fun g apart => by
      rw [ended]
      exact Bank.at_put_other _ _ _ _ apart
    refine ⟨⟨_, _, ended⟩, fun g listed o outstanding => ?_, fun g => ?_, fun g outside => other g (by simpa using outside)⟩
    · rw [List.mem_singleton.1 listed, own] at outstanding
      simp [Outstanding.Waits, idle o outstanding]
    · by_cases here : g = h
      · rw [here, own, unserved, HeadUnit.inService]
        cases outstanding : hu.outstanding with
        | none => rfl
        | some o => simp [idle o outstanding]
      · rw [other g here]
  · rw [same]
    refine ⟨⟨s.heads, s.links, rfl⟩, fun g listed => ?_, fun _ => rfl, fun _ _ => rfl⟩
    rwa [List.mem_singleton.1 listed]

theorem cancelled_foldl {heads : List HeadNo} (distinct : heads.Nodup) (bare : Bare s) :
    Cancelled heads s (heads.foldl State.cancelWaits s) := by
  induction heads generalizing s with
  | nil => exact ⟨⟨s.heads, s.links, rfl⟩, nofun, fun _ => rfl, fun _ _ => rfl⟩
  | cons h rest ih =>
    obtain ⟨new, distinct⟩ := List.nodup_cons.1 distinct
    have first := cancelled_cancelWaits bare h
    have later := ih distinct (first.bare bare)
    rw [List.foldl_cons]
    refine ⟨?_, fun g listed o outstanding => ?_, fun g => (later.served g).trans (first.served g), fun g outside => ?_⟩
    · obtain ⟨_, _, second⟩ := later.rest
      obtain ⟨_, _, one⟩ := first.rest
      exact ⟨_, _, by rw [second, one]⟩
    · by_cases further : g ∈ rest
      · exact later.calm g further o outstanding
      · rw [later.others g further] at outstanding
        exact first.calm g (by simpa [further] using listed) o outstanding
    · obtain ⟨other, outside⟩ := not_or.1 (List.mem_cons.not.1 outside)
      rw [later.others g outside]
      exact first.others g (by simpa using other)

theorem orderly_of_bare {A : Prop} (bare : Bare s) (calm : ∀ h o, (s.head h).outstanding = some o → ¬o.Waits)
    (grant : A → s.desk.Granted []) : s.desk.Orderly A [] [] := by
  have absent : ∀ k, s.entry k = none := fun k => by rw [State.entry, bare.dir]; rfl
  have owner : ∀ k, s.desk.owner k = none := fun k => by simp [State.desk, State.ownerOf, absent]
  have waiters : ∀ k, s.desk.waiters k = [] := fun k => by simp [State.desk, State.waitersOf, absent]
  have slots : ∀ h, s.desk.slots h = [] := bare.slots
  have timed : ∀ h, s.desk.timed h = false := fun h => by simp [State.desk, bare.timer]
  have parked : s.desk.parked = [] := bare.waiting
  have idle : ∀ h, ¬s.desk.Waiting h := by
    rintro h ⟨j, waits⟩
    simp only [State.desk, Option.map_eq_some_iff, Prod.mk.injEq] at waits
    obtain ⟨o, outstanding, wait, -⟩ | ⟨o, outstanding, wait, -⟩ := waits
    · exact calm h o outstanding (.inl wait)
    · exact calm h o outstanding (.inr wait)
  constructor
  case grant => exact grant
  case waits => exact fun h j waits => absurd ⟨j, .inl waits⟩ (idle h)
  case parks =>
    intro h
    simp only [parked, List.not_mem_nil, not_false_eq_true, true_and, false_iff]
    exact fun ⟨j, waits⟩ => idle h ⟨j, .inr waits⟩
  all_goals simp [owner, waiters, slots, timed, parked]

/-- R39, R64: CLEAR WORK, with the Copy Engine's access withdrawn. -/
theorem orderly_clearWork {A : Prop} (ord : s.desk.Orderly A [] []) : s.clearWork.desk.Orderly A [] [] := by
  have bare : Bare (s.cleared.withdraw .ce) := by
    refine ⟨s.cleared_emptied .ce, fun h => ?_⟩
    rw [State.withdraw_eq]
    exact congrArg ClaimUnit.slots (Bank.at_map ..)
  have cancelled := cancelled_foldl (by decide : allHeads.Nodup) bare
  rw [State.clearWork_eq, State.desk_accept]
  refine orderly_of_bare (cancelled.bare bare) (fun h => cancelled.calm h (mem_allHeads h)) fun a => ?_
  have presents : ∀ q, q ≠ .ce → (s.cleared.desk.Presents q ↔ s.desk.Presents q) := by
    intro q other
    cases q with
    | hu h =>
      rw [← State.presents_iff, ← State.presents_iff, State.presents, State.presents, State.cleared_head]
      cases outstanding : (s.head h).outstanding <;> simp [HeadUnit.inService, outstanding]
    | cp => rfl
    | ce => exact absurd rfl other
  obtain ⟨served, free⟩ := ord.grant a
  have withdrawn : (s.cleared.withdraw .ce).desk.Granted [] := by
    refine granted_withdraw (fun q is other => (presents q other).2 (served q is).1) fun none q presented => ?_
    by_cases own : q = .ce
    · subst own
      exact nomatch presented
    · exact free none q (fun _ aside => absurd aside List.not_mem_nil) ((presents q own).1 presented)
  exact cancelled.granted withdrawn

end

end Sys2Proof.Machine
end

section
/-! PROOFS. R19, R56, R60, R99, R104, R112: every command keeps claims, waits and grants in order. -/

namespace Sys2Proof.Machine

open Sys2Proof.Safety

section

variable {A : Prop} {s : State} {h : HeadNo} {k : TileKey}

/-! ## The decoder's commands -/

theorem State.desk_onPort {f : Port → Port} (unit : (f s.port).unit = s.port.unit) : (s.onPort f).desk = s.desk := by
  ext1
  case port => exact congrArg Option.isSome unit
  all_goals rfl

/-- A tile that is not LIVE, nor returns to it, has no owner. -/
theorem Desk.Orderly.unowned (ord : s.desk.Orderly A [] []) {e : Entry} (resident : s.entry k = some e)
    (dead : e.state ≠ .live) (settled : e.ret = none) : s.desk.owner k = none := by
  cases owned : s.desk.owner k with
  | none => rfl
  | some h =>
    obtain ⟨-, x, found, live⟩ := ord.claimable h k owned List.not_mem_nil
    obtain rfl := Option.some.inj (resident.symm.trans found)
    simp [dead, settled] at live

/-- R56: an entry of the exact books that is not COPYING has no return state. -/
theorem Books.Exact.settled (exact : s.books.Exact) {e : Entry} (resident : s.entry k = some e)
    (calm : e.state ≠ .copying) : e.ret = none :=
  exact.ret_eq_none (e := e.bare) (State.entry_books resident).1 calm

theorem actionsKeep_orderly (p : Port) :
    ActionsKeep (fun s => Tidy p s ∧ s.desk.Orderly A [] []) (fun _ => True) where
  port f moves holds := ⟨(actionsKeep_tidy p).port f moves holds.1, by
    rw [State.desk_onPort (moves _).1]
    exact holds.2⟩
  attn a holds := ⟨(actionsKeep_tidy p).attn a holds.1, holds.2⟩
  unit u asked holds := ⟨(actionsKeep_tidy p).unit u asked holds.1, orderly_requestUnit holds.2 u⟩
  clear permitted free holds := ⟨(actionsKeep_tidy p).clear permitted free holds.1, orderly_clearWork holds.2⟩
  bind {s h} y cls limit n p0 hold unbound idle holds :=
    ⟨(actionsKeep_tidy p).bind y cls limit n p0 hold unbound idle holds.1, by
      have bound := s.desk_onHead_same h (f := fun hu => hu.bind y cls limit hold) fun _ => rfl
      exact (bound.symm ▸ holds.2 : (s.onHead h (fun hu => hu.bind y cls limit hold)).desk.Orderly A [] [])⟩
  unbind {s h} bound holds := ⟨(actionsKeep_tidy p).unbind bound holds.1, orderly_unbind holds.2 h⟩
  tool {s h} cls limit bound holds := ⟨(actionsKeep_tidy p).tool cls limit bound holds.1, by
    rw [s.desk_onHead_same h (f := fun hu =>
      { hu with toolClass := cls, wearLimit := clampWearLimit limit, wear := 0, worn := false }) fun _ => rfl]
    exact holds.2⟩
  spindle n p0 bound holds := ⟨(actionsKeep_tidy p).spindle n p0 bound holds.1, holds.2⟩
  halt {s h} bound holds := ⟨(actionsKeep_tidy p).halt bound holds.1, orderly_halt holds.2 h⟩
  resume {s h} bound holds := ⟨(actionsKeep_tidy p).resume bound holds.1, by
    rw [s.desk_onHead_same h (f := fun hu => { hu with state := .active }) fun _ => rfl]
    exact holds.2⟩
  stepOn waits holds := ⟨(actionsKeep_tidy p).stepOn waits holds.1, orderly_leaveStepWait holds.2 List.not_mem_nil waits⟩
  opens closed absent free holds := ⟨(actionsKeep_tidy p).opens closed absent free holds.1, by
    rw [State.desk_onLoad, State.desk_createEntry absent (state := .filling) (by decide)]
    exact holds.2⟩
  retireFilling free resident filling holds := ⟨(actionsKeep_tidy p).retireFilling free resident filling holds.1, by
    have settled := holds.1.exact.settled resident (by simp [filling])
    have unowned := holds.2.unowned resident (by simp [filling]) settled
    exact orderly_removeEntry holds.2 (State.keysDistinct_of_books holds.1.exact) resident unowned⟩
  retireLive resident live unclaimed holds := ⟨(actionsKeep_tidy p).retireLive resident live unclaimed holds.1,
    orderly_removeEntry holds.2 (State.keysDistinct_of_books holds.1.exact) resident
      ((State.ownerOf_some resident).trans unclaimed)⟩
  retireDone resident finished holds := ⟨(actionsKeep_tidy p).retireDone resident finished holds.1, by
    have settled := holds.1.exact.settled resident (by simp [finished])
    have unowned := holds.2.unowned resident (by simp [finished]) settled
    exact orderly_removeEntry holds.2 (State.keysDistinct_of_books holds.1.exact) resident unowned⟩
  duplicate resident ready idle absent free holds :=
    ⟨(actionsKeep_tidy p).duplicate resident ready idle absent free holds.1, by
      have settled := holds.1.exact.settled resident (by rcases ready with state | state <;> simp [state])
      exact orderly_acceptDuplicate holds.2 resident settled absent⟩
  breakClaim owned holds := ⟨(actionsKeep_tidy p).breakClaim owned holds.1, (orderly_release holds.2 owned).1⟩
  takeDone done holds := ⟨(actionsKeep_tidy p).takeDone done holds.1, holds.2⟩
  emptyHold permitted holds := ⟨(actionsKeep_tidy p).emptyHold permitted holds.1, holds.2⟩

/-- R5: a copy record without tiles decides no claim. -/
theorem orderly_onCopy (ord : s.desk.Orderly A [] []) {y : CopyNo} (bare : s.hasTiles y = false)
    (f : CopyRecord → CopyRecord) : (s.onCopy y f).desk.Orderly A [] [] := by
  refine { ord with claimable := fun h k owned away => ?_ }
  obtain ⟨shared, e, resident, live⟩ := ord.claimable h k owned away
  obtain ⟨listed, key⟩ := State.entry_eq_some resident
  have other : k.copy ≠ y := by
    rintro rfl
    simp only [State.hasTiles, List.any_eq_false, decide_eq_true_eq] at bare
    exact bare e listed (congrArg TileKey.copy key)
  refine ⟨?_, e, resident, live⟩
  rwa [show (s.onCopy y f).copy k.copy = s.copy k.copy from Bank.at_put_other _ _ _ _ other]

theorem settingsKeep_orderly (p : Port) : SettingsKeep (fun s => TidySetup p s ∧ s.desk.Orderly A [] []) where
  port f moves holds := ⟨(settingsKeep_tidySetup p).port f moves holds.1, by
    rw [State.desk_onPort (moves _).1]
    exact holds.2⟩
  attn a holds := ⟨(settingsKeep_tidySetup p).attn a holds.1, holds.2⟩
  unit u asked holds := ⟨(settingsKeep_tidySetup p).unit u asked holds.1, orderly_requestUnit holds.2 u⟩
  stepOn waits holds := ⟨(settingsKeep_tidySetup p).stepOn waits holds.1, orderly_leaveStepWait holds.2 List.not_mem_nil waits⟩
  timebase n holds := ⟨(settingsKeep_tidySetup p).timebase n holds.1, holds.2⟩
  copyValue {s y} f setting stores holds := ⟨(settingsKeep_tidySetup p).copyValue f setting stores holds.1,
    orderly_onCopy holds.2 (holds.1.bare setting) f⟩
  bandValue y b f stores holds := ⟨(settingsKeep_tidySetup p).bandValue y b f stores holds.1, holds.2⟩
  edge move holds := ⟨(settingsKeep_tidySetup p).edge move holds.1, holds.2⟩
  stepMode {s} h on holds := ⟨(settingsKeep_tidySetup p).stepMode h on holds.1, by
    rw [s.desk_onHead_same h (f := fun hu => { hu with stepMode := on }) fun _ => rfl]
    exact holds.2⟩

theorem goesAlong_orderly : GoesAlong (fun s => s.desk.Orderly A [] []) where
  port f unit ord := by
    rw [State.desk_onPort (unit _)]
    exact ord
  attn _ ord := ord
  acts := actionsKeep_orderly
  stores := settingsKeep_orderly

/-! ## Every move -/

theorem Moves.orderly {i : Instr} {s t : State} (moves : Moves i s t) (exact : DirectoryExact s)
    (ord : s.desk.Orderly A [] []) : t.desk.Orderly A [] [] := by
  obtain ⟨books, units, setup⟩ := directoryExact_iff.1 exact
  cases moves
  case reset =>
    obtain ⟨-, -, exact', claims, waits, arbiter, -⟩ := resetMeetsInvariants
    exact (orderly_iff exact').2 ⟨claims, waits, fun _ => arbiter⟩
  case wireByte line value early =>
    rwa [State.desk_onPort (f := fun p => p.takeByte line value early) (Port.takeByte_unit _ _ _ _)]
  case decodes b rest free _ _ =>
    exact (KeptWith.decodeByte goesAlong_orderly ⟨⟨books, units, setup⟩, ord⟩ b rest free).along
  case portUnit u _ => exact orderly_runUnit ord.ungranted u
  case probeUnit h o k granted _ => exact orderly_probeUnit ord.ungranted granted
  case reportUnit h o k granted _ => exact orderly_reportUnit ord.ungranted granted
  case transfer job busy _ =>
    refine orderly_copyUnit ord.ungranted fun e resident => ?_
    obtain ⟨listed, key⟩ := State.entry_books resident
    exact (books.copying e.bare listed).2 ⟨job, busy, .inl key⟩
  case request h kind tag row col depth => exact orderly_requestArrives (s := s.huntAgain h) ord List.not_mem_nil _
  case linkReset h => exact orderly_linkReset (s := s.huntAgain h) ord h
  case badFrame h =>
    have same : (s.badFrame h).desk = s.desk := by
      rw [State.badFrame, State.queueBadFrame]
      split <;> rfl
    rwa [same]
  case answerSent h =>
    have same : (s.answerSent h).desk = s.desk := by
      rw [State.answerSent]
      split <;> rfl
    rwa [same]
  case stall h _ =>
    have same : (s.stallEntry h).desk = s.desk := by
      rw [State.stallEntry]
      split <;> rfl
    rwa [same]
  case expiry h brink => exact orderly_holdExpiry ord List.not_mem_nil brink
  case tick => exact orderly_tick ord
  all_goals exact ord

end

/-- Settles O58: the order of the desk is kept by every move, with the grant and without. -/
theorem waitsAndGrantsStayInOrder : Obligations.WaitsAndGrantsStayInOrder := by
  have kept : ∀ A : Prop, KeptByEveryStep (fun s => DirectoryExact s ∧ s.desk.Orderly A [] []) := fun A =>
    keptByEveryStep_of_moves (fun _ _ holds => holds) fun {i s t} holds moves => by
      obtain ⟨exact, ord⟩ := holds
      obtain ⟨books, units, setup⟩ := directoryExact_iff.1 exact
      obtain ⟨books', units', setup'⟩ := moves.kept ⟨books, units, setup⟩
      exact ⟨directoryExact_iff.2 ⟨books', units', setup'⟩, moves.orderly exact ord⟩
  refine ⟨fun s t ⟨exact, claims, waits⟩ stepped => ?_, fun s t ⟨exact, claims, waits, arbiter⟩ stepped => ?_⟩
  · obtain ⟨exact', ord⟩ := kept False s t ⟨exact, (orderly_iff exact).2 ⟨claims, waits, False.elim⟩⟩ stepped
    obtain ⟨claims', waits', -⟩ := (orderly_iff exact').1 ord
    exact ⟨exact', claims', waits'⟩
  · obtain ⟨exact', ord⟩ := kept True s t ⟨exact, (orderly_iff exact).2 ⟨claims, waits, fun _ => arbiter⟩⟩ stepped
    obtain ⟨claims', waits', arbiter'⟩ := (orderly_iff exact').1 ord
    exact ⟨exact', claims', waits', arbiter' trivial⟩

end Sys2Proof.Machine
end
